-- ==== Sys2Proof/Word.lean ====
section
/-!
DEFINITION. The word types of the device (R3: registers are 32 bits wide; a line is 64 bytes, a granule 16 KiB).
-/
namespace Sys2Proof

/-- One byte. -/
abbrev Byte := BitVec 8

/-- A register word (R3). -/
abbrev Word := BitVec 32

/-- The 64-byte unit of a CXL.mem access. -/
abbrev Line := BitVec 512

/-- A NOR, NAND or staging byte string. -/
abbrev Bytes := List Byte

/-- A device address (DPA): 40 bits reach 1 TiB (R55). -/
abbrev Dpa := BitVec 40

end Sys2Proof
end

