-- ==== Sys2Proof/Machine/RegTable.lean ====
section
/-!
DEFINITION. The registers of the BAR2 window (R463, R464; Tables 21-2 to 21-17) with the field types of each register's own
chapter (Table 0-3): offset, number in an array, row of Table 17-1, and the bit masks of the fields by access type. RO
bits are in no mask.
-/
namespace Sys2Proof.Machine

/-- A register, or an array of registers at successive words. RWA fields count as RW: their named authority is the row's
(R7, Table 17-1). -/
structure RegRow where
  off : Nat
  num : Nat
  row : Nat
  rw : Nat
  rwl : Nat
  w1c : Nat
  w1s : Nat
  wo : Nat
  ros : Nat
  reset : Nat
  deriving DecidableEq, Repr

/-- Offset of CORE_MODE. -/
abbrev Reg.CORE_MODE : Nat := 0x10
/-- Offset of CORE_MODE_REQ. -/
abbrev Reg.CORE_MODE_REQ : Nat := 0x14
/-- Offset of CORE_MODE_RESULT. -/
abbrev Reg.CORE_MODE_RESULT : Nat := 0x18
/-- Offset of CORE_READY. -/
abbrev Reg.CORE_READY : Nat := 0x20
/-- Offset of CORE_READY_LATCH. -/
abbrev Reg.CORE_READY_LATCH : Nat := 0x24
/-- Offset of CORE_READY_IEN. -/
abbrev Reg.CORE_READY_IEN : Nat := 0x28
/-- Offset of CORE_BOOT. -/
abbrev Reg.CORE_BOOT : Nat := 0x30
/-- Offset of CORE_LOCK. -/
abbrev Reg.CORE_LOCK : Nat := 0x34
/-- Offset of CORE_LAND_T1. -/
abbrev Reg.CORE_LAND_T1 : Nat := 0x40
/-- Offset of CORE_LAND_T2. -/
abbrev Reg.CORE_LAND_T2 : Nat := 0x44
/-- Offset of CORE_POWER_TIMES. -/
abbrev Reg.CORE_POWER_TIMES : Nat := 0x48
/-- Offset of CORE_FW_STATUS. -/
abbrev Reg.CORE_FW_STATUS : Nat := 0x100
/-- Offset of CORE_WDOG. -/
abbrev Reg.CORE_WDOG : Nat := 0x104
/-- Offset of CORE_WDOG_CFG. -/
abbrev Reg.CORE_WDOG_CFG : Nat := 0x108
/-- Offset of CORE_FW_NAND_LOC. -/
abbrev Reg.CORE_FW_NAND_LOC : Nat := 0x110
/-- Offset of CORE_FW_NAND_CMD. -/
abbrev Reg.CORE_FW_NAND_CMD : Nat := 0x114
/-- Offset of CORE_BULK. -/
abbrev Reg.CORE_BULK : Nat := 0x200
/-- Offset of CORE_BULK_LAST. -/
abbrev Reg.CORE_BULK_LAST : Nat := 0x204
/-- Offset of CORE_BULK_ADDR. -/
abbrev Reg.CORE_BULK_ADDR : Nat := 0x208
/-- Offset of CORE_BULK_PC. -/
abbrev Reg.CORE_BULK_PC : Nat := 0x20C
/-- Offset of CORE_BULK_COUNT. -/
abbrev Reg.CORE_BULK_COUNT : Nat := 0x210
/-- Offset of HLNK_LINK_STATUS. -/
abbrev Reg.HLNK_LINK_STATUS : Nat := 0x10000
/-- Offset of HLNK_LINK_CTL. -/
abbrev Reg.HLNK_LINK_CTL : Nat := 0x10004
/-- Offset of HLNK_CREDITS. -/
abbrev Reg.HLNK_CREDITS : Nat := 0x10008
/-- Offset of HLNK_INFLIGHT. -/
abbrev Reg.HLNK_INFLIGHT : Nat := 0x1000C
/-- Offset of HLNK_DEVLOAD. -/
abbrev Reg.HLNK_DEVLOAD : Nat := 0x10010
/-- Offset of HLNK_ERR. -/
abbrev Reg.HLNK_ERR : Nat := 0x10020
/-- Offset of HLNK_ERR_ADDR_LO. -/
abbrev Reg.HLNK_ERR_ADDR_LO : Nat := 0x10024
/-- Offset of HLNK_ERR_ADDR_HI. -/
abbrev Reg.HLNK_ERR_ADDR_HI : Nat := 0x10028
/-- Offset of HLNK_MMIO_STATUS. -/
abbrev Reg.HLNK_MMIO_STATUS : Nat := 0x1002C
/-- Offset of HLNK_POISON_TX. -/
abbrev Reg.HLNK_POISON_TX : Nat := 0x10030
/-- Offset of HLNK_POISON_RX. -/
abbrev Reg.HLNK_POISON_RX : Nat := 0x10034
/-- Offset of HLNK_GPF. -/
abbrev Reg.HLNK_GPF : Nat := 0x10038
/-- Offset of HLNK_LD_ALLOC (array of 16). -/
abbrev Reg.HLNK_LD_ALLOC : Nat := 0x10040
/-- Offset of FAB_STATUS. -/
abbrev Reg.FAB_STATUS : Nat := 0x20000
/-- Offset of FAB_TIDE. -/
abbrev Reg.FAB_TIDE : Nat := 0x20004
/-- Offset of FAB_TIDE_EXTREMES. -/
abbrev Reg.FAB_TIDE_EXTREMES : Nat := 0x20008
/-- Offset of FAB_TIDE_GAUGE (array of 5). -/
abbrev Reg.FAB_TIDE_GAUGE : Nat := 0x20010
/-- Offset of FAB_TIDE_CTL. -/
abbrev Reg.FAB_TIDE_CTL : Nat := 0x20024
/-- Offset of FAB_AVS. -/
abbrev Reg.FAB_AVS : Nat := 0x20028
/-- Offset of FAB_AVS_STATUS. -/
abbrev Reg.FAB_AVS_STATUS : Nat := 0x2002C
/-- Offset of FAB_TIDE_CAL (array of 5). -/
abbrev Reg.FAB_TIDE_CAL : Nat := 0x20030
/-- Offset of FAB_STALL_LIMIT. -/
abbrev Reg.FAB_STALL_LIMIT : Nat := 0x20050
/-- Offset of FAB_ERR. -/
abbrev Reg.FAB_ERR : Nat := 0x20054
/-- Offset of FAB_STALL. -/
abbrev Reg.FAB_STALL : Nat := 0x20058
/-- Offset of DCTL_STATUS. -/
abbrev Reg.DCTL_STATUS : Nat := 0x30000
/-- Offset of DCTL_CONFIG. -/
abbrev Reg.DCTL_CONFIG : Nat := 0x30008
/-- Offset of DCTL_PAGE. -/
abbrev Reg.DCTL_PAGE : Nat := 0x3000C
/-- Offset of DCTL_REFRESH. -/
abbrev Reg.DCTL_REFRESH : Nat := 0x30010
/-- Offset of DCTL_TEMP. -/
abbrev Reg.DCTL_TEMP : Nat := 0x30014
/-- Offset of DCTL_PWR. -/
abbrev Reg.DCTL_PWR : Nat := 0x30018
/-- Offset of DCTL_RH. -/
abbrev Reg.DCTL_RH : Nat := 0x3001C
/-- Offset of DCTL_RH_STATUS. -/
abbrev Reg.DCTL_RH_STATUS : Nat := 0x30020
/-- Offset of DCTL_TIMING0. -/
abbrev Reg.DCTL_TIMING0 : Nat := 0x30040
/-- Offset of DCTL_TIMING1. -/
abbrev Reg.DCTL_TIMING1 : Nat := 0x30044
/-- Offset of DCTL_TIMING2. -/
abbrev Reg.DCTL_TIMING2 : Nat := 0x30048
/-- Offset of DCTL_ERR. -/
abbrev Reg.DCTL_ERR : Nat := 0x30080
/-- Offset of DCTL_ERR_ADDR_LO. -/
abbrev Reg.DCTL_ERR_ADDR_LO : Nat := 0x30084
/-- Offset of DCTL_ERR_ADDR_HI. -/
abbrev Reg.DCTL_ERR_ADDR_HI : Nat := 0x30088
/-- Offset of DCTL_ECC_COUNT. -/
abbrev Reg.DCTL_ECC_COUNT : Nat := 0x3008C
/-- Offset of DCTL_CE_TOTAL_LO. -/
abbrev Reg.DCTL_CE_TOTAL_LO : Nat := 0x30090
/-- Offset of DCTL_CE_TOTAL_HI. -/
abbrev Reg.DCTL_CE_TOTAL_HI : Nat := 0x30094
/-- Offset of DCTL_CE_THR. -/
abbrev Reg.DCTL_CE_THR : Nat := 0x30098
/-- Offset of DCTL_REPLAY. -/
abbrev Reg.DCTL_REPLAY : Nat := 0x3009C
/-- Offset of DCTL_CE_COMP (array of 80). -/
abbrev Reg.DCTL_CE_COMP : Nat := 0x30200
/-- Offset of DCTL_BQ_OCC (array of 128). -/
abbrev Reg.DCTL_BQ_OCC : Nat := 0x30400
/-- Offset of DCTL_TRN_STATUS. -/
abbrev Reg.DCTL_TRN_STATUS : Nat := 0x38000
/-- Offset of DCTL_TRN_CMD. -/
abbrev Reg.DCTL_TRN_CMD : Nat := 0x38004
/-- Offset of DCTL_TRN_SWEEP. -/
abbrev Reg.DCTL_TRN_SWEEP : Nat := 0x38008
/-- Offset of DCTL_TRN_PERIODIC. -/
abbrev Reg.DCTL_TRN_PERIODIC : Nat := 0x38020
/-- Offset of DCTL_TRN_DRIFT. -/
abbrev Reg.DCTL_TRN_DRIFT : Nat := 0x38024
/-- Offset of DCTL_SR_CTL. -/
abbrev Reg.DCTL_SR_CTL : Nat := 0x38040
/-- Offset of DCTL_SR_STATUS. -/
abbrev Reg.DCTL_SR_STATUS : Nat := 0x38044
/-- Offset of DCTL_FREQ_REQ. -/
abbrev Reg.DCTL_FREQ_REQ : Nat := 0x38050
/-- Offset of DCTL_FREQ_STATUS. -/
abbrev Reg.DCTL_FREQ_STATUS : Nat := 0x38054
/-- Offset of DCTL_TRN_ERR. -/
abbrev Reg.DCTL_TRN_ERR : Nat := 0x38060
/-- Offset of DCTL_TRN_EYE (array of 320). -/
abbrev Reg.DCTL_TRN_EYE : Nat := 0x38100
/-- Offset of GMAP_STATUS. -/
abbrev Reg.GMAP_STATUS : Nat := 0x40000
/-- Offset of GMAP_GEOMETRY. -/
abbrev Reg.GMAP_GEOMETRY : Nat := 0x40004
/-- Offset of GMAP_REGION_BASE_LO. -/
abbrev Reg.GMAP_REGION_BASE_LO : Nat := 0x40008
/-- Offset of GMAP_REGION_BASE_HI. -/
abbrev Reg.GMAP_REGION_BASE_HI : Nat := 0x4000C
/-- Offset of GMAP_CACHE_CTL. -/
abbrev Reg.GMAP_CACHE_CTL : Nat := 0x40010
/-- Offset of GMAP_CACHE_HITS. -/
abbrev Reg.GMAP_CACHE_HITS : Nat := 0x40014
/-- Offset of GMAP_CACHE_MISSES. -/
abbrev Reg.GMAP_CACHE_MISSES : Nat := 0x40018
/-- Offset of GMAP_MAPDIRTY. -/
abbrev Reg.GMAP_MAPDIRTY : Nat := 0x40020
/-- Offset of GMAP_MAPDIRTY_CAP. -/
abbrev Reg.GMAP_MAPDIRTY_CAP : Nat := 0x40024
/-- Offset of GMAP_CKPT_CTL. -/
abbrev Reg.GMAP_CKPT_CTL : Nat := 0x40028
/-- Offset of GMAP_CKPT_SEQ_LO. -/
abbrev Reg.GMAP_CKPT_SEQ_LO : Nat := 0x4002C
/-- Offset of GMAP_CKPT_SEQ_HI. -/
abbrev Reg.GMAP_CKPT_SEQ_HI : Nat := 0x40030
/-- Offset of GMAP_COUNT_UNRESTORED. -/
abbrev Reg.GMAP_COUNT_UNRESTORED : Nat := 0x40034
/-- Offset of GMAP_COUNT_POISONED. -/
abbrev Reg.GMAP_COUNT_POISONED : Nat := 0x40038
/-- Offset of GMAP_ERR. -/
abbrev Reg.GMAP_ERR : Nat := 0x40040
/-- Offset of GMAP_ERR_COUNT. -/
abbrev Reg.GMAP_ERR_COUNT : Nat := 0x40044
/-- Offset of GMAP_LOOKUP_IDX. -/
abbrev Reg.GMAP_LOOKUP_IDX : Nat := 0x40050
/-- Offset of GMAP_LOOKUP_LO. -/
abbrev Reg.GMAP_LOOKUP_LO : Nat := 0x40054
/-- Offset of GMAP_LOOKUP_HI. -/
abbrev Reg.GMAP_LOOKUP_HI : Nat := 0x40058
/-- Offset of GMAP_REBUILD. -/
abbrev Reg.GMAP_REBUILD : Nat := 0x40060
/-- Offset of FERY_STATUS. -/
abbrev Reg.FERY_STATUS : Nat := 0x50000
/-- Offset of FERY_CTL. -/
abbrev Reg.FERY_CTL : Nat := 0x50004
/-- Offset of FERY_SHARE. -/
abbrev Reg.FERY_SHARE : Nat := 0x50008
/-- Offset of FERY_AGING. -/
abbrev Reg.FERY_AGING : Nat := 0x5000C
/-- Offset of FERY_SWEEP. -/
abbrev Reg.FERY_SWEEP : Nat := 0x50010
/-- Offset of FERY_QUIET. -/
abbrev Reg.FERY_QUIET : Nat := 0x50014
/-- Offset of FERY_SWEEP_STATUS. -/
abbrev Reg.FERY_SWEEP_STATUS : Nat := 0x50018
/-- Offset of FERY_CANDIDATES. -/
abbrev Reg.FERY_CANDIDATES : Nat := 0x5001C
/-- Offset of FERY_COMMITS_LO. -/
abbrev Reg.FERY_COMMITS_LO : Nat := 0x50020
/-- Offset of FERY_COMMITS_HI. -/
abbrev Reg.FERY_COMMITS_HI : Nat := 0x50024
/-- Offset of FERY_RATE. -/
abbrev Reg.FERY_RATE : Nat := 0x50028
/-- Offset of FERY_FOLD_PENDING. -/
abbrev Reg.FERY_FOLD_PENDING : Nat := 0x5002C
/-- Offset of FERY_ERR. -/
abbrev Reg.FERY_ERR : Nat := 0x50040
/-- Offset of FERY_ERR_COUNT. -/
abbrev Reg.FERY_ERR_COUNT : Nat := 0x50044
/-- Offset of FERY_BUDGET_BYTES_LO. -/
abbrev Reg.FERY_BUDGET_BYTES_LO : Nat := 0x50100
/-- Offset of FERY_BUDGET_BYTES_HI. -/
abbrev Reg.FERY_BUDGET_BYTES_HI : Nat := 0x50104
/-- Offset of FERY_DIRTY_BYTES_LO. -/
abbrev Reg.FERY_DIRTY_BYTES_LO : Nat := 0x50108
/-- Offset of FERY_DIRTY_BYTES_HI. -/
abbrev Reg.FERY_DIRTY_BYTES_HI : Nat := 0x5010C
/-- Offset of FERY_LIM_ENERGY. -/
abbrev Reg.FERY_LIM_ENERGY : Nat := 0x50110
/-- Offset of FERY_LIM_HARD. -/
abbrev Reg.FERY_LIM_HARD : Nat := 0x50114
/-- Offset of FERY_LIM_REGION. -/
abbrev Reg.FERY_LIM_REGION : Nat := 0x50118
/-- Offset of FERY_LIM_CFG. -/
abbrev Reg.FERY_LIM_CFG : Nat := 0x5011C
/-- Offset of FERY_BUDGET_STATE. -/
abbrev Reg.FERY_BUDGET_STATE : Nat := 0x50120
/-- Offset of FERY_PINNED. -/
abbrev Reg.FERY_PINNED : Nat := 0x50124
/-- Offset of FERY_CFG_MAX. -/
abbrev Reg.FERY_CFG_MAX : Nat := 0x50128
/-- Offset of FERY_HOST_CAP. -/
abbrev Reg.FERY_HOST_CAP : Nat := 0x5012C
/-- Offset of FERY_HEALTH_CAP. -/
abbrev Reg.FERY_HEALTH_CAP : Nat := 0x50130
/-- Offset of FERY_ENERGY_K. -/
abbrev Reg.FERY_ENERGY_K : Nat := 0x50134
/-- Offset of FERY_ENERGY_SEED. -/
abbrev Reg.FERY_ENERGY_SEED : Nat := 0x50138
/-- Offset of FERY_ENERGY_FIXED. -/
abbrev Reg.FERY_ENERGY_FIXED : Nat := 0x5013C
/-- Offset of FERY_DERATE. -/
abbrev Reg.FERY_DERATE : Nat := 0x50140
/-- Offset of FERY_ADMIT_THR. -/
abbrev Reg.FERY_ADMIT_THR : Nat := 0x50144
/-- Offset of FERY_ENERGY_INPUT. -/
abbrev Reg.FERY_ENERGY_INPUT : Nat := 0x50148
/-- Offset of FERY_BUDGET_EVENTS. -/
abbrev Reg.FERY_BUDGET_EVENTS : Nat := 0x5014C
/-- Offset of FERY_THRU_WINDOW. -/
abbrev Reg.FERY_THRU_WINDOW : Nat := 0x50150
/-- Offset of FERY_WEAR_BUDGET. -/
abbrev Reg.FERY_WEAR_BUDGET : Nat := 0x50200
/-- Offset of FERY_WEAR_OVERDRAFT. -/
abbrev Reg.FERY_WEAR_OVERDRAFT : Nat := 0x50204
/-- Offset of FERY_WEAR_RATE. -/
abbrev Reg.FERY_WEAR_RATE : Nat := 0x50208
/-- Offset of FERY_WEAR_BAL_LO. -/
abbrev Reg.FERY_WEAR_BAL_LO : Nat := 0x5020C
/-- Offset of FERY_WEAR_BAL_HI. -/
abbrev Reg.FERY_WEAR_BAL_HI : Nat := 0x50210
/-- Offset of FERY_WEAR_FLOOR_LO. -/
abbrev Reg.FERY_WEAR_FLOOR_LO : Nat := 0x50214
/-- Offset of FERY_WEAR_FLOOR_HI. -/
abbrev Reg.FERY_WEAR_FLOOR_HI : Nat := 0x50218
/-- Offset of FERY_WEAR_TOTAL_LO. -/
abbrev Reg.FERY_WEAR_TOTAL_LO : Nat := 0x5021C
/-- Offset of FERY_WEAR_TOTAL_HI. -/
abbrev Reg.FERY_WEAR_TOTAL_HI : Nat := 0x50220
/-- Offset of XING_STATUS. -/
abbrev Reg.XING_STATUS : Nat := 0x60000
/-- Offset of XING_ARM. -/
abbrev Reg.XING_ARM : Nat := 0x60004
/-- Offset of XING_REMAIN. -/
abbrev Reg.XING_REMAIN : Nat := 0x60008
/-- Offset of XING_CARRIED. -/
abbrev Reg.XING_CARRIED : Nat := 0x6000C
/-- Offset of XING_ENERGY_LIVE. -/
abbrev Reg.XING_ENERGY_LIVE : Nat := 0x60010
/-- Offset of XING_QUIESCE_T. -/
abbrev Reg.XING_QUIESCE_T : Nat := 0x60014
/-- Offset of XING_LAST_SEQ_LO. -/
abbrev Reg.XING_LAST_SEQ_LO : Nat := 0x60018
/-- Offset of XING_LAST_SEQ_HI. -/
abbrev Reg.XING_LAST_SEQ_HI : Nat := 0x6001C
/-- Offset of XING_LAST. -/
abbrev Reg.XING_LAST : Nat := 0x60020
/-- Offset of XING_LAST_DURATION. -/
abbrev Reg.XING_LAST_DURATION : Nat := 0x60024
/-- Offset of XING_LAST_CARRIED. -/
abbrev Reg.XING_LAST_CARRIED : Nat := 0x60028
/-- Offset of XING_LAST_ENERGY. -/
abbrev Reg.XING_LAST_ENERGY : Nat := 0x6002C
/-- Offset of XING_LAST_POISONED. -/
abbrev Reg.XING_LAST_POISONED : Nat := 0x60030
/-- Offset of XING_ERR. -/
abbrev Reg.XING_ERR : Nat := 0x60034
/-- Offset of XING_LAND_STATUS. -/
abbrev Reg.XING_LAND_STATUS : Nat := 0x60100
/-- Offset of XING_LAND_CTL. -/
abbrev Reg.XING_LAND_CTL : Nat := 0x60104
/-- Offset of XING_RESTORED. -/
abbrev Reg.XING_RESTORED : Nat := 0x60108
/-- Offset of XING_RESTORE_CURSOR. -/
abbrev Reg.XING_RESTORE_CURSOR : Nat := 0x6010C
/-- Offset of XING_RESTORE_PRIO_BASE. -/
abbrev Reg.XING_RESTORE_PRIO_BASE : Nat := 0x60110
/-- Offset of XING_RESTORE_PRIO_LIMIT. -/
abbrev Reg.XING_RESTORE_PRIO_LIMIT : Nat := 0x60114
/-- Offset of XING_RESTORE_RATE. -/
abbrev Reg.XING_RESTORE_RATE : Nat := 0x60118
/-- Offset of XING_DEMAND_COUNT. -/
abbrev Reg.XING_DEMAND_COUNT : Nat := 0x6011C
/-- Offset of XING_DEMAND_LAT. -/
abbrev Reg.XING_DEMAND_LAT : Nat := 0x60120
/-- Offset of XING_LAND_ERR. -/
abbrev Reg.XING_LAND_ERR : Nat := 0x60124
/-- Offset of XING_LAND_ERR_COUNT. -/
abbrev Reg.XING_LAND_ERR_COUNT : Nat := 0x60128
/-- Offset of XING_LAND_SUSPENDS. -/
abbrev Reg.XING_LAND_SUSPENDS : Nat := 0x6012C
/-- Offset of FLSH_STATUS. -/
abbrev Reg.FLSH_STATUS : Nat := 0x70000
/-- Offset of FLSH_PROFILE. -/
abbrev Reg.FLSH_PROFILE : Nat := 0x70004
/-- Offset of FLSH_BLOCKS. -/
abbrev Reg.FLSH_BLOCKS : Nat := 0x70008
/-- Offset of FLSH_XR_CAP. -/
abbrev Reg.FLSH_XR_CAP : Nat := 0x7000C
/-- Offset of FLSH_XR_FREE. -/
abbrev Reg.FLSH_XR_FREE : Nat := 0x70010
/-- Offset of FLSH_IR_FREE. -/
abbrev Reg.FLSH_IR_FREE : Nat := 0x70014
/-- Offset of FLSH_DIE_LOST (array of 4). -/
abbrev Reg.FLSH_DIE_LOST : Nat := 0x70018
/-- Offset of FLSH_SUSPEND. -/
abbrev Reg.FLSH_SUSPEND : Nat := 0x70028
/-- Offset of FLSH_GROUP. -/
abbrev Reg.FLSH_GROUP : Nat := 0x7002C
/-- Offset of FLSH_GC. -/
abbrev Reg.FLSH_GC : Nat := 0x70030
/-- Offset of FLSH_RETIRE. -/
abbrev Reg.FLSH_RETIRE : Nat := 0x70034
/-- Offset of FLSH_ENDURANCE. -/
abbrev Reg.FLSH_ENDURANCE : Nat := 0x70038
/-- Offset of FLSH_SPARE. -/
abbrev Reg.FLSH_SPARE : Nat := 0x7003C
/-- Offset of FLSH_ERR. -/
abbrev Reg.FLSH_ERR : Nat := 0x70040
/-- Offset of FLSH_ERR_LOC. -/
abbrev Reg.FLSH_ERR_LOC : Nat := 0x70044
/-- Offset of FLSH_COUNT_RETRY. -/
abbrev Reg.FLSH_COUNT_RETRY : Nat := 0x70048
/-- Offset of FLSH_COUNT_RETIRE. -/
abbrev Reg.FLSH_COUNT_RETIRE : Nat := 0x7004C
/-- Offset of FLSH_JOURNAL. -/
abbrev Reg.FLSH_JOURNAL : Nat := 0x70050
/-- Offset of FLSH_CH (array of 16). -/
abbrev Reg.FLSH_CH : Nat := 0x70100
/-- Offset of CHTR_STATUS. -/
abbrev Reg.CHTR_STATUS : Nat := 0x80000
/-- Offset of CHTR_PART. -/
abbrev Reg.CHTR_PART : Nat := 0x80004
/-- Offset of CHTR_CHARTER_SEQ. -/
abbrev Reg.CHTR_CHARTER_SEQ : Nat := 0x80008
/-- Offset of CHTR_CHARTER_LEN. -/
abbrev Reg.CHTR_CHARTER_LEN : Nat := 0x8000C
/-- Offset of CHTR_DESC_0. -/
abbrev Reg.CHTR_DESC_0 : Nat := 0x80010
/-- Offset of CHTR_DESC_1. -/
abbrev Reg.CHTR_DESC_1 : Nat := 0x80014
/-- Offset of CHTR_DESC_2. -/
abbrev Reg.CHTR_DESC_2 : Nat := 0x80018
/-- Offset of CHTR_SUBMIT. -/
abbrev Reg.CHTR_SUBMIT : Nat := 0x8001C
/-- Offset of CHTR_CMPL. -/
abbrev Reg.CHTR_CMPL : Nat := 0x80020
/-- Offset of CHTR_CMPL_ACK. -/
abbrev Reg.CHTR_CMPL_ACK : Nat := 0x80024
/-- Offset of CHTR_PR_ADDR. -/
abbrev Reg.CHTR_PR_ADDR : Nat := 0x80030
/-- Offset of CHTR_PR_CMD. -/
abbrev Reg.CHTR_PR_CMD : Nat := 0x80034
/-- Offset of CHTR_PW (array of 8). -/
abbrev Reg.CHTR_PW : Nat := 0x80040
/-- Offset of CHTR_PW_CMD. -/
abbrev Reg.CHTR_PW_CMD : Nat := 0x80060
/-- Offset of CHTR_PW_STATUS. -/
abbrev Reg.CHTR_PW_STATUS : Nat := 0x80064
/-- Offset of CHTR_ERR. -/
abbrev Reg.CHTR_ERR : Nat := 0x80070
/-- Offset of CHTR_ERR_ADDR. -/
abbrev Reg.CHTR_ERR_ADDR : Nat := 0x80074
/-- Offset of CHTR_BUF (array of 1008). -/
abbrev Reg.CHTR_BUF : Nat := 0x81000
/-- Offset of CIPH_STATUS. -/
abbrev Reg.CIPH_STATUS : Nat := 0x90000
/-- Offset of CIPH_EPOCH. -/
abbrev Reg.CIPH_EPOCH : Nat := 0x90004
/-- Offset of CIPH_LIMIT. -/
abbrev Reg.CIPH_LIMIT : Nat := 0x90008
/-- Offset of CIPH_USED. -/
abbrev Reg.CIPH_USED : Nat := 0x9000C
/-- Offset of CIPH_XING_NEED. -/
abbrev Reg.CIPH_XING_NEED : Nat := 0x90010
/-- Offset of CIPH_CTL. -/
abbrev Reg.CIPH_CTL : Nat := 0x90014
/-- Offset of CIPH_ERR. -/
abbrev Reg.CIPH_ERR : Nat := 0x90018
/-- Offset of CIPH_TAG_FAILS. -/
abbrev Reg.CIPH_TAG_FAILS : Nat := 0x9001C
/-- Offset of CIPH_SEALS_LO. -/
abbrev Reg.CIPH_SEALS_LO : Nat := 0x90020
/-- Offset of CIPH_SEALS_HI. -/
abbrev Reg.CIPH_SEALS_HI : Nat := 0x90024
/-- Offset of CIPH_LANE (array of 16). -/
abbrev Reg.CIPH_LANE : Nat := 0x90100
/-- Offset of CHK_CTL_0. -/
abbrev Reg.CHK_CTL_0 : Nat := 0xA0000
/-- Offset of CHK_VALUE_0. -/
abbrev Reg.CHK_VALUE_0 : Nat := 0xA0004
/-- Offset of CHK_RESULT_0. -/
abbrev Reg.CHK_RESULT_0 : Nat := 0xA0008
/-- Offset of CHK_FEED8_0. -/
abbrev Reg.CHK_FEED8_0 : Nat := 0xA000C
/-- Offset of CHK_FEED16_0. -/
abbrev Reg.CHK_FEED16_0 : Nat := 0xA0010
/-- Offset of CHK_FEED32_0. -/
abbrev Reg.CHK_FEED32_0 : Nat := 0xA0014
/-- Offset of CHK_EXPECT_0. -/
abbrev Reg.CHK_EXPECT_0 : Nat := 0xA0018
/-- Offset of CHK_STATUS_0. -/
abbrev Reg.CHK_STATUS_0 : Nat := 0xA001C
/-- Offset of CHK_CTL_1. -/
abbrev Reg.CHK_CTL_1 : Nat := 0xA0020
/-- Offset of CHK_VALUE_1. -/
abbrev Reg.CHK_VALUE_1 : Nat := 0xA0024
/-- Offset of CHK_RESULT_1. -/
abbrev Reg.CHK_RESULT_1 : Nat := 0xA0028
/-- Offset of CHK_FEED8_1. -/
abbrev Reg.CHK_FEED8_1 : Nat := 0xA002C
/-- Offset of CHK_FEED16_1. -/
abbrev Reg.CHK_FEED16_1 : Nat := 0xA0030
/-- Offset of CHK_FEED32_1. -/
abbrev Reg.CHK_FEED32_1 : Nat := 0xA0034
/-- Offset of CHK_EXPECT_1. -/
abbrev Reg.CHK_EXPECT_1 : Nat := 0xA0038
/-- Offset of CHK_STATUS_1. -/
abbrev Reg.CHK_STATUS_1 : Nat := 0xA003C
/-- Offset of CHK_CTL_2. -/
abbrev Reg.CHK_CTL_2 : Nat := 0xA0040
/-- Offset of CHK_VALUE_2. -/
abbrev Reg.CHK_VALUE_2 : Nat := 0xA0044
/-- Offset of CHK_RESULT_2. -/
abbrev Reg.CHK_RESULT_2 : Nat := 0xA0048
/-- Offset of CHK_FEED8_2. -/
abbrev Reg.CHK_FEED8_2 : Nat := 0xA004C
/-- Offset of CHK_FEED16_2. -/
abbrev Reg.CHK_FEED16_2 : Nat := 0xA0050
/-- Offset of CHK_FEED32_2. -/
abbrev Reg.CHK_FEED32_2 : Nat := 0xA0054
/-- Offset of CHK_EXPECT_2. -/
abbrev Reg.CHK_EXPECT_2 : Nat := 0xA0058
/-- Offset of CHK_STATUS_2. -/
abbrev Reg.CHK_STATUS_2 : Nat := 0xA005C
/-- Offset of CHK_CTL_3. -/
abbrev Reg.CHK_CTL_3 : Nat := 0xA0060
/-- Offset of CHK_VALUE_3. -/
abbrev Reg.CHK_VALUE_3 : Nat := 0xA0064
/-- Offset of CHK_RESULT_3. -/
abbrev Reg.CHK_RESULT_3 : Nat := 0xA0068
/-- Offset of CHK_FEED8_3. -/
abbrev Reg.CHK_FEED8_3 : Nat := 0xA006C
/-- Offset of CHK_FEED16_3. -/
abbrev Reg.CHK_FEED16_3 : Nat := 0xA0070
/-- Offset of CHK_FEED32_3. -/
abbrev Reg.CHK_FEED32_3 : Nat := 0xA0074
/-- Offset of CHK_EXPECT_3. -/
abbrev Reg.CHK_EXPECT_3 : Nat := 0xA0078
/-- Offset of CHK_STATUS_3. -/
abbrev Reg.CHK_STATUS_3 : Nat := 0xA007C
/-- Offset of CHK_CTL_4. -/
abbrev Reg.CHK_CTL_4 : Nat := 0xA0080
/-- Offset of CHK_VALUE_4. -/
abbrev Reg.CHK_VALUE_4 : Nat := 0xA0084
/-- Offset of CHK_RESULT_4. -/
abbrev Reg.CHK_RESULT_4 : Nat := 0xA0088
/-- Offset of CHK_FEED8_4. -/
abbrev Reg.CHK_FEED8_4 : Nat := 0xA008C
/-- Offset of CHK_FEED16_4. -/
abbrev Reg.CHK_FEED16_4 : Nat := 0xA0090
/-- Offset of CHK_FEED32_4. -/
abbrev Reg.CHK_FEED32_4 : Nat := 0xA0094
/-- Offset of CHK_EXPECT_4. -/
abbrev Reg.CHK_EXPECT_4 : Nat := 0xA0098
/-- Offset of CHK_STATUS_4. -/
abbrev Reg.CHK_STATUS_4 : Nat := 0xA009C
/-- Offset of CHK_CTL_5. -/
abbrev Reg.CHK_CTL_5 : Nat := 0xA00A0
/-- Offset of CHK_VALUE_5. -/
abbrev Reg.CHK_VALUE_5 : Nat := 0xA00A4
/-- Offset of CHK_RESULT_5. -/
abbrev Reg.CHK_RESULT_5 : Nat := 0xA00A8
/-- Offset of CHK_FEED8_5. -/
abbrev Reg.CHK_FEED8_5 : Nat := 0xA00AC
/-- Offset of CHK_FEED16_5. -/
abbrev Reg.CHK_FEED16_5 : Nat := 0xA00B0
/-- Offset of CHK_FEED32_5. -/
abbrev Reg.CHK_FEED32_5 : Nat := 0xA00B4
/-- Offset of CHK_EXPECT_5. -/
abbrev Reg.CHK_EXPECT_5 : Nat := 0xA00B8
/-- Offset of CHK_STATUS_5. -/
abbrev Reg.CHK_STATUS_5 : Nat := 0xA00BC
/-- Offset of CHK_CTL_6. -/
abbrev Reg.CHK_CTL_6 : Nat := 0xA00C0
/-- Offset of CHK_VALUE_6. -/
abbrev Reg.CHK_VALUE_6 : Nat := 0xA00C4
/-- Offset of CHK_RESULT_6. -/
abbrev Reg.CHK_RESULT_6 : Nat := 0xA00C8
/-- Offset of CHK_FEED8_6. -/
abbrev Reg.CHK_FEED8_6 : Nat := 0xA00CC
/-- Offset of CHK_FEED16_6. -/
abbrev Reg.CHK_FEED16_6 : Nat := 0xA00D0
/-- Offset of CHK_FEED32_6. -/
abbrev Reg.CHK_FEED32_6 : Nat := 0xA00D4
/-- Offset of CHK_EXPECT_6. -/
abbrev Reg.CHK_EXPECT_6 : Nat := 0xA00D8
/-- Offset of CHK_STATUS_6. -/
abbrev Reg.CHK_STATUS_6 : Nat := 0xA00DC
/-- Offset of CHK_CTL_7. -/
abbrev Reg.CHK_CTL_7 : Nat := 0xA00E0
/-- Offset of CHK_VALUE_7. -/
abbrev Reg.CHK_VALUE_7 : Nat := 0xA00E4
/-- Offset of CHK_RESULT_7. -/
abbrev Reg.CHK_RESULT_7 : Nat := 0xA00E8
/-- Offset of CHK_FEED8_7. -/
abbrev Reg.CHK_FEED8_7 : Nat := 0xA00EC
/-- Offset of CHK_FEED16_7. -/
abbrev Reg.CHK_FEED16_7 : Nat := 0xA00F0
/-- Offset of CHK_FEED32_7. -/
abbrev Reg.CHK_FEED32_7 : Nat := 0xA00F4
/-- Offset of CHK_EXPECT_7. -/
abbrev Reg.CHK_EXPECT_7 : Nat := 0xA00F8
/-- Offset of CHK_STATUS_7. -/
abbrev Reg.CHK_STATUS_7 : Nat := 0xA00FC
/-- Offset of CHK_ERR. -/
abbrev Reg.CHK_ERR : Nat := 0xA0100
/-- Offset of SEQ_STATUS. -/
abbrev Reg.SEQ_STATUS : Nat := 0xB0000
/-- Offset of SEQ_TT_STEP. -/
abbrev Reg.SEQ_TT_STEP : Nat := 0xB0004
/-- Offset of SEQ_RAIL_ON. -/
abbrev Reg.SEQ_RAIL_ON : Nat := 0xB0008
/-- Offset of SEQ_RAIL_FAULTED. -/
abbrev Reg.SEQ_RAIL_FAULTED : Nat := 0xB000C
/-- Offset of SEQ_RAIL_WARNED. -/
abbrev Reg.SEQ_RAIL_WARNED : Nat := 0xB0010
/-- Offset of SEQ_RAIL_LOCKOUT. -/
abbrev Reg.SEQ_RAIL_LOCKOUT : Nat := 0xB0014
/-- Offset of SEQ_ERR. -/
abbrev Reg.SEQ_ERR : Nat := 0xB0018
/-- Offset of SEQ_FF (array of 6). -/
abbrev Reg.SEQ_FF : Nat := 0xB0020
/-- Offset of SEQ_MARGIN. -/
abbrev Reg.SEQ_MARGIN : Nat := 0xB0040
/-- Offset of SEQ_MARGIN_STATUS. -/
abbrev Reg.SEQ_MARGIN_STATUS : Nat := 0xB0044
/-- Offset of SEQ_BELL_CTL. -/
abbrev Reg.SEQ_BELL_CTL : Nat := 0xB0050
/-- Offset of SEQ_BELL_TX. -/
abbrev Reg.SEQ_BELL_TX : Nat := 0xB0054
/-- Offset of SEQ_BELL_STATUS. -/
abbrev Reg.SEQ_BELL_STATUS : Nat := 0xB0058
/-- Offset of SEQ_BELL_COUNT. -/
abbrev Reg.SEQ_BELL_COUNT : Nat := 0xB005C
/-- Offset of SEQ_RAIL (array of 24). -/
abbrev Reg.SEQ_RAIL : Nat := 0xB0100
/-- Offset of BATT_STATUS. -/
abbrev Reg.BATT_STATUS : Nat := 0xC0000
/-- Offset of BATT_ELB. -/
abbrev Reg.BATT_ELB : Nat := 0xC0004
/-- Offset of BATT_Q. -/
abbrev Reg.BATT_Q : Nat := 0xC0008
/-- Offset of BATT_QFULL. -/
abbrev Reg.BATT_QFULL : Nat := 0xC000C
/-- Offset of BATT_V. -/
abbrev Reg.BATT_V : Nat := 0xC0010
/-- Offset of BATT_I. -/
abbrev Reg.BATT_I : Nat := 0xC0014
/-- Offset of BATT_TEMP. -/
abbrev Reg.BATT_TEMP : Nat := 0xC0018
/-- Offset of BATT_CAL. -/
abbrev Reg.BATT_CAL : Nat := 0xC001C
/-- Offset of BATT_CTL. -/
abbrev Reg.BATT_CTL : Nat := 0xC0020
/-- Offset of BATT_RECHARGE. -/
abbrev Reg.BATT_RECHARGE : Nat := 0xC0024
/-- Offset of BATT_ERR. -/
abbrev Reg.BATT_ERR : Nat := 0xC0028
/-- Offset of BATT_THROUGHPUT. -/
abbrev Reg.BATT_THROUGHPUT : Nat := 0xC002C
/-- Offset of BATT_TAPERS. -/
abbrev Reg.BATT_TAPERS : Nat := 0xC0030
/-- Offset of TWB_SB_STATUS. -/
abbrev Reg.TWB_SB_STATUS : Nat := 0xD0000
/-- Offset of TWB_SB_TIMEOUT. -/
abbrev Reg.TWB_SB_TIMEOUT : Nat := 0xD0004
/-- Offset of TWB_SB_ERR. -/
abbrev Reg.TWB_SB_ERR : Nat := 0xD0008
/-- Offset of TWB_SB_COUNT. -/
abbrev Reg.TWB_SB_COUNT : Nat := 0xD000C
/-- Offset of TWB_SB_LAST. -/
abbrev Reg.TWB_SB_LAST : Nat := 0xD0010
/-- Offset of TWB_SB_WINDOW. -/
abbrev Reg.TWB_SB_WINDOW : Nat := 0xD0014
/-- Offset of TWB_SB_EXEC. -/
abbrev Reg.TWB_SB_EXEC : Nat := 0xD0018
/-- Offset of TWB_PM_STATUS. -/
abbrev Reg.TWB_PM_STATUS : Nat := 0xD0100
/-- Offset of TWB_PM_TIMEOUT. -/
abbrev Reg.TWB_PM_TIMEOUT : Nat := 0xD0104
/-- Offset of TWB_PM_ERR. -/
abbrev Reg.TWB_PM_ERR : Nat := 0xD0108
/-- Offset of TWB_PM_COUNT. -/
abbrev Reg.TWB_PM_COUNT : Nat := 0xD010C
/-- Offset of TWB_PM_LAST. -/
abbrev Reg.TWB_PM_LAST : Nat := 0xD0110
/-- Offset of TWB_SV_STATUS. -/
abbrev Reg.TWB_SV_STATUS : Nat := 0xD0200
/-- Offset of TWB_SV_TIMEOUT. -/
abbrev Reg.TWB_SV_TIMEOUT : Nat := 0xD0204
/-- Offset of TWB_SV_ERR. -/
abbrev Reg.TWB_SV_ERR : Nat := 0xD0208
/-- Offset of TWB_SV_COUNT. -/
abbrev Reg.TWB_SV_COUNT : Nat := 0xD020C
/-- Offset of TWB_SV_LAST. -/
abbrev Reg.TWB_SV_LAST : Nat := 0xD0210
/-- Offset of TWB_SV_WINDOW. -/
abbrev Reg.TWB_SV_WINDOW : Nat := 0xD0214
/-- Offset of TWB_SV_EXEC. -/
abbrev Reg.TWB_SV_EXEC : Nat := 0xD0218
/-- Offset of TWB_XFER_CTL. -/
abbrev Reg.TWB_XFER_CTL : Nat := 0xD0400
/-- Offset of TWB_XFER_STATUS. -/
abbrev Reg.TWB_XFER_STATUS : Nat := 0xD0404
/-- Offset of TWB_XFER_DATA (array of 8). -/
abbrev Reg.TWB_XFER_DATA : Nat := 0xD0408
/-- Offset of TWB_SB_NOTIFY. -/
abbrev Reg.TWB_SB_NOTIFY : Nat := 0xD0440
/-- Offset of TWB_SB_NOTIFY_STATUS. -/
abbrev Reg.TWB_SB_NOTIFY_STATUS : Nat := 0xD0444
/-- Offset of LOG_STATUS. -/
abbrev Reg.LOG_STATUS : Nat := 0xE0000
/-- Offset of LOG_NEWEST_LO. -/
abbrev Reg.LOG_NEWEST_LO : Nat := 0xE0004
/-- Offset of LOG_NEWEST_HI. -/
abbrev Reg.LOG_NEWEST_HI : Nat := 0xE0008
/-- Offset of LOG_OLDEST_LO. -/
abbrev Reg.LOG_OLDEST_LO : Nat := 0xE000C
/-- Offset of LOG_OLDEST_HI. -/
abbrev Reg.LOG_OLDEST_HI : Nat := 0xE0010
/-- Offset of LOG_TIME_LO. -/
abbrev Reg.LOG_TIME_LO : Nat := 0xE0014
/-- Offset of LOG_TIME_HI. -/
abbrev Reg.LOG_TIME_HI : Nat := 0xE0018
/-- Offset of LOG_CYCLES. -/
abbrev Reg.LOG_CYCLES : Nat := 0xE001C
/-- Offset of LOG_CTL. -/
abbrev Reg.LOG_CTL : Nat := 0xE0020
/-- Offset of LOG_ERR. -/
abbrev Reg.LOG_ERR : Nat := 0xE0024
/-- Offset of LOG_COUNT. -/
abbrev Reg.LOG_COUNT : Nat := 0xE0028
/-- Offset of UPD_STATUS. -/
abbrev Reg.UPD_STATUS : Nat := 0xF0000
/-- Offset of UPD_SESSION. -/
abbrev Reg.UPD_SESSION : Nat := 0xF0004
/-- Offset of UPD_PIECES. -/
abbrev Reg.UPD_PIECES : Nat := 0xF0008
/-- Offset of UPD_PROGRESS. -/
abbrev Reg.UPD_PROGRESS : Nat := 0xF000C
/-- Offset of UPD_RESULT. -/
abbrev Reg.UPD_RESULT : Nat := 0xF0010
/-- Offset of UPD_CTL. -/
abbrev Reg.UPD_CTL : Nat := 0xF0014
/-- Offset of UPD_TRIAL. -/
abbrev Reg.UPD_TRIAL : Nat := 0xF0018
/-- Offset of UPD_IDLE. -/
abbrev Reg.UPD_IDLE : Nat := 0xF001C
/-- Offset of UPD_ERR. -/
abbrev Reg.UPD_ERR : Nat := 0xF0020
/-- Offset of UPD_FW_VER_A. -/
abbrev Reg.UPD_FW_VER_A : Nat := 0xF0024
/-- Offset of UPD_FW_VER_B. -/
abbrev Reg.UPD_FW_VER_B : Nat := 0xF0028
/-- Offset of UPD_OTHER_SEQ. -/
abbrev Reg.UPD_OTHER_SEQ : Nat := 0xF002C

/-- The registers of block CORE (Table 21-2). -/
def regRowsCore : List RegRow :=
  [⟨0x10, 1, 0x1, 0x0, 0x0, 0x0, 0x0, 0x0, 0x0, 0x101⟩,
   ⟨0x14, 1, 0x4, 0x0, 0x0, 0x0, 0x0, 0xFFFFFFFF, 0x0, 0x0⟩,
   ⟨0x18, 1, 0x1, 0x0, 0x0, 0x0, 0x0, 0x0, 0x0, 0x0⟩,
   ⟨0x20, 1, 0x1, 0x0, 0x0, 0x0, 0x0, 0x0, 0x0, 0x0⟩,
   ⟨0x24, 1, 0x2, 0x0, 0x0, 0xFFFF, 0x0, 0x0, 0x0, 0x0⟩,
   ⟨0x28, 1, 0x4, 0xFFFF, 0x0, 0x0, 0x0, 0x0, 0x0, 0x0⟩,
   ⟨0x30, 1, 0x1, 0x0, 0x0, 0x0, 0x0, 0x0, 0x0, 0x40000⟩,
   ⟨0x34, 1, 0x5, 0x0, 0x0, 0x0, 0x2, 0x0, 0x0, 0x0⟩,
   ⟨0x40, 1, 0x1, 0x0, 0x0, 0x0, 0x0, 0x0, 0xFFFFFF, 0x0⟩,
   ⟨0x44, 1, 0x1, 0x0, 0x0, 0x0, 0x0, 0x0, 0xFFFFFF, 0x0⟩,
   ⟨0x48, 1, 0x4, 0x0, 0xFFFFFF, 0x0, 0x0, 0x0, 0x0, 0x14001E⟩,
   ⟨0x100, 1, 0x1, 0x0, 0x0, 0x0, 0x0, 0x0, 0x0, 0x0⟩,
   ⟨0x104, 1, 0x6, 0x0, 0x0, 0x0, 0x0, 0xFFFFFFFF, 0x0, 0x0⟩,
   ⟨0x108, 1, 0x3, 0x0, 0x3FFF, 0x0, 0x0, 0x0, 0x0, 0x1F4⟩,
   ⟨0x110, 1, 0x6, 0xFFFFFFFF, 0x0, 0x0, 0x0, 0x0, 0x0, 0x0⟩,
   ⟨0x114, 1, 0x6, 0x7, 0x0, 0x0, 0x8, 0x0, 0x0, 0x0⟩,
   ⟨0x200, 1, 0x7, 0x0, 0x0, 0x1FF, 0x0, 0x0, 0x0, 0x0⟩,
   ⟨0x204, 1, 0x1, 0x0, 0x0, 0x0, 0x0, 0x0, 0x0, 0x0⟩,
   ⟨0x208, 1, 0x1, 0x0, 0x0, 0x0, 0x0, 0x0, 0x0, 0x0⟩,
   ⟨0x20C, 1, 0x1, 0x0, 0x0, 0x0, 0x0, 0x0, 0x0, 0x0⟩,
   ⟨0x210, 1, 0x1, 0x0, 0x0, 0x0, 0x0, 0x0, 0x0, 0x0⟩]

/-- The registers of block HLNK (Table 21-3). -/
def regRowsHlnk : List RegRow :=
  [⟨0x10000, 1, 0x1, 0x0, 0x0, 0x0, 0x0, 0x0, 0x0, 0x0⟩,
   ⟨0x10004, 1, 0x2, 0x20, 0x17, 0x0, 0x40, 0x0, 0x0, 0x24⟩,
   ⟨0x10008, 1, 0x1, 0x0, 0x0, 0x0, 0x0, 0x0, 0x0, 0x0⟩,
   ⟨0x1000C, 1, 0x1, 0x0, 0x0, 0x0, 0x0, 0x0, 0x0, 0x0⟩,
   ⟨0x10010, 1, 0x1, 0x0, 0x0, 0x0, 0x0, 0x0, 0x0, 0x0⟩,
   ⟨0x10020, 1, 0x2, 0x0, 0x0, 0x1FF, 0x0, 0x0, 0x0, 0x0⟩,
   ⟨0x10024, 1, 0x1, 0x0, 0x0, 0x0, 0x0, 0x0, 0x0, 0x0⟩,
   ⟨0x10028, 1, 0x1, 0x0, 0x0, 0x0, 0x0, 0x0, 0x0, 0x0⟩,
   ⟨0x1002C, 1, 0x1, 0x0, 0x0, 0x0, 0x0, 0x0, 0x0, 0x0⟩,
   ⟨0x10030, 1, 0x1, 0x0, 0x0, 0x0, 0x0, 0x0, 0x0, 0x0⟩,
   ⟨0x10034, 1, 0x1, 0x0, 0x0, 0x0, 0x0, 0x0, 0x0, 0x0⟩,
   ⟨0x10038, 1, 0x1, 0x0, 0x0, 0x0, 0x0, 0x0, 0x0, 0x0⟩,
   ⟨0x10040, 16, 0x1, 0x0, 0x0, 0x0, 0x0, 0x0, 0x0, 0x0⟩]

/-- The registers of block FAB (Table 21-4). -/
def regRowsFab : List RegRow :=
  [⟨0x20000, 1, 0x1, 0x0, 0x0, 0x0, 0x0, 0x0, 0x0, 0x0⟩,
   ⟨0x20004, 1, 0x1, 0x0, 0x0, 0x0, 0x0, 0x0, 0x0, 0x0⟩,
   ⟨0x20008, 1, 0x2, 0x0, 0x0, 0x0, 0x80000000, 0x0, 0x0, 0xFFF⟩,
   ⟨0x20010, 5, 0x1, 0x0, 0x0, 0x0, 0x0, 0x0, 0x0, 0x0⟩,
   ⟨0x20024, 1, 0x2, 0xFFF0FFF, 0x0, 0x0, 0x0, 0x0, 0x0, 0x30000FA⟩,
   ⟨0x20028, 1, 0x3, 0x0, 0x800FFFFF, 0x0, 0x0, 0x0, 0x0, 0x80033333⟩,
   ⟨0x2002C, 1, 0x1, 0x0, 0x0, 0x0, 0x0, 0x0, 0x0, 0x320⟩,
   ⟨0x20030, 5, 0x1, 0x0, 0x0, 0x0, 0x0, 0x0, 0x0, 0x0⟩,
   ⟨0x20050, 1, 0x3, 0x0, 0xFFFF, 0x0, 0x0, 0x0, 0x0, 0x9C4⟩,
   ⟨0x20054, 1, 0x2, 0x0, 0x0, 0x7, 0x0, 0x0, 0x0, 0x0⟩,
   ⟨0x20058, 1, 0x1, 0x0, 0x0, 0x0, 0x0, 0x0, 0x0, 0x0⟩]

/-- The registers of block DCTL (Table 21-5). -/
def regRowsDctl : List RegRow :=
  [⟨0x30000, 1, 0x1, 0x0, 0x0, 0x0, 0x0, 0x0, 0x0, 0x0⟩,
   ⟨0x30008, 1, 0x3, 0x0, 0x1FF0, 0x0, 0x0, 0x0, 0x0, 0x1B60⟩,
   ⟨0x3000C, 1, 0x2, 0xFF3, 0x0, 0x0, 0x0, 0x0, 0x0, 0x400⟩,
   ⟨0x30010, 1, 0x3, 0x0, 0x1FFFF, 0x0, 0x0, 0x0, 0x0, 0x10F3C⟩,
   ⟨0x30014, 1, 0x1, 0x0, 0x0, 0x0, 0x0, 0x0, 0x0, 0x0⟩,
   ⟨0x30018, 1, 0x2, 0xFF, 0x0, 0x0, 0x0, 0x0, 0x0, 0x4⟩,
   ⟨0x3001C, 1, 0x3, 0x0, 0x80FFFFFF, 0x0, 0x0, 0x0, 0x0, 0x80190400⟩,
   ⟨0x30020, 1, 0x1, 0x0, 0x0, 0x0, 0x0, 0x0, 0x0, 0x0⟩,
   ⟨0x30040, 1, 0x3, 0x0, 0xFFFFFFFF, 0x0, 0x0, 0x0, 0x0, 0xC0804040⟩,
   ⟨0x30044, 1, 0x3, 0x0, 0xFFFF07FF, 0x0, 0x0, 0x0, 0x0, 0x1434019A⟩,
   ⟨0x30048, 1, 0x3, 0x0, 0xFFFFFF, 0x0, 0x0, 0x0, 0x0, 0x784648⟩,
   ⟨0x30080, 1, 0x2, 0x0, 0x0, 0x3FF, 0x0, 0x0, 0x0, 0x0⟩,
   ⟨0x30084, 1, 0x1, 0x0, 0x0, 0x0, 0x0, 0x0, 0x0, 0x0⟩,
   ⟨0x30088, 1, 0x1, 0x0, 0x0, 0x0, 0x0, 0x0, 0x0, 0x0⟩,
   ⟨0x3008C, 1, 0x1, 0x0, 0x0, 0x0, 0x0, 0x0, 0x0, 0x0⟩,
   ⟨0x30090, 1, 0x1, 0x0, 0x0, 0x0, 0x0, 0x0, 0x0, 0x0⟩,
   ⟨0x30094, 1, 0x1, 0x0, 0x0, 0x0, 0x0, 0x0, 0x0, 0x0⟩,
   ⟨0x30098, 1, 0x2, 0xFFFF, 0x0, 0x0, 0x0, 0x0, 0x0, 0x400⟩,
   ⟨0x3009C, 1, 0x1, 0x0, 0x0, 0x0, 0x0, 0x0, 0x0, 0x0⟩,
   ⟨0x30200, 80, 0x1, 0x0, 0x0, 0x0, 0x0, 0x0, 0x0, 0x0⟩,
   ⟨0x30400, 128, 0x1, 0x0, 0x0, 0x0, 0x0, 0x0, 0x0, 0x0⟩,
   ⟨0x38000, 1, 0x1, 0x0, 0x0, 0x0, 0x0, 0x0, 0x0, 0x0⟩,
   ⟨0x38004, 1, 0x9, 0xFFF, 0x0, 0x0, 0x7000, 0x0, 0x0, 0x0⟩,
   ⟨0x38008, 1, 0x9, 0xFFFFFFF, 0x0, 0x0, 0x0, 0x0, 0x0, 0x0⟩,
   ⟨0x38020, 1, 0x3, 0x0, 0x800FFFFF, 0x0, 0x0, 0x0, 0x0, 0x80060064⟩,
   ⟨0x38024, 1, 0x1, 0x0, 0x0, 0x0, 0x0, 0x0, 0x0, 0x0⟩,
   ⟨0x38040, 1, 0x2, 0x3FF, 0x0, 0x0, 0x0, 0x0, 0x0, 0xA⟩,
   ⟨0x38044, 1, 0x1, 0x0, 0x0, 0x0, 0x0, 0x0, 0x0, 0x0⟩,
   ⟨0x38050, 1, 0x2, 0xF, 0x0, 0x0, 0x0, 0x0, 0x0, 0x6⟩,
   ⟨0x38054, 1, 0x1, 0x0, 0x0, 0x0, 0x0, 0x0, 0x0, 0x0⟩,
   ⟨0x38060, 1, 0x2, 0x0, 0x0, 0x3F, 0x0, 0x0, 0x0, 0x0⟩,
   ⟨0x38100, 320, 0x1, 0x0, 0x0, 0x0, 0x0, 0x0, 0x3FFFFFF, 0x0⟩]

/-- The registers of block GMAP (Table 21-6). -/
def regRowsGmap : List RegRow :=
  [⟨0x40000, 1, 0x1, 0x0, 0x0, 0x0, 0x0, 0x0, 0x0, 0x0⟩,
   ⟨0x40004, 1, 0x1, 0x0, 0x0, 0x0, 0x0, 0x0, 0x0, 0x0⟩,
   ⟨0x40008, 1, 0x1, 0x0, 0x0, 0x0, 0x0, 0x0, 0x0, 0x0⟩,
   ⟨0x4000C, 1, 0x1, 0x0, 0x0, 0x0, 0x0, 0x0, 0x0, 0x0⟩,
   ⟨0x40010, 1, 0x2, 0x1, 0x0, 0x0, 0x2, 0x0, 0x0, 0x1⟩,
   ⟨0x40014, 1, 0x1, 0x0, 0x0, 0x0, 0x0, 0x0, 0x0, 0x0⟩,
   ⟨0x40018, 1, 0x1, 0x0, 0x0, 0x0, 0x0, 0x0, 0x0, 0x0⟩,
   ⟨0x40020, 1, 0x3, 0x0, 0xFFFF0000, 0x0, 0x0, 0x0, 0x0, 0x10000000⟩,
   ⟨0x40024, 1, 0x1, 0x0, 0x0, 0x0, 0x0, 0x0, 0x0, 0x0⟩,
   ⟨0x40028, 1, 0x3, 0x0, 0xFF, 0x0, 0x0, 0x0, 0x0, 0xA⟩,
   ⟨0x4002C, 1, 0x1, 0x0, 0x0, 0x0, 0x0, 0x0, 0x0, 0x0⟩,
   ⟨0x40030, 1, 0x1, 0x0, 0x0, 0x0, 0x0, 0x0, 0x0, 0x0⟩,
   ⟨0x40034, 1, 0x1, 0x0, 0x0, 0x0, 0x0, 0x0, 0x0, 0x0⟩,
   ⟨0x40038, 1, 0x1, 0x0, 0x0, 0x0, 0x0, 0x0, 0x0, 0x0⟩,
   ⟨0x40040, 1, 0x2, 0x0, 0x0, 0x1F, 0x0, 0x0, 0x0, 0x0⟩,
   ⟨0x40044, 1, 0x1, 0x0, 0x0, 0x0, 0x0, 0x0, 0x0, 0x0⟩,
   ⟨0x40050, 1, 0x8, 0x3FFFFFF, 0x0, 0x0, 0x0, 0x0, 0x0, 0x0⟩,
   ⟨0x40054, 1, 0x8, 0x0, 0x0, 0x0, 0x0, 0x0, 0x0, 0x0⟩,
   ⟨0x40058, 1, 0x8, 0x0, 0x0, 0x0, 0x0, 0x0, 0x0, 0x0⟩,
   ⟨0x40060, 1, 0x1, 0x0, 0x0, 0x0, 0x0, 0x0, 0x0, 0x0⟩]

/-- The registers of block FERY (Table 21-7). -/
def regRowsFery : List RegRow :=
  [⟨0x50000, 1, 0x1, 0x0, 0x0, 0x0, 0x0, 0x0, 0x0, 0x0⟩,
   ⟨0x50004, 1, 0x2, 0x1, 0x0, 0x0, 0x2, 0x0, 0x0, 0x1⟩,
   ⟨0x50008, 1, 0x2, 0xFFFFFF, 0x0, 0x0, 0x0, 0x0, 0x0, 0xC3219⟩,
   ⟨0x5000C, 1, 0x2, 0xF0F0FFF, 0x0, 0x0, 0x0, 0x0, 0x0, 0xC040032⟩,
   ⟨0x50010, 1, 0x2, 0xFFFF, 0x0, 0x0, 0x0, 0x0, 0x0, 0xFA⟩,
   ⟨0x50014, 1, 0x2, 0xFFF, 0x0, 0x0, 0x0, 0x0, 0x0, 0x248⟩,
   ⟨0x50018, 1, 0x1, 0x0, 0x0, 0x0, 0x0, 0x0, 0x0, 0x0⟩,
   ⟨0x5001C, 1, 0x1, 0x0, 0x0, 0x0, 0x0, 0x0, 0x0, 0x0⟩,
   ⟨0x50020, 1, 0x1, 0x0, 0x0, 0x0, 0x0, 0x0, 0x0, 0x0⟩,
   ⟨0x50024, 1, 0x1, 0x0, 0x0, 0x0, 0x0, 0x0, 0x0, 0x0⟩,
   ⟨0x50028, 1, 0x1, 0x0, 0x0, 0x0, 0x0, 0x0, 0x0, 0x0⟩,
   ⟨0x5002C, 1, 0x1, 0x0, 0x0, 0x0, 0x0, 0x0, 0x0, 0x0⟩,
   ⟨0x50040, 1, 0x2, 0x0, 0x0, 0x3F, 0x0, 0x0, 0x0, 0x0⟩,
   ⟨0x50044, 1, 0x1, 0x0, 0x0, 0x0, 0x0, 0x0, 0x0, 0x0⟩,
   ⟨0x50100, 1, 0x1, 0x0, 0x0, 0x0, 0x0, 0x0, 0x0, 0x0⟩,
   ⟨0x50104, 1, 0x1, 0x0, 0x0, 0x0, 0x0, 0x0, 0x0, 0x0⟩,
   ⟨0x50108, 1, 0x1, 0x0, 0x0, 0x0, 0x0, 0x0, 0x0, 0x0⟩,
   ⟨0x5010C, 1, 0x1, 0x0, 0x0, 0x0, 0x0, 0x0, 0x0, 0x0⟩,
   ⟨0x50110, 1, 0x1, 0x0, 0x0, 0x0, 0x0, 0x0, 0x0, 0x0⟩,
   ⟨0x50114, 1, 0x1, 0x0, 0x0, 0x0, 0x0, 0x0, 0x0, 0x0⟩,
   ⟨0x50118, 1, 0x1, 0x0, 0x0, 0x0, 0x0, 0x0, 0x0, 0x0⟩,
   ⟨0x5011C, 1, 0x1, 0x0, 0x0, 0x0, 0x0, 0x0, 0x0, 0x0⟩,
   ⟨0x50120, 1, 0x1, 0x0, 0x0, 0x0, 0x0, 0x0, 0x0, 0x6418⟩,
   ⟨0x50124, 1, 0x1, 0x0, 0x0, 0x0, 0x0, 0x0, 0x0, 0x0⟩,
   ⟨0x50128, 1, 0x3, 0x0, 0x7FF, 0x0, 0x0, 0x0, 0x0, 0xC0⟩,
   ⟨0x5012C, 1, 0x2, 0x7FF, 0x0, 0x0, 0x0, 0x0, 0x0, 0x400⟩,
   ⟨0x50130, 1, 0x1, 0x0, 0x0, 0x0, 0x0, 0x0, 0x0, 0x400⟩,
   ⟨0x50134, 1, 0x1, 0x0, 0x0, 0x0, 0x0, 0x0, 0x0, 0xC80⟩,
   ⟨0x50138, 1, 0x3, 0x0, 0xFFFF, 0x0, 0x0, 0x0, 0x0, 0xC80⟩,
   ⟨0x5013C, 1, 0x3, 0x0, 0xFFFF, 0x0, 0x0, 0x0, 0x0, 0x18⟩,
   ⟨0x50140, 1, 0x3, 0x0, 0x3FF, 0x0, 0x0, 0x0, 0x0, 0x320⟩,
   ⟨0x50144, 1, 0x2, 0xFFFFFFFF, 0x0, 0x0, 0x0, 0x0, 0x0, 0x5F554632⟩,
   ⟨0x50148, 1, 0x1, 0x0, 0x0, 0x0, 0x0, 0x0, 0x0, 0x80000000⟩,
   ⟨0x5014C, 1, 0x2, 0x0, 0x0, 0x3F, 0x0, 0x0, 0x0, 0x0⟩,
   ⟨0x50150, 1, 0x2, 0xFFF0FFF, 0x0, 0x0, 0x0, 0x0, 0x0, 0x3E80064⟩,
   ⟨0x50200, 1, 0x3, 0x0, 0xFFFF, 0x0, 0x0, 0x0, 0x0, 0x1000⟩,
   ⟨0x50204, 1, 0x3, 0x0, 0x7F, 0x0, 0x0, 0x0, 0x0, 0x19⟩,
   ⟨0x50208, 1, 0x1, 0x0, 0x0, 0x0, 0x0, 0x0, 0x0, 0x308B914⟩,
   ⟨0x5020C, 1, 0x1, 0x0, 0x0, 0x0, 0x0, 0x0, 0x0, 0x0⟩,
   ⟨0x50210, 1, 0x1, 0x0, 0x0, 0x0, 0x0, 0x0, 0x0, 0x0⟩,
   ⟨0x50214, 1, 0x1, 0x0, 0x0, 0x0, 0x0, 0x0, 0x0, 0x0⟩,
   ⟨0x50218, 1, 0x1, 0x0, 0x0, 0x0, 0x0, 0x0, 0x0, 0xFFFFFF00⟩,
   ⟨0x5021C, 1, 0x1, 0x0, 0x0, 0x0, 0x0, 0x0, 0x0, 0x0⟩,
   ⟨0x50220, 1, 0x1, 0x0, 0x0, 0x0, 0x0, 0x0, 0x0, 0x0⟩]

/-- The registers of block XING (Table 21-8). -/
def regRowsXing : List RegRow :=
  [⟨0x60000, 1, 0x1, 0x0, 0x0, 0x0, 0x0, 0x0, 0x0, 0x0⟩,
   ⟨0x60004, 1, 0x1, 0x0, 0x0, 0x0, 0x0, 0x0, 0x0, 0x0⟩,
   ⟨0x60008, 1, 0x1, 0x0, 0x0, 0x0, 0x0, 0x0, 0x0, 0x0⟩,
   ⟨0x6000C, 1, 0x1, 0x0, 0x0, 0x0, 0x0, 0x0, 0x0, 0x0⟩,
   ⟨0x60010, 1, 0x1, 0x0, 0x0, 0x0, 0x0, 0x0, 0x0, 0x0⟩,
   ⟨0x60014, 1, 0x1, 0x0, 0x0, 0x0, 0x0, 0x0, 0xFFFFFFFF, 0x0⟩,
   ⟨0x60018, 1, 0x1, 0x0, 0x0, 0x0, 0x0, 0x0, 0xFFFFFFFF, 0x0⟩,
   ⟨0x6001C, 1, 0x1, 0x0, 0x0, 0x0, 0x0, 0x0, 0xFFFFFFFF, 0x0⟩,
   ⟨0x60020, 1, 0x1, 0x0, 0x0, 0x0, 0x0, 0x0, 0xFFFF, 0x0⟩,
   ⟨0x60024, 1, 0x1, 0x0, 0x0, 0x0, 0x0, 0x0, 0xFFFFFFFF, 0x0⟩,
   ⟨0x60028, 1, 0x1, 0x0, 0x0, 0x0, 0x0, 0x0, 0xFFFFFFFF, 0x0⟩,
   ⟨0x6002C, 1, 0x1, 0x0, 0x0, 0x0, 0x0, 0x0, 0xFFFFFFFF, 0x0⟩,
   ⟨0x60030, 1, 0x1, 0x0, 0x0, 0x0, 0x0, 0x0, 0xFFFFFFFF, 0x0⟩,
   ⟨0x60034, 1, 0x13, 0x0, 0x0, 0xFF, 0x0, 0x0, 0x0, 0x0⟩,
   ⟨0x60100, 1, 0x1, 0x0, 0x0, 0x0, 0x0, 0x0, 0x0, 0x0⟩,
   ⟨0x60104, 1, 0x13, 0x1F3F, 0x0, 0x0, 0x0, 0x0, 0x0, 0x1C30⟩,
   ⟨0x60108, 1, 0x1, 0x0, 0x0, 0x0, 0x0, 0x0, 0x0, 0x0⟩,
   ⟨0x6010C, 1, 0x1, 0x0, 0x0, 0x0, 0x0, 0x0, 0x0, 0x0⟩,
   ⟨0x60110, 1, 0x13, 0x3FFFFFF, 0x0, 0x0, 0x0, 0x0, 0x0, 0x0⟩,
   ⟨0x60114, 1, 0x13, 0x3FFFFFF, 0x0, 0x0, 0x0, 0x0, 0x0, 0x0⟩,
   ⟨0x60118, 1, 0x1, 0x0, 0x0, 0x0, 0x0, 0x0, 0x0, 0x0⟩,
   ⟨0x6011C, 1, 0x1, 0x0, 0x0, 0x0, 0x0, 0x0, 0x0, 0x0⟩,
   ⟨0x60120, 1, 0x1, 0x0, 0x0, 0x0, 0x0, 0x0, 0x0, 0x0⟩,
   ⟨0x60124, 1, 0x13, 0x0, 0x0, 0x3F, 0x0, 0x0, 0x0, 0x0⟩,
   ⟨0x60128, 1, 0x1, 0x0, 0x0, 0x0, 0x0, 0x0, 0x0, 0x0⟩,
   ⟨0x6012C, 1, 0x1, 0x0, 0x0, 0x0, 0x0, 0x0, 0x0, 0x0⟩]

/-- The registers of block FLSH (Table 21-9). -/
def regRowsFlsh : List RegRow :=
  [⟨0x70000, 1, 0x1, 0x0, 0x0, 0x0, 0x0, 0x0, 0x0, 0x0⟩,
   ⟨0x70004, 1, 0x1, 0x0, 0x0, 0x0, 0x0, 0x0, 0x0, 0x0⟩,
   ⟨0x70008, 1, 0x1, 0x0, 0x0, 0x0, 0x0, 0x0, 0x0, 0x0⟩,
   ⟨0x7000C, 1, 0x3, 0x0, 0x7FF, 0x0, 0x0, 0x0, 0x0, 0x140⟩,
   ⟨0x70010, 1, 0x1, 0x0, 0x0, 0x0, 0x0, 0x0, 0x0, 0x0⟩,
   ⟨0x70014, 1, 0x1, 0x0, 0x0, 0x0, 0x0, 0x0, 0x0, 0x0⟩,
   ⟨0x70018, 4, 0x1, 0x0, 0x0, 0x0, 0x0, 0x0, 0x0, 0x0⟩,
   ⟨0x70028, 1, 0x3, 0x0, 0xFF, 0x0, 0x0, 0x0, 0x0, 0x14⟩,
   ⟨0x7002C, 1, 0x2, 0xFFF, 0x0, 0x0, 0x0, 0x0, 0x0, 0x3E8⟩,
   ⟨0x70030, 1, 0x2, 0xFFFFFF, 0x0, 0x0, 0x0, 0x0, 0x0, 0x320A02⟩,
   ⟨0x70034, 1, 0x3, 0x0, 0xF3FF, 0x0, 0x0, 0x0, 0x0, 0x60F0⟩,
   ⟨0x70038, 1, 0x1, 0x0, 0x0, 0x0, 0x0, 0x0, 0x0, 0x0⟩,
   ⟨0x7003C, 1, 0x3, 0x0, 0xFF00, 0x0, 0x0, 0x0, 0x0, 0x800⟩,
   ⟨0x70040, 1, 0x2, 0x0, 0x0, 0x1FFF, 0x0, 0x0, 0x0, 0x0⟩,
   ⟨0x70044, 1, 0x1, 0x0, 0x0, 0x0, 0x0, 0x0, 0x0, 0x0⟩,
   ⟨0x70048, 1, 0x1, 0x0, 0x0, 0x0, 0x0, 0x0, 0x0, 0x0⟩,
   ⟨0x7004C, 1, 0x1, 0x0, 0x0, 0x0, 0x0, 0x0, 0x0, 0x0⟩,
   ⟨0x70050, 1, 0x1, 0x0, 0x0, 0x0, 0x0, 0x0, 0x0, 0x0⟩,
   ⟨0x70100, 16, 0x1, 0x0, 0x0, 0x0, 0x0, 0x0, 0x0, 0x0⟩]

/-- The registers of block CHTR (Table 21-10). -/
def regRowsChtr : List RegRow :=
  [⟨0x80000, 1, 0x1, 0x0, 0x0, 0x0, 0x0, 0x0, 0x0, 0x0⟩,
   ⟨0x80004, 1, 0x1, 0x0, 0x0, 0x0, 0x0, 0x0, 0x0, 0x0⟩,
   ⟨0x80008, 1, 0x1, 0x0, 0x0, 0x0, 0x0, 0x0, 0x0, 0x0⟩,
   ⟨0x8000C, 1, 0x1, 0x0, 0x0, 0x0, 0x0, 0x0, 0x0, 0x0⟩,
   ⟨0x80010, 1, 0xA, 0xFFFFFFFF, 0x0, 0x0, 0x0, 0x0, 0x0, 0x0⟩,
   ⟨0x80014, 1, 0xA, 0xFFFFFFFF, 0x0, 0x0, 0x0, 0x0, 0x0, 0x0⟩,
   ⟨0x80018, 1, 0xA, 0xFFFFFFFF, 0x0, 0x0, 0x0, 0x0, 0x0, 0x0⟩,
   ⟨0x8001C, 1, 0xA, 0x0, 0x0, 0x0, 0x0, 0xFFFFFFFF, 0x0, 0x0⟩,
   ⟨0x80020, 1, 0xA, 0x0, 0x0, 0x0, 0x0, 0x0, 0x0, 0x0⟩,
   ⟨0x80024, 1, 0xA, 0x0, 0x0, 0x0, 0x0, 0xFFFFFFFF, 0x0, 0x0⟩,
   ⟨0x80030, 1, 0xB, 0x3FF07, 0x0, 0x0, 0x0, 0x0, 0x0, 0x0⟩,
   ⟨0x80034, 1, 0xB, 0x0, 0x0, 0x0, 0x0, 0x3, 0x0, 0x0⟩,
   ⟨0x80040, 8, 0xC, 0x0, 0x0, 0x0, 0x0, 0xFFFFFFFF, 0x0, 0x0⟩,
   ⟨0x80060, 1, 0xC, 0x0, 0x0, 0x0, 0x0, 0xFFFFFFFF, 0x0, 0x0⟩,
   ⟨0x80064, 1, 0xC, 0x0, 0x0, 0x0, 0x0, 0x0, 0x0, 0x0⟩,
   ⟨0x80070, 1, 0x2, 0x0, 0x0, 0xFF, 0x0, 0x0, 0x0, 0x0⟩,
   ⟨0x80074, 1, 0x1, 0x0, 0x0, 0x0, 0x0, 0x0, 0x0, 0x0⟩,
   ⟨0x81000, 1008, 0xA, 0xFFFFFFFF, 0x0, 0x0, 0x0, 0x0, 0x0, 0x0⟩]

/-- The registers of block CIPH (Table 21-11). -/
def regRowsCiph : List RegRow :=
  [⟨0x90000, 1, 0x1, 0x0, 0x0, 0x0, 0x0, 0x0, 0x0, 0x0⟩,
   ⟨0x90004, 1, 0x1, 0x0, 0x0, 0x0, 0x0, 0x0, 0x0, 0x0⟩,
   ⟨0x90008, 1, 0x1, 0x0, 0x0, 0x0, 0x0, 0x0, 0x0, 0x0⟩,
   ⟨0x9000C, 1, 0x1, 0x0, 0x0, 0x0, 0x0, 0x0, 0x0, 0x0⟩,
   ⟨0x90010, 1, 0x1, 0x0, 0x0, 0x0, 0x0, 0x0, 0x0, 0x0⟩,
   ⟨0x90014, 1, 0x2, 0x0, 0x0, 0x0, 0x1, 0x0, 0x0, 0x0⟩,
   ⟨0x90018, 1, 0x2, 0x0, 0x0, 0x1F, 0x0, 0x0, 0x0, 0x0⟩,
   ⟨0x9001C, 1, 0x1, 0x0, 0x0, 0x0, 0x0, 0x0, 0x0, 0x0⟩,
   ⟨0x90020, 1, 0x1, 0x0, 0x0, 0x0, 0x0, 0x0, 0x0, 0x0⟩,
   ⟨0x90024, 1, 0x1, 0x0, 0x0, 0x0, 0x0, 0x0, 0x0, 0x0⟩,
   ⟨0x90100, 16, 0x1, 0x0, 0x0, 0x0, 0x0, 0x0, 0x0, 0x0⟩]

/-- The registers of block CHK (Table 21-12). -/
def regRowsChk : List RegRow :=
  [⟨0xA0000, 1, 0xD, 0x0, 0x0, 0x0, 0x4, 0x0, 0x0, 0x0⟩,
   ⟨0xA0004, 1, 0xD, 0xFFFFFFFF, 0x0, 0x0, 0x0, 0x0, 0x0, 0x0⟩,
   ⟨0xA0008, 1, 0xD, 0x0, 0x0, 0x0, 0x0, 0x0, 0x0, 0x0⟩,
   ⟨0xA000C, 1, 0xD, 0x0, 0x0, 0x0, 0x0, 0xFF, 0x0, 0x0⟩,
   ⟨0xA0010, 1, 0xD, 0x0, 0x0, 0x0, 0x0, 0xFFFF, 0x0, 0x0⟩,
   ⟨0xA0014, 1, 0xD, 0x0, 0x0, 0x0, 0x0, 0xFFFFFFFF, 0x0, 0x0⟩,
   ⟨0xA0018, 1, 0xD, 0x0, 0x0, 0x0, 0x0, 0xFFFFFFFF, 0x0, 0x0⟩,
   ⟨0xA001C, 1, 0xD, 0x0, 0x0, 0x0, 0x0, 0x0, 0x0, 0x0⟩,
   ⟨0xA0020, 1, 0xD, 0x0, 0x0, 0x0, 0x4, 0x0, 0x0, 0x0⟩,
   ⟨0xA0024, 1, 0xD, 0xFFFFFFFF, 0x0, 0x0, 0x0, 0x0, 0x0, 0x0⟩,
   ⟨0xA0028, 1, 0xD, 0x0, 0x0, 0x0, 0x0, 0x0, 0x0, 0x0⟩,
   ⟨0xA002C, 1, 0xD, 0x0, 0x0, 0x0, 0x0, 0xFF, 0x0, 0x0⟩,
   ⟨0xA0030, 1, 0xD, 0x0, 0x0, 0x0, 0x0, 0xFFFF, 0x0, 0x0⟩,
   ⟨0xA0034, 1, 0xD, 0x0, 0x0, 0x0, 0x0, 0xFFFFFFFF, 0x0, 0x0⟩,
   ⟨0xA0038, 1, 0xD, 0x0, 0x0, 0x0, 0x0, 0xFFFFFFFF, 0x0, 0x0⟩,
   ⟨0xA003C, 1, 0xD, 0x0, 0x0, 0x0, 0x0, 0x0, 0x0, 0x0⟩,
   ⟨0xA0040, 1, 0xD, 0x0, 0x0, 0x0, 0x4, 0x0, 0x0, 0x0⟩,
   ⟨0xA0044, 1, 0xD, 0xFFFFFFFF, 0x0, 0x0, 0x0, 0x0, 0x0, 0x0⟩,
   ⟨0xA0048, 1, 0xD, 0x0, 0x0, 0x0, 0x0, 0x0, 0x0, 0x0⟩,
   ⟨0xA004C, 1, 0xD, 0x0, 0x0, 0x0, 0x0, 0xFF, 0x0, 0x0⟩,
   ⟨0xA0050, 1, 0xD, 0x0, 0x0, 0x0, 0x0, 0xFFFF, 0x0, 0x0⟩,
   ⟨0xA0054, 1, 0xD, 0x0, 0x0, 0x0, 0x0, 0xFFFFFFFF, 0x0, 0x0⟩,
   ⟨0xA0058, 1, 0xD, 0x0, 0x0, 0x0, 0x0, 0xFFFFFFFF, 0x0, 0x0⟩,
   ⟨0xA005C, 1, 0xD, 0x0, 0x0, 0x0, 0x0, 0x0, 0x0, 0x0⟩,
   ⟨0xA0060, 1, 0xD, 0x0, 0x0, 0x0, 0x4, 0x0, 0x0, 0x3⟩,
   ⟨0xA0064, 1, 0xD, 0xFFFFFFFF, 0x0, 0x0, 0x0, 0x0, 0x0, 0x0⟩,
   ⟨0xA0068, 1, 0xD, 0x0, 0x0, 0x0, 0x0, 0x0, 0x0, 0x0⟩,
   ⟨0xA006C, 1, 0xD, 0x0, 0x0, 0x0, 0x0, 0xFF, 0x0, 0x0⟩,
   ⟨0xA0070, 1, 0xD, 0x0, 0x0, 0x0, 0x0, 0xFFFF, 0x0, 0x0⟩,
   ⟨0xA0074, 1, 0xD, 0x0, 0x0, 0x0, 0x0, 0xFFFFFFFF, 0x0, 0x0⟩,
   ⟨0xA0078, 1, 0xD, 0x0, 0x0, 0x0, 0x0, 0xFFFFFFFF, 0x0, 0x0⟩,
   ⟨0xA007C, 1, 0xD, 0x0, 0x0, 0x0, 0x0, 0x0, 0x0, 0x0⟩,
   ⟨0xA0080, 1, 0xD, 0x0, 0x0, 0x0, 0x4, 0x0, 0x0, 0x3⟩,
   ⟨0xA0084, 1, 0xD, 0xFFFFFFFF, 0x0, 0x0, 0x0, 0x0, 0x0, 0x0⟩,
   ⟨0xA0088, 1, 0xD, 0x0, 0x0, 0x0, 0x0, 0x0, 0x0, 0x0⟩,
   ⟨0xA008C, 1, 0xD, 0x0, 0x0, 0x0, 0x0, 0xFF, 0x0, 0x0⟩,
   ⟨0xA0090, 1, 0xD, 0x0, 0x0, 0x0, 0x0, 0xFFFF, 0x0, 0x0⟩,
   ⟨0xA0094, 1, 0xD, 0x0, 0x0, 0x0, 0x0, 0xFFFFFFFF, 0x0, 0x0⟩,
   ⟨0xA0098, 1, 0xD, 0x0, 0x0, 0x0, 0x0, 0xFFFFFFFF, 0x0, 0x0⟩,
   ⟨0xA009C, 1, 0xD, 0x0, 0x0, 0x0, 0x0, 0x0, 0x0, 0x0⟩,
   ⟨0xA00A0, 1, 0xE, 0x3, 0x0, 0x0, 0x4, 0x0, 0x0, 0x0⟩,
   ⟨0xA00A4, 1, 0xE, 0xFFFFFFFF, 0x0, 0x0, 0x0, 0x0, 0x0, 0x0⟩,
   ⟨0xA00A8, 1, 0xE, 0x0, 0x0, 0x0, 0x0, 0x0, 0x0, 0x0⟩,
   ⟨0xA00AC, 1, 0xE, 0x0, 0x0, 0x0, 0x0, 0xFF, 0x0, 0x0⟩,
   ⟨0xA00B0, 1, 0xE, 0x0, 0x0, 0x0, 0x0, 0xFFFF, 0x0, 0x0⟩,
   ⟨0xA00B4, 1, 0xE, 0x0, 0x0, 0x0, 0x0, 0xFFFFFFFF, 0x0, 0x0⟩,
   ⟨0xA00B8, 1, 0xE, 0x0, 0x0, 0x0, 0x0, 0xFFFFFFFF, 0x0, 0x0⟩,
   ⟨0xA00BC, 1, 0xE, 0x0, 0x0, 0x0, 0x0, 0x0, 0x0, 0x0⟩,
   ⟨0xA00C0, 1, 0xE, 0x3, 0x0, 0x0, 0x4, 0x0, 0x0, 0x0⟩,
   ⟨0xA00C4, 1, 0xE, 0xFFFFFFFF, 0x0, 0x0, 0x0, 0x0, 0x0, 0x0⟩,
   ⟨0xA00C8, 1, 0xE, 0x0, 0x0, 0x0, 0x0, 0x0, 0x0, 0x0⟩,
   ⟨0xA00CC, 1, 0xE, 0x0, 0x0, 0x0, 0x0, 0xFF, 0x0, 0x0⟩,
   ⟨0xA00D0, 1, 0xE, 0x0, 0x0, 0x0, 0x0, 0xFFFF, 0x0, 0x0⟩,
   ⟨0xA00D4, 1, 0xE, 0x0, 0x0, 0x0, 0x0, 0xFFFFFFFF, 0x0, 0x0⟩,
   ⟨0xA00D8, 1, 0xE, 0x0, 0x0, 0x0, 0x0, 0xFFFFFFFF, 0x0, 0x0⟩,
   ⟨0xA00DC, 1, 0xE, 0x0, 0x0, 0x0, 0x0, 0x0, 0x0, 0x0⟩,
   ⟨0xA00E0, 1, 0xF, 0x3, 0x0, 0x0, 0x4, 0x0, 0x0, 0x0⟩,
   ⟨0xA00E4, 1, 0xF, 0xFFFFFFFF, 0x0, 0x0, 0x0, 0x0, 0x0, 0x0⟩,
   ⟨0xA00E8, 1, 0xF, 0x0, 0x0, 0x0, 0x0, 0x0, 0x0, 0x0⟩,
   ⟨0xA00EC, 1, 0xF, 0x0, 0x0, 0x0, 0x0, 0xFF, 0x0, 0x0⟩,
   ⟨0xA00F0, 1, 0xF, 0x0, 0x0, 0x0, 0x0, 0xFFFF, 0x0, 0x0⟩,
   ⟨0xA00F4, 1, 0xF, 0x0, 0x0, 0x0, 0x0, 0xFFFFFFFF, 0x0, 0x0⟩,
   ⟨0xA00F8, 1, 0xF, 0x0, 0x0, 0x0, 0x0, 0xFFFFFFFF, 0x0, 0x0⟩,
   ⟨0xA00FC, 1, 0xF, 0x0, 0x0, 0x0, 0x0, 0x0, 0x0, 0x0⟩,
   ⟨0xA0100, 1, 0xE, 0x0, 0x0, 0xFF, 0x0, 0x0, 0x0, 0x0⟩]

/-- The registers of block SEQ (Table 21-13). -/
def regRowsSeq : List RegRow :=
  [⟨0xB0000, 1, 0x1, 0x0, 0x0, 0x0, 0x0, 0x0, 0x0, 0x0⟩,
   ⟨0xB0004, 1, 0x1, 0x0, 0x0, 0x0, 0x0, 0x0, 0x0, 0x0⟩,
   ⟨0xB0008, 1, 0x1, 0x0, 0x0, 0x0, 0x0, 0x0, 0x0, 0x0⟩,
   ⟨0xB000C, 1, 0x2, 0x0, 0x0, 0xFFFFFF, 0x0, 0x0, 0x0, 0x0⟩,
   ⟨0xB0010, 1, 0x2, 0x0, 0x0, 0xFFFFFF, 0x0, 0x0, 0x0, 0x0⟩,
   ⟨0xB0014, 1, 0x1, 0x0, 0x0, 0x0, 0x0, 0x0, 0x0, 0x0⟩,
   ⟨0xB0018, 1, 0x2, 0x0, 0x0, 0x1FF, 0x0, 0x0, 0x0, 0x0⟩,
   ⟨0xB0020, 6, 0x1, 0x0, 0x0, 0x0, 0x0, 0x0, 0xFFFFFFFF, 0x0⟩,
   ⟨0xB0040, 1, 0x10, 0xFFFF00FF, 0x0, 0x0, 0x0, 0x0, 0x0, 0x0⟩,
   ⟨0xB0044, 1, 0x1, 0x0, 0x0, 0x0, 0x0, 0x0, 0x0, 0x0⟩,
   ⟨0xB0050, 1, 0x11, 0x0, 0xFFFF0003, 0x0, 0x0, 0x0, 0x0, 0x4E200001⟩,
   ⟨0xB0054, 1, 0x11, 0x0, 0x0, 0x0, 0x0, 0xFFFFFFFF, 0x0, 0x0⟩,
   ⟨0xB0058, 1, 0x1, 0x0, 0x0, 0x0, 0x0, 0x0, 0x0, 0x0⟩,
   ⟨0xB005C, 1, 0x1, 0x0, 0x0, 0x0, 0x0, 0x0, 0x0, 0x0⟩,
   ⟨0xB0100, 24, 0x1, 0x0, 0x0, 0x0, 0x0, 0x0, 0x0, 0x0⟩]

/-- The registers of block BATT (Table 21-14). -/
def regRowsBatt : List RegRow :=
  [⟨0xC0000, 1, 0x1, 0x0, 0x0, 0x0, 0x0, 0x0, 0x0, 0x0⟩,
   ⟨0xC0004, 1, 0x1, 0x0, 0x0, 0x0, 0x0, 0x0, 0x0, 0x80000000⟩,
   ⟨0xC0008, 1, 0x1, 0x0, 0x0, 0x0, 0x0, 0x0, 0x0, 0x0⟩,
   ⟨0xC000C, 1, 0x1, 0x0, 0x0, 0x0, 0x0, 0x0, 0x0, 0x0⟩,
   ⟨0xC0010, 1, 0x1, 0x0, 0x0, 0x0, 0x0, 0x0, 0x0, 0x0⟩,
   ⟨0xC0014, 1, 0x1, 0x0, 0x0, 0x0, 0x0, 0x0, 0x0, 0x0⟩,
   ⟨0xC0018, 1, 0x1, 0x0, 0x0, 0x0, 0x0, 0x0, 0x0, 0x0⟩,
   ⟨0xC001C, 1, 0x1, 0x0, 0x0, 0x0, 0x0, 0x0, 0x0, 0x0⟩,
   ⟨0xC0020, 1, 0x2, 0x1, 0x0, 0x0, 0x2, 0x0, 0x0, 0x1⟩,
   ⟨0xC0024, 1, 0x3, 0x0, 0xFF7F, 0x0, 0x0, 0x0, 0x0, 0x1E5F⟩,
   ⟨0xC0028, 1, 0x2, 0x0, 0x0, 0x3F, 0x0, 0x0, 0x0, 0x0⟩,
   ⟨0xC002C, 1, 0x1, 0x0, 0x0, 0x0, 0x0, 0x0, 0x0, 0x0⟩,
   ⟨0xC0030, 1, 0x1, 0x0, 0x0, 0x0, 0x0, 0x0, 0x0, 0x0⟩]

/-- The registers of block TWB (Table 21-15). -/
def regRowsTwb : List RegRow :=
  [⟨0xD0000, 1, 0x1, 0x0, 0x0, 0x0, 0x0, 0x0, 0x0, 0x0⟩,
   ⟨0xD0004, 1, 0x3, 0x0, 0x7FFFFF, 0x0, 0x0, 0x0, 0x0, 0x3203E8⟩,
   ⟨0xD0008, 1, 0x2, 0x0, 0x0, 0x1FF, 0x0, 0x0, 0x0, 0x0⟩,
   ⟨0xD000C, 1, 0x1, 0x0, 0x0, 0x0, 0x0, 0x0, 0x0, 0x0⟩,
   ⟨0xD0010, 1, 0x1, 0x0, 0x0, 0x0, 0x0, 0x0, 0x0, 0x0⟩,
   ⟨0xD0014, 1, 0x1, 0x0, 0x0, 0x0, 0x0, 0x0, 0x0, 0x0⟩,
   ⟨0xD0018, 1, 0x1, 0x0, 0x0, 0x0, 0x0, 0x0, 0x0, 0x0⟩,
   ⟨0xD0100, 1, 0x1, 0x0, 0x0, 0x0, 0x0, 0x0, 0x0, 0x0⟩,
   ⟨0xD0104, 1, 0x3, 0x0, 0xFFFF, 0x0, 0x0, 0x0, 0x0, 0xA03E8⟩,
   ⟨0xD0108, 1, 0x2, 0x0, 0x0, 0x1FF, 0x0, 0x0, 0x0, 0x0⟩,
   ⟨0xD010C, 1, 0x1, 0x0, 0x0, 0x0, 0x0, 0x0, 0x0, 0x0⟩,
   ⟨0xD0110, 1, 0x1, 0x0, 0x0, 0x0, 0x0, 0x0, 0x0, 0x0⟩,
   ⟨0xD0200, 1, 0x1, 0x0, 0x0, 0x0, 0x0, 0x0, 0x0, 0x0⟩,
   ⟨0xD0204, 1, 0x3, 0x0, 0x7FFFFF, 0x0, 0x0, 0x0, 0x0, 0x3203E8⟩,
   ⟨0xD0208, 1, 0x2, 0x0, 0x0, 0x1FF, 0x0, 0x0, 0x0, 0x0⟩,
   ⟨0xD020C, 1, 0x1, 0x0, 0x0, 0x0, 0x0, 0x0, 0x0, 0x0⟩,
   ⟨0xD0210, 1, 0x1, 0x0, 0x0, 0x0, 0x0, 0x0, 0x0, 0x0⟩,
   ⟨0xD0214, 1, 0x1, 0x0, 0x0, 0x0, 0x0, 0x0, 0x0, 0x0⟩,
   ⟨0xD0218, 1, 0x1, 0x0, 0x0, 0x0, 0x0, 0x0, 0x0, 0x0⟩,
   ⟨0xD0400, 1, 0x12, 0x3FFFFF, 0x0, 0x0, 0x80000000, 0x0, 0x0, 0x0⟩,
   ⟨0xD0404, 1, 0x12, 0x0, 0x0, 0x0, 0x0, 0x0, 0x0, 0x0⟩,
   ⟨0xD0408, 8, 0x12, 0xFFFFFFFF, 0x0, 0x0, 0x0, 0x0, 0x0, 0x0⟩,
   ⟨0xD0440, 1, 0x2, 0xFF007F, 0x0, 0x0, 0x0, 0x0, 0x0, 0x640000⟩,
   ⟨0xD0444, 1, 0x1, 0x0, 0x0, 0x0, 0x0, 0x0, 0x0, 0x0⟩]

/-- The registers of block LOG (Table 21-16). -/
def regRowsLog : List RegRow :=
  [⟨0xE0000, 1, 0x1, 0x0, 0x0, 0x0, 0x0, 0x0, 0x0, 0x0⟩,
   ⟨0xE0004, 1, 0x1, 0x0, 0x0, 0x0, 0x0, 0x0, 0x0, 0x0⟩,
   ⟨0xE0008, 1, 0x1, 0x0, 0x0, 0x0, 0x0, 0x0, 0x0, 0x0⟩,
   ⟨0xE000C, 1, 0x1, 0x0, 0x0, 0x0, 0x0, 0x0, 0x0, 0x0⟩,
   ⟨0xE0010, 1, 0x1, 0x0, 0x0, 0x0, 0x0, 0x0, 0x0, 0x0⟩,
   ⟨0xE0014, 1, 0x1, 0x0, 0x0, 0x0, 0x0, 0x0, 0x0, 0x0⟩,
   ⟨0xE0018, 1, 0x1, 0x0, 0x0, 0x0, 0x0, 0x0, 0x0, 0x0⟩,
   ⟨0xE001C, 1, 0x1, 0x0, 0x0, 0x0, 0x0, 0x0, 0x0, 0x0⟩,
   ⟨0xE0020, 1, 0x2, 0xFFFFFF, 0x0, 0x0, 0x0, 0x0, 0x0, 0xE100A⟩,
   ⟨0xE0024, 1, 0x2, 0x0, 0x0, 0xF, 0x0, 0x0, 0x0, 0x0⟩,
   ⟨0xE0028, 1, 0x1, 0x0, 0x0, 0x0, 0x0, 0x0, 0x0, 0x0⟩]

/-- The registers of block UPD (Table 21-17). -/
def regRowsUpd : List RegRow :=
  [⟨0xF0000, 1, 0x1, 0x0, 0x0, 0x0, 0x0, 0x0, 0x0, 0x0⟩,
   ⟨0xF0004, 1, 0x1, 0x0, 0x0, 0x0, 0x0, 0x0, 0x0, 0x0⟩,
   ⟨0xF0008, 1, 0x1, 0x0, 0x0, 0x0, 0x0, 0x0, 0x0, 0x0⟩,
   ⟨0xF000C, 1, 0x1, 0x0, 0x0, 0x0, 0x0, 0x0, 0x0, 0x0⟩,
   ⟨0xF0010, 1, 0x1, 0x0, 0x0, 0x0, 0x0, 0x0, 0x0, 0x0⟩,
   ⟨0xF0014, 1, 0x14, 0x0, 0x0, 0x0, 0x3, 0x0, 0x0, 0x0⟩,
   ⟨0xF0018, 1, 0x3, 0x0, 0xFFFF, 0x0, 0x0, 0x0, 0x0, 0x258⟩,
   ⟨0xF001C, 1, 0x3, 0x0, 0x3FF, 0x0, 0x0, 0x0, 0x0, 0x48⟩,
   ⟨0xF0020, 1, 0x2, 0x0, 0x0, 0x3F, 0x0, 0x0, 0x0, 0x0⟩,
   ⟨0xF0024, 1, 0x1, 0x0, 0x0, 0x0, 0x0, 0x0, 0x0, 0x0⟩,
   ⟨0xF0028, 1, 0x1, 0x0, 0x0, 0x0, 0x0, 0x0, 0x0, 0x0⟩,
   ⟨0xF002C, 1, 0x1, 0x0, 0x0, 0x0, 0x0, 0x0, 0x0, 0x0⟩]

/-- The registers of the block with the given number (Table 0-2). -/
def regRows (block : Nat) : List RegRow :=
  match block with
  | 0 => regRowsCore
  | 1 => regRowsHlnk
  | 2 => regRowsFab
  | 3 => regRowsDctl
  | 4 => regRowsGmap
  | 5 => regRowsFery
  | 6 => regRowsXing
  | 7 => regRowsFlsh
  | 8 => regRowsChtr
  | 9 => regRowsCiph
  | 10 => regRowsChk
  | 11 => regRowsSeq
  | 12 => regRowsBatt
  | 13 => regRowsTwb
  | 14 => regRowsLog
  | 15 => regRowsUpd
  | _ => []

/-- The row of the register at an offset; none for a reserved offset (R463). -/
def regRow (off : Nat) : Option RegRow :=
  if off % 4 = 0 then (regRows (off / 0x10000)).find? (fun r => r.off ≤ off && off < r.off + 4 * r.num) else none

/-- The value a register holds after reset (R464); reserved offsets read 0 (R4). -/
def regReset (off : Nat) : Word :=
  match regRow off with
  | some r => BitVec.ofNat 32 r.reset
  | none => 0

end Sys2Proof.Machine
end

