-- ==== Sys2Proof/Config.lean ====
section
/-!
DEFINITION. What one module fixes and the spec leaves open, and the free values: opaque constants without a body, so
that no proof can rest on a value of them. Each has an entry in the assumption log.
-/
namespace Sys2Proof

/-- The 256-bit module root fused at manufacture (R312): no command shows it. -/
opaque Config.moduleRoot : BitVec 256

/-- The AES-256 block function of NIST FIPS 197, which the spec names and does not restate (R304, R312, R320). -/
opaque Config.aes256 : BitVec 256 → BitVec 128 → BitVec 128

/-- The bytes a raw NAND page reads as (FW_NAND_READ, R409): the LDPC code of R247 is not given by the spec. The
arguments are the LOC of the page, the write sequence of what it holds, and the byte offset. -/
opaque Config.rawPageByte : Nat → Nat → Nat → Byte

/-- A value the spec does not state, drawn afresh: the argument is the counter State.freeCtr. -/
opaque Config.freeValue : Nat → Nat

/-- The READ ID, SFDP and similar identification bytes of the fitted parts: argument, byte offset. -/
opaque Config.sfdpByte : Nat → Byte

/-- Bytes of a standard mailbox output that the spec leaves to CXL 3.1 or to the module's maker: opcode, item, byte offset. -/
opaque Config.stdByte : Nat → Nat → Nat → Byte

/-- RAAIMT of the DRAM components (MR58 of the DDR5 standard): the activation count at which refresh management is due (R210). -/
opaque Config.raaImt : Nat

/-- The delay steps that a change of a DQS interval oscillator's count stands for (R233): the baseline and the count. -/
opaque Config.oscSteps : Nat → Nat → Int

/-- The bytes of a training pattern in the pattern rows (R227): PATTERN, and the byte offset in the area. -/
opaque Config.patternByte : Nat → Nat → Byte

end Sys2Proof
end

