-- ==== Sys2Proof/Syntax.lean ====
section
/-!
DEFINITION. The commands of the device: one constructor for each row of spec/opcode_table.json, and the types of their
operands. An operand with a default says what a row's event found beside its effect; the default is that it found nothing:
no damaged entry, no rebuilt copy, no factory bad block, no step that passed.
-/
namespace Sys2Proof

/-- The levels of the input pins as the device samples them: PWR_FAIL_N and PRSNT_N (R9, R14), PERST_N (R10) and
YARD_EN (R376). -/
structure PinLevels where
  pwrFailN : Bool
  prsntN : Bool
  perstN : Bool
  yardEn : Bool
  deriving DecidableEq, Repr

/-- The address of a CXL.mem request: within a logical device, or a host physical address that the LD's HDM decoders
translate (R152). -/
inductive HostAddr where
  | dpa (ld : Fin 16) (a : Dpa)
  | hpa (ld : Fin 16) (a : BitVec 52)
  deriving DecidableEq, Repr

/-- The ports that carry an authority (R393): HOST with its logical device, CHASSIS (SB) and YARD (SV). -/
inductive Port where
  | host (ld : Fin 16)
  | chassis
  | yard
  deriving DecidableEq, Repr

/-- Who makes a register access: a port, or the Ferryman cores (tag FW) with the pc of the store (R393, R405). -/
inductive Src where
  | port (p : Port)
  | firmware (pc : Word)
  deriving DecidableEq, Repr

/-- What the LTSSM and the alternate-protocol negotiation settled on at L0 (R149, R150). -/
structure LinkMode where
  cxl : Bool
  mld : Bool
  rate : Fin 5
  x16 : Bool
  flit256 : Bool
  lopt : Bool
  laneRev : Bool
  deriving DecidableEq, Repr

/-- The completion status of a NAND operation, Table 11-5 (R259). OK_RETRY carries the level that decoded, and a
read that decodes carries the largest number of bits corrected in a codeword (R266). -/
inductive NandStatus where
  | ok (corrected : Nat)
  | okRetry (level : Nat) (corrected : Nat)
  | uncorrectable
  | metaCrc
  | erased
  | programFail
  | eraseFail
  | withdrawn
  | dieGone
  | timeout
  deriving DecidableEq, Repr

/-- How an open or a seal ends at its lane (R311, R132): the tag and the metadata check, the tag fails, or the
metadata names another granule, GEN or epoch. -/
inductive MsgEnd where
  | good
  | tagFail
  | metaFail
  deriving DecidableEq, Repr

/-- How a transfer that the device controls ends (R377 to R379): it completes, a byte is not acknowledged, the PEC read is
wrong, arbitration is lost eight times in a row, or SDA is still low after nine clocks. -/
inductive XferEnd where
  | ok
  | nack
  | pec
  | arbLost
  | stuck
  deriving DecidableEq, Repr

/-- What a DRAM read is for (R213, Table 9-3): a host read, or the read of a MemWrPtl merge; the capture of a copy, with the
copy's number; a read of a copy's staging slot; or a read of the reserved region. -/
inductive CapFor where
  | host (ld : Fin 16) (tag : BitVec 16)
  | merge (ld : Fin 16) (tag : BitVec 16) (data : Line) (be : BitVec 64)
  | copy (id : Nat)
  | staging (id : Nat)
  | reserved
  deriving DecidableEq, Repr
/-- One constructor for each row of spec/opcode_table.json: a command, an event on a pin, or an event of the
device's own engines and timers. What only the world outside decides (a sampled level, a measured value, the
completion status of a part) is an operand. -/
inductive Instr where
  /-- AUX_ON (R448). -/
  | auxOn (pins : PinLevels)
  /-- AUX_OFF (R10). -/
  | auxOff (pins : PinLevels)
  /-- READY_AON (R16). -/
  | readyAon
  /-- READY_CHARTER (R19). -/
  | readyCharter
  /-- CHARTER_MIGRATED (R21). -/
  | charterMigrated
  /-- CHARTER_MIGRATE_FAIL (R21). -/
  | charterMigrateFail (timeout : Bool)
  /-- READY_FW (R16). -/
  | readyFw
  /-- MAIN_GOOD (R9). -/
  | mainGood
  /-- INPUT_FAIL (R9). -/
  | inputFail
  /-- REMOVAL (R14). -/
  | removal
  /-- PERST_ON (R10). -/
  | perstOn (pins : PinLevels)
  /-- PERST_OFF (R10). -/
  | perstOff (pins : PinLevels)
  /-- HOST_ABSENT (R9). -/
  | hostAbsent
  /-- MODE_REQ_OFF (R26). -/
  | modeReqOff (src : Src)
  /-- MODE_REQ_ON (R26). -/
  | modeReqOn (src : Src)
  /-- MODE_REQ_MAINT_ENTER (R26). -/
  | modeReqMaintEnter (src : Src)
  /-- MODE_REQ_MAINT_EXIT (R26). -/
  | modeReqMaintExit (src : Src)
  /-- MODE_REQ_RECOV (R26). -/
  | modeReqRecov (src : Src)
  /-- MODE_REQ_RESET_FULL (R26). -/
  | modeReqResetFull (src : Src)
  /-- CORE_LOCK_WRITE (R22). -/
  | coreLockWrite (src : Src)
  /-- READY_MAILBOX (R177). -/
  | readyMailbox
  /-- MEM_WR (R35). -/
  | memWr (addr : HostAddr) (data : Line) (poison : Bool) (damaged : Bool) (tag : BitVec 16)
  /-- MEM_WR_PTL (R153). -/
  | memWrPtl (addr : HostAddr) (data : Line) (be : BitVec 64) (poison : Bool) (damaged : Bool) (tag : BitVec 16)
  /-- MEM_RD (R29). -/
  | memRd (addr : HostAddr) (damaged : Bool) (tag : BitVec 16)
  /-- MEM_RD_DATA (R153). -/
  | memRdData (addr : HostAddr) (damaged : Bool) (tag : BitVec 16)
  /-- MEM_SPEC_RD (R153). -/
  | memSpecRd (addr : HostAddr) (taken : Bool) (tag : BitVec 16)
  /-- MEM_INV (R153). -/
  | memInv (addr : HostAddr) (tag : BitVec 16)
  /-- MEM_INV_NT (R153). -/
  | memInvNt (addr : HostAddr) (tag : BitVec 16)
  /-- BUDGET_RECOMPUTE (R39). -/
  | budgetRecompute
  /-- THRU_FERRY_CAPTURE (R47). -/
  | thruFerryCapture (g : BitVec 26) (damaged : Bool)
  /-- GPF_PHASE2 (R32). -/
  | gpfPhase2
  /-- GPF_PARTIAL (R32). -/
  | gpfPartial
  /-- WEAR_CREDIT (R89). -/
  | wearCredit
  /-- CHECKPOINT_INTERVAL (R74). -/
  | checkpointInterval
  /-- MAP_GRANULES_LOADED (R77): `failed`, a recorded copy could be neither read nor rebuilt; `recon`, one
was rebuilt from its stripe (R81); `damaged`, the loaded entries whose CHECK fails (R60). -/
  | mapGranulesLoaded (failed : Bool) (recon : Bool := false) (damaged : List (BitVec 26) := [])
  /-- MAP_ROLLFWD_END (R77). -/
  | mapRollfwdEnd
  /-- MAP_REBUILD_END (R77). -/
  | mapRebuildEnd
  /-- MAP_NORMALISATION_END (R77). -/
  | mapNormalisationEnd
  /-- GMAP_LOOKUP (R81). -/
  | gmapLookup (src : Src) (val : Word)
  /-- GMAP_LOOKUP_DONE (R81): `damaged`, the entry read fails its CHECK (R60). -/
  | gmapLookupDone (damaged : Bool := false)
  /-- GMAP_CACHE_FLUSH (R81). -/
  | gmapCacheFlush (src : Src)
  /-- GMAP_CACHE_FLUSH_DONE (R81). -/
  | gmapCacheFlushDone
  /-- SWEEP_PASS_START (R85). -/
  | sweepPassStart
  /-- SWEEP_PASS_END (R85): `damaged`, the entries the pass read whose CHECK fails (R60). -/
  | sweepPassEnd (damaged : List (BitVec 26) := [])
  /-- FERRY_CAPTURE (R86). -/
  | ferryCapture (damaged : Bool)
  /-- FERRY_REISSUE (R92): `damaged`, the entry read fails its CHECK (R60). -/
  | ferryReissue (damaged : Bool := false)
  /-- FERRY_PARK_EXPIRY (R92). -/
  | ferryParkExpiry (g : BitVec 26)
  /-- FERRY_DRAIN_ONCE (R103). -/
  | ferryDrainOnce (src : Src)
  /-- FOLD_CAPTURE (R94). -/
  | foldCapture (damaged : Bool)
  /-- RELOCATION_CAPTURE (R268). -/
  | relocationCapture (damaged : Bool)
  /-- HOST_QUIESCED (R108). -/
  | hostQuiesced
  /-- CROSSING_MAP_FLUSHED (R110). -/
  | crossingMapFlushed
  /-- CARRY_CAPTURE (R110): `damaged`, the granules whose entries the walk has found damaged on its way (R123). -/
  | carryCapture (damaged : List (BitVec 26))
  /-- RESTORE_TAKE (R134). -/
  | restoreTake (damaged : Bool)
  /-- RESTORE_ZERO_FILL_DONE (R131). -/
  | restoreZeroFillDone (g : BitVec 26)
  /-- RESTORE_PRIO_WRITE (R134). -/
  | restorePrioWrite (src : Src) (limit : Bool) (val : Word)
  /-- SESSION_OPEN_WRITTEN (R143). -/
  | sessionOpenWritten
  /-- LINK_L0 (R150). -/
  | linkL0 (mode : LinkMode)
  /-- LINK_DOWN (R150). -/
  | linkDown
  /-- FLR (R149). -/
  | flr (ld : Fin 16)
  /-- CXL_RESET (R149). -/
  | cxlReset (ld : Fin 16)
  /-- SET_LD_ALLOCATIONS (R151). -/
  | setLdAllocations (sizes : List Nat)
  /-- BAR2_BAD_ACCESS (R166). -/
  | bar2BadAccess (off : BitVec 20) (write : Bool)
  /-- REGISTER_WRITE (R394). -/
  | registerWrite (src : Src) (off : BitVec 20) (val : Word)
  /-- IDENTIFY (R170). -/
  | identify (ld : Fin 16)
  /-- BACKGROUND_OPERATION_STATUS (R170). -/
  | backgroundOperationStatus (ld : Fin 16)
  /-- GET_RESPONSE_MESSAGE_LIMIT (R170). -/
  | getResponseMessageLimit (ld : Fin 16)
  /-- GET_SUPPORTED_LOGS (R170). -/
  | getSupportedLogs (ld : Fin 16)
  /-- GET_LOG (R170). -/
  | getLog (ld : Fin 16) (uuid : BitVec 128) (off : BitVec 32) (len : BitVec 32)
  /-- GET_EVENT_RECORDS (R170). -/
  | getEventRecords (ld : Fin 16) (log : Byte)
  /-- CLEAR_EVENT_RECORDS (R170). -/
  | clearEventRecords (ld : Fin 16) (log : Byte) (all : Bool) (handles : List (BitVec 16))
  /-- GET_EVENT_INTERRUPT_POLICY (R170). -/
  | getEventInterruptPolicy (ld : Fin 16)
  /-- SET_EVENT_INTERRUPT_POLICY (R170). -/
  | setEventInterruptPolicy (ld : Fin 16) (val : Word)
  /-- GET_FW_INFO (R170). -/
  | getFwInfo (ld : Fin 16)
  /-- GET_TIMESTAMP (R413). -/
  | getTimestamp (ld : Fin 16)
  /-- SET_TIMESTAMP (R413). -/
  | setTimestamp (ld : Fin 16) (t : BitVec 64)
  /-- IDENTIFY_MEMORY_DEVICE (R170). -/
  | identifyMemoryDevice (ld : Fin 16)
  /-- GET_PARTITION_INFO (R170). -/
  | getPartitionInfo (ld : Fin 16)
  /-- GET_LSA (R170). -/
  | getLsa (ld : Fin 16) (off : BitVec 32) (len : BitVec 32)
  /-- SET_LSA (R170). -/
  | setLsa (ld : Fin 16) (off : BitVec 32) (data : Bytes)
  /-- GET_HEALTH_INFO (R172). -/
  | getHealthInfo (ld : Fin 16) (temp : BitVec 16)
  /-- GET_ALERT_CONFIG (R172). -/
  | getAlertConfig (ld : Fin 16)
  /-- SET_ALERT_CONFIG (R172). -/
  | setAlertConfig (ld : Fin 16) (valid : Byte) (enable : Byte) (life : Byte) (hi : BitVec 16) (lo : BitVec 16) (vol : BitVec 16) (pers : BitVec 16)
  /-- GET_SHUTDOWN_STATE (R163). -/
  | getShutdownState (ld : Fin 16)
  /-- SET_SHUTDOWN_STATE (R163). -/
  | setShutdownState (ld : Fin 16) (dirty : Bool)
  /-- GET_POISON_LIST (R171). -/
  | getPoisonList (ld : Fin 16) (dpa : BitVec 64) (len : BitVec 64)
  /-- INJECT_POISON (R171). -/
  | injectPoison (ld : Fin 16) (dpa : BitVec 64) (damaged : Bool)
  /-- CLEAR_POISON (R171). -/
  | clearPoison (ld : Fin 16) (dpa : BitVec 64) (data : Line) (damaged : Bool)
  /-- UNSUPPORTED_COMMAND (R170). -/
  | unsupportedCommand (ld : Fin 16) (opcode : BitVec 16)
  /-- KX_POWER_OFF (R105). -/
  | kxPowerOff (p : Port) (input : Bytes)
  /-- KX_POWER_ON (R174). -/
  | kxPowerOn (p : Port) (input : Bytes)
  /-- KX_MODE_MAINT_ENTER (R174). -/
  | kxModeMaintEnter (p : Port) (rest : Bytes)
  /-- KX_MODE_MAINT_EXIT (R174). -/
  | kxModeMaintExit (p : Port) (rest : Bytes)
  /-- KX_MODE_RECOV_REQ (R174). -/
  | kxModeRecovReq (p : Port) (rest : Bytes)
  /-- KX_RESET_FW (R174). -/
  | kxResetFw (p : Port) (rest : Bytes)
  /-- KX_RESET_FULL (R174). -/
  | kxResetFull (p : Port) (rest : Bytes)
  /-- KX_GET_STATUS (R175). -/
  | kxGetStatus (p : Port) (input : Bytes)
  /-- KX_LOG_READ (R176). -/
  | kxLogRead (p : Port) (input : Bytes)
  /-- KX_BATT_STATE_GET (R366). -/
  | kxBattStateGet (p : Port) (input : Bytes)
  /-- KX_BATT_STATE_PUT (R367). -/
  | kxBattStatePut (p : Port) (input : Bytes)
  /-- KX_UPD_OPEN (R432). -/
  | kxUpdOpen (p : Port) (input : Bytes)
  /-- KX_UPD_PIECE (R431). -/
  | kxUpdPiece (p : Port) (input : Bytes)
  /-- KX_UPD_BITMAP (R174). -/
  | kxUpdBitmap (p : Port) (input : Bytes)
  /-- KX_UPD_COMMIT (R434). -/
  | kxUpdCommit (p : Port) (input : Bytes)
  /-- KX_UPD_ABANDON (R432). -/
  | kxUpdAbandon (p : Port) (input : Bytes)
  /-- KX_MARGIN (R345). -/
  | kxMargin (p : Port) (input : Bytes)
  /-- KX_DRAM_RETRAIN (R226). -/
  | kxDramRetrain (p : Port) (input : Bytes)
  /-- KX_SALVAGE_OPEN (R439). -/
  | kxSalvageOpen (p : Port) (input : Bytes)
  /-- KX_SALVAGE_PIECE (R439). -/
  | kxSalvagePiece (p : Port) (input : Bytes)
  /-- KX_SALVAGE_COMMIT (R439). -/
  | kxSalvageCommit (p : Port) (input : Bytes)
  /-- TIDE_WINDOW (R186). -/
  | tideWindow (counts : List Nat)
  /-- AVS_STEP (R190). -/
  | avsStep
  /-- FAB_STALL (R193). -/
  | fabStall (port : Fin 16) (phase : Fin 4)
  /-- TIDE_EXTREMES_CLEAR (R195). -/
  | tideExtremesClear (src : Src)
  /-- DRAM_COMMAND_ISSUE (R201). -/
  | dramCommandIssue (q : Fin 512)
  /-- DRAM_READ_CAPTURE (R213). -/
  | dramReadCapture (addr : Dpa) (who : CapFor) (e0 : List (BitVec 40)) (e1 : List (BitVec 40)) (e2 : List (BitVec 40))
  /-- CLEAN_REFETCH_DONE (R217). -/
  | cleanRefetchDone (g : BitVec 26)
  /-- REFRESH_DUE (R205). -/
  | refreshDue
  /-- DRAM_TEMP_POLL (R207). -/
  | dramTempPoll (rates : List (BitVec 3 × Bool))
  /-- ROW_IDLE_CLOSE (R204). -/
  | rowIdleClose (q : Fin 512)
  /-- POWER_DOWN_ENTRY (R208). -/
  | powerDownEntry (sub : Fin 8) (rank : Fin 2)
  /-- CA_PARITY_ALERT (R219). -/
  | caParityAlert (sub : Fin 8)
  /-- ALERT_RELEASE (R219). -/
  | alertRelease (sub : Fin 8)
  /-- REPLAY_END (R221). -/
  | replayEnd (sub : Fin 8)
  /-- CA_RETRAIN_END (R235): `found`, by component, the first and the last step that passed of the 17 from 8 below to 8 above its
present value. -/
  | caRetrainEnd (sub : Fin 8) (found : List (Fin 10 × Fin 17 × Fin 17) := [])
  /-- DRAM_INIT_DONE (R221). -/
  | dramInitDone (sub : Fin 8)
  /-- DCTL_TRN_GO (R227). -/
  | dctlTrnGo (src : Src) (val : Word)
  /-- GATHER_END (R227): by lane, the steps that passed. -/
  | gatherEnd (passes : List (Fin 320 × BitVec 128))
  /-- DCTL_TRN_APPLY (R227). -/
  | dctlTrnApply (src : Src) (val : Word)
  /-- DCTL_TRN_DISCARD (R227). -/
  | dctlTrnDiscard (src : Src) (val : Word)
  /-- TRN_RESULTS_TIMEOUT (R237). -/
  | trnResultsTimeout
  /-- PERIODIC_PAUSE (R233): the oscillators' counts, and whether each lane passed at CENTRE − 1 and at CENTRE + 1. -/
  | periodicPause (sub : Fin 8) (counts : List (Fin 10 × BitVec 16)) (passes : List (Fin 40 × Bool × Bool) := [])
  /-- PERIODIC_PAUSE_END (R233). -/
  | periodicPauseEnd (sub : Fin 8)
  /-- FREQ_CHANGE_REQUEST (R236). -/
  | freqChangeRequest (src : Src) (val : Word)
  /-- FREQ_CHANGE_START (R238). -/
  | freqChangeStart
  /-- FREQ_ENTER_DONE (R238). -/
  | freqEnterDone
  /-- PLL_LOCK (R238). -/
  | pllLock
  /-- SELF_REFRESH_ENTRY (R240). -/
  | selfRefreshEntry (sub : Fin 8)
  /-- READY_NAND (R272). -/
  | readyNand
  /-- NAND_DIE_CHECK_END (R271): `bad`, the planes and blocks whose factory markers say bad, read at first start (R265). -/
  | nandDieCheckEnd (ch : Fin 16) (d : Fin 8) (id : Option Bytes) (phy : Bool) (bad : List (Fin 4 × Fin 4096) := [])
  /-- NAND_OP_ISSUE (R259). -/
  | nandOpIssue (ch : Fin 16) (d : Fin 8)
  /-- NAND_OP_COMPLETE (R259). -/
  | nandOpComplete (ch : Fin 16) (d : Fin 8) (st : NandStatus)
  /-- NAND_OP_TIMEOUT (R270). -/
  | nandOpTimeout (ch : Fin 16) (d : Fin 8)
  /-- NAND_SUSPEND (R262). -/
  | nandSuspend (ch : Fin 16) (d : Fin 8)
  /-- GROUP_CLOSE_TIMEOUT (R254): `damaged`, the entries read to fill the group whose CHECK fails (R60). -/
  | groupCloseTimeout (damaged : List (BitVec 26) := [])
  /-- CHTR_DISCOVERY_DONE (R299). -/
  | chtrDiscoveryDone (supported : Bool) (xspi : Bool) (density : Fin 4) (jedec : BitVec 24) (page512 : Bool)
  /-- CHTR_REFCLK_STABLE (R278). -/
  | chtrRefclkStable
  /-- CHTR_REFCLK_LOST (R278). -/
  | chtrRefclkLost
  /-- CHTR_READ (R297). -/
  | chtrRead (src : Src) (tag : Byte) (lenM1 : BitVec 16) (addr : Word) (buf : Word)
  /-- CHTR_PROGRAM (R283). -/
  | chtrProgram (src : Src) (tag : Byte) (lenM1 : BitVec 16) (addr : Word) (buf : Word) (ram : Bytes)
  /-- CHTR_ERASE_4K (R281). -/
  | chtrErase4k (src : Src) (tag : Byte) (addr : Word)
  /-- CHTR_ERASE_64K (R281). -/
  | chtrErase64k (src : Src) (tag : Byte) (addr : Word)
  /-- CHTR_READ_SFDP (R303). -/
  | chtrReadSfdp (src : Src) (tag : Byte) (lenM1 : BitVec 16) (addr : Word) (buf : Word)
  /-- CHTR_OP_COMPLETE (R283). -/
  | chtrOpComplete (bad : Bool)
  /-- CHTR_OP_TIMEOUT (R279). -/
  | chtrOpTimeout
  /-- CHTR_CMPL_ACK (R303). -/
  | chtrCmplAck (src : Src)
  /-- CHTR_PR_READ (R294). -/
  | chtrPrRead (src : Src)
  /-- CHTR_PR_WRITE (R294). -/
  | chtrPrWrite (src : Src)
  /-- PW_SET (R296). -/
  | pwSet (src : Src) (region : Bool)
  /-- PW_UNLOCK (R296). -/
  | pwUnlock (src : Src) (region : Bool)
  /-- PW_LOCK (R296). -/
  | pwLock (src : Src) (region : Bool)
  /-- PW_CLEAR (R296). -/
  | pwClear (src : Src) (region : Bool)
  /-- PW_ERASE_REGION (R296). -/
  | pwEraseRegion (src : Src) (region : Bool)
  /-- PW_LOCKOUT_EXPIRY (R296). -/
  | pwLockoutExpiry (region : Bool)
  /-- ROM_READ (R298). -/
  | romRead (addr : Word) (buf : BitVec 18) (len : BitVec 17) (pc : Word)
  /-- ROM_PROGRAM (R298). -/
  | romProgram (addr : Word) (buf : BitVec 18) (ram : Bytes) (pc : Word)
  /-- ROM_ERASE (R298). -/
  | romErase (addr : Word) (big : Bool) (pc : Word)
  /-- ROM_CRC32C (R298). -/
  | romCrc32c (ram : Bytes) (init : Word)
  /-- ROM_SFDP (R298). -/
  | romSfdp (off : Word) (buf : BitVec 18) (len : BitVec 9) (pc : Word)
  /-- CIPHER_MESSAGE_START (R307). -/
  | cipherMessageStart
  /-- CIPHER_MESSAGE_DONE (R311). -/
  | cipherMessageDone (lane : Fin 16) (res : MsgEnd)
  /-- CIPH_ADVANCE (R329). -/
  | ciphAdvance (src : Src)
  /-- EPOCH_RESERVATION_COMMIT (R314). -/
  | epochReservationCommit (done : Fin 3)
  /-- EPOCH_RESERVE_RETRY (R319). -/
  | epochReserveRetry
  /-- CHK_INIT (R324). -/
  | chkInit (src : Src) (n : Fin 8) (val : Word)
  /-- CHK_VALUE_WRITE (R324). -/
  | chkValueWrite (src : Src) (n : Fin 8) (val : Word)
  /-- CHK_FEED8 (R323). -/
  | chkFeed8 (src : Src) (n : Fin 8) (val : Word)
  /-- CHK_FEED16 (R323). -/
  | chkFeed16 (src : Src) (n : Fin 8) (val : Word)
  /-- CHK_FEED32 (R323). -/
  | chkFeed32 (src : Src) (n : Fin 8) (val : Word)
  /-- CHK_EXPECT (R325). -/
  | chkExpect (src : Src) (n : Fin 8) (val : Word)
  /-- RAIL_SAMPLE (R341). -/
  | railSample (pins : PinLevels) (sns : List Nat) (tele : List Nat)
  /-- PM_STATUS_POLL (R341). -/
  | pmStatusPoll (stat : List Byte)
  /-- TIMETABLE_WAIT_EXPIRY (R336). -/
  | timetableWaitExpiry
  /-- TIMETABLE_CHECK_TIMEOUT (R336). -/
  | timetableCheckTimeout
  /-- RAMP_TIMEOUT (R343). -/
  | rampTimeout (rail : Fin 24)
  /-- DISCHARGE_TIMEOUT (R344). -/
  | dischargeTimeout (rail : Fin 24)
  /-- SEQ_MARGIN_WRITE (R345). -/
  | seqMarginWrite (src : Src) (val : Word)
  /-- BELL_TX (R346). -/
  | bellTx (src : Src) (val : Word)
  /-- BELL_FRAME (R347). -/
  | bellFrame (k : Fin 64) (parityOk : Bool)
  /-- BELL_BARRIER_RELEASE (R347). -/
  | bellBarrierRelease
  /-- BELL_BARRIER_TIMEOUT (R347). -/
  | bellBarrierTimeout
  /-- BELL_LINE_FAIL (R349). -/
  | bellLineFail
  /-- BELL_LINE_RECOVER (R349). -/
  | bellLineRecover
  /-- BATT_SAMPLE (R356). -/
  | battSample (cur : Option Int) (volt : Option Nat) (temp : Option Int) (idMv : Option Nat)
  /-- PACK_PRESENCE_HELD (R358). -/
  | packPresenceHeld
  /-- SETTLING_TIMEOUT (R360). -/
  | settlingTimeout
  /-- FAULT_RECOVERED (R360). -/
  | faultRecovered
  /-- ELB_RECOMPUTE (R361). -/
  | elbRecompute
  /-- CHARGER_RETRY (R368). -/
  | chargerRetry
  /-- CHARGE_TAPER (R364). -/
  | chargeTaper
  /-- DISCHARGE_TAPER (R364). -/
  | dischargeTaper
  /-- REST_CALIBRATION (R364). -/
  | restCalibration
  /-- BATT_RECAL (R372). -/
  | battRecal (src : Src) (val : Word)
  /-- WIN_ADDR (R386). -/
  | winAddr (sv : Bool) (count : Byte) (data : Bytes) (pec : Option Byte)
  /-- WIN_DATA_READ (R386). -/
  | winDataRead (sv : Bool) (wantPec : Bool)
  /-- WIN_DATA_WRITE (R386). -/
  | winDataWrite (sv : Bool) (count : Byte) (data : Bytes) (pec : Option Byte)
  /-- WIN_NEXT (R386). -/
  | winNext (sv : Bool) (wantPec : Bool)
  /-- STATUS (R385). -/
  | status (sv : Bool) (wantPec : Bool)
  /-- INFO (R385). -/
  | info (sv : Bool) (wantPec : Bool)
  /-- BUF_PTR (R385). -/
  | bufPtr (sv : Bool) (count : Byte) (data : Bytes) (pec : Option Byte)
  /-- BUF_DATA_WRITE (R385). -/
  | bufDataWrite (sv : Bool) (count : Byte) (data : Bytes) (pec : Option Byte)
  /-- BUF_DATA_READ (R385). -/
  | bufDataRead (sv : Bool) (wantPec : Bool)
  /-- EXEC (R387). -/
  | exec (sv : Bool) (count : Byte) (data : Bytes) (pec : Option Byte)
  /-- RESULT (R385). -/
  | result (sv : Bool) (wantPec : Bool)
  /-- TWB_XFER (R392). -/
  | twbXfer (src : Src) (val : Word)
  /-- TWB_TRANSFER_DONE (R377). -/
  | twbTransferDone (e : XferEnd) (data : Bytes)
  /-- STRETCH_TIMEOUT (R377). -/
  | stretchTimeout (sda : Option Bool)
  /-- PM_RETRY (R377). -/
  | pmRetry
  /-- TARGET_STRETCH_LIMIT (R380). -/
  | targetStretchLimit (sv : Bool)
  /-- REPEATED_START_ABORT (R381). -/
  | repeatedStartAbort (p : Fin 3)
  /-- TARGET_SCL_TIMEOUT (R382). -/
  | targetSclTimeout (p : Fin 3)
  /-- BUS_FAILED_RECOVER (R378). -/
  | busFailedRecover (p : Fin 3)
  /-- YARD_EN_LOW (R376). -/
  | yardEnLow
  /-- HOST_NOTIFY (R388). -/
  | hostNotify (e : XferEnd)
  /-- HOST_NOTIFY_RETRY (R388). -/
  | hostNotifyRetry (e : XferEnd)
  /-- WATCHDOG_KICK (R403). -/
  | watchdogKick (src : Src)
  /-- WATCHDOG_FORCE_EXPIRE (R403). -/
  | watchdogForceExpire (src : Src)
  /-- WATCHDOG_EXPIRY (R403). -/
  | watchdogExpiry
  /-- LOCKSTEP_MISMATCH (R401). -/
  | lockstepMismatch
  /-- FW_ACCESS_FAULT (R402). -/
  | fwAccessFault (kind : Fin 3) (addr : Word) (pc : Word) (aligned32 : Bool)
  /-- FW_NAND_READ (R409). -/
  | fwNandRead (src : Src) (val : Word)
  /-- FW_NAND_PROGRAM (R406). -/
  | fwNandProgram (src : Src) (val : Word)
  /-- FW_NAND_ERASE (R406). -/
  | fwNandErase (src : Src) (val : Word)
  /-- LOG_SCAN_DONE (R420). -/
  | logScanDone
  /-- LOG_APPEND (R416). -/
  | logAppend
  /-- LOG_PROGRAM_DONE (R416). -/
  | logProgramDone (fail : Bool)
  /-- LOG_TIMED_FLUSH (R416). -/
  | logTimedFlush
  /-- LOG_TIME_MARK (R413). -/
  | logTimeMark
  /-- UPD_PIECE_WRITTEN (R431). -/
  | updPieceWritten (bad : Bool)
  /-- UPD_IDLE_EXPIRY (R432). -/
  | updIdleExpiry
  /-- TRIAL_EXPIRY (R433). -/
  | trialExpiry
  /-- UPD_CTL_ROLLBACK (R438). -/
  | updCtlRollback (src : Src)
  /-- UPD_CTL_CONFIRM (R442). -/
  | updCtlConfirm (src : Src)
  /-- PAIR_LO_READ (R5). -/
  | pairLoRead (src : Src) (off : BitVec 20)
  /-- PART_READY (R299). -/
  | partReady
  /-- GPF_PHASE1 (R32). -/
  | gpfPhase1
  /-- DOE_CDAT_REQUEST (R149). -/
  | doeCdatRequest (ld : Fin 16)
  /-- MSIX_UNMASK (R177). -/
  | msixUnmask (ld : Fin 16) (v : Fin 4)
  /-- HDM_DECODER_COMMIT (R152). -/
  | hdmDecoderCommit (ld : Fin 16) (n : Fin 2) (commit : Bool) (base : BitVec 52) (size : Nat) (ways : Fin 8) (gran : Fin 7) (skip : Nat)
  /-- POWER_PART_HOST_NOTIFY (R373). -/
  | powerPartHostNotify (addr : BitVec 7) (data : BitVec 16)
  /-- SIDEBAND_UNKNOWN_CODE (R385). -/
  | sidebandUnknownCode (sv : Bool) (code : Byte)
  /-- ADDRESS_NOT_OWN (R384). -/
  | addressNotOwn (p : Fin 3)
  /-- FW_FAULT_WINDOW_EXPIRY (R26). -/
  | fwFaultWindowExpiry
  /-- RESTART_WINDOW_EXPIRY (R343). -/
  | restartWindowExpiry (rail : Fin 24)
  deriving DecidableEq, Repr

end Sys2Proof
end

