-- ==== Sys2Proof/Machine/State.lean ====
section
/-!
DEFINITION. The state of the device and of the parts on its module, as plain data, and State.reset.

One structure per block of Table 0-2. Registers that only hold what was written, and counters and latches, live in one
register file (Dev.regs, by BAR2 offset, in canonical form: rising offsets, no entry equal to the reset value of
Tables 21-2 to 21-17); registers that report live state are computed from the typed state (Machine/RegView.lean).
-/
namespace Sys2Proof.Machine

/-- The modes of Table 1-1, and the unpowered state of Table 1-3. -/
inductive Mode where
  | unpowered | standby | restore | service | save | maintenance | recovery
  deriving DecidableEq, Repr

/-- The mode events of Table 1-2. -/
inductive Ev where
  | auxOn | mainGood | inputFail | removal | perstOn | perstOff | hostAbsent | railCrit | offReq | onReq
  | maintEnter | maintExit | recovReq | fwFault | landDone | commit | resetFull | auxOff
  deriving DecidableEq, Repr

/-- The ST_ codes of Table 17-3. -/
inductive St where
  | ok | badParam | wrongMode | busy | notReady | aborted | noInput | noAuthority | bulkhead | notAdminLd | locked
  | region | riseRefused | verifyFail | storeTimeout | storeFailed | prDamaged | pwRequired | pwBad | pwLockout
  | mismatch | stale | twbTimeout | twbNack | twbPec | twbBusFailed | twbArbLost | slotBusy | noSession | imageBad
  | incompatible
  deriving DecidableEq, Repr

/-- A mode transition whose action takes time and has not ended (R12). -/
inductive Trans where
  /-- The AUX_ON transition: charter load running (Table 1-3, first rows). -/
  | auxOn
  /-- A landing abort: the down-timetable runs; the mode it leads to; the event; whether a new attempt follows. -/
  | landAbort (dest : Mode) (ev : Ev) (again : Bool)
  /-- OFF_REQ in RESTORE before READY_MAP: up to the next checkpoint, then down. -/
  | offAtCheckpoint
  /-- MAINT_ENTER in SERVICE: the drain to a dirty count of zero. -/
  | maintDrain
  /-- After COMMIT: the down-timetable, then the mode named. -/
  | afterCommit (dest : Mode)
  /-- After COMMIT of cause RAIL: down-timetable, then up-timetable and a cold landing. -/
  | railReland
  /-- RESET_FULL: the down-timetable of every raised rail. -/
  | resetFull
  /-- RESET_FULL: the charter load that follows it. -/
  | charterLoad
  deriving DecidableEq, Repr

/-- What one part of the device tells another inside one step; settled before the step ends (Machine/Modes.lean). -/
inductive Note where
  /-- A mode event to be taken by Table 1-3; with what it needs (the ST_ result is wanted by no one). -/
  | mode (e : Ev)
  /-- The up-timetable passed its persistence checkpoint (R338), the link checkpoint, or ended. -/
  | railsReady
  | linkCheckpoint
  | upEnded
  /-- The down-timetable started, and ended. -/
  | downStarted
  | downEnded
  /-- READY_CIPHER, READY_NAND, READY_DRAM, READY_MAP or another condition changed: evaluate Tables 1-6 and 5-2 again. -/
  | check
  /-- The epoch cannot be advanced (R318), and a stall ended. -/
  | epochStall
  | epochOk
  /-- Requests that waited may proceed (R44, R68, R136). -/
  | retry
  /-- The dirty count may have reached zero in a drain (Table 4-5). -/
  | drainCheck
  /-- A copy was captured while a subchannel is FAILED: its lines there read as uncorrectable (R93, R220). -/
  | captured (id : Nat)
  /-- A rail of the link domain fell outside a run, and the rail of a NAND channel (R343). -/
  | linkRail
  | nandRail (ch : Nat)
  /-- COMMIT was reached, or the crossing is abandoned (R122, R125). -/
  | committed
  | abandoned
  /-- A PATH rail left its operating limits (Table 5-9), and the pack reached its cut-off while it feeds the module (R115). -/
  | pathOut
  | packCut
  deriving DecidableEq, Repr

/-- CORE: the mode machine, the readiness vector, the boot report and the lock (R8 to R26). -/
structure CoreSt where
  mode : Mode
  prev : Nat
  cause : Nat
  landing : Nat
  inputReturned : Bool
  onPending : Bool
  recovPending : Bool
  resetPending : Bool
  fwFaults : Nat
  trans : Option Trans
  heldMainGood : Bool
  /-- The input is good: from MAIN_GOOD until the next INPUT_FAIL or REMOVAL (R368). -/
  inputGood : Bool
  /-- The auxiliary supply is present: from AUX_ON until AUX_OFF. -/
  auxGood : Bool
  ready : BitVec 16
  modeResult : St
  charterSlot : Bool
  fwSlot : Bool
  migrated : Bool
  migWriteFail : Bool
  otherCharterBad : Bool
  otherFwBad : Bool
  landAttempts : Nat
  charterVer : Nat
  locked : Bool
  lockEarly : Bool
  /-- The reference of CORE_LAND_T1 and _T2: the tick of the event that started the landing. -/
  landRef : Option Nat
  /-- The landing has not yet reached READY_HOSTMEM, or READY_RESTORED, for the first time. -/
  t1Wanted : Bool
  t2Wanted : Bool
  hostAbsentArmed : Bool
  /-- The Ferryman complex: 0 reset, 1 Slipway ROM, 2 firmware, 3 held (R409). -/
  fwState : Nat
  fwCause : Nat
  fwRestarts : Nat
  /-- The tick at which the watchdog count last started: PERIOD_MS × 25,000 ticks less those since are left (R403). -/
  wdogAt : Nat
  /-- The proxy that firmware holds for a command it serves (R404). -/
  proxy : Option Port
  deriving DecidableEq, Repr

/-- A persistence state of Table 3-3, with its code. -/
inductive GState where
  | clean | dirty | ferrying | redirty | pinned | unrestored | fetching
  deriving DecidableEq, Repr

/-- A map entry (Table 3-2); CHECK is computed (R60). `loc` is none for 0xFFFF_FFFF. -/
structure GEntry where
  st : GState
  xr : Bool
  poison : Bool
  age : Nat
  gen : Nat
  loc : Option Nat
  deriving DecidableEq, Repr

/-- A directory entry (R73): the LOC of the map granule's copy and its region. -/
structure DirEntry where
  loc : Nat
  xr : Bool
  deriving DecidableEq, Repr

/-- One crossing-index record (R76). -/
structure IndexRec where
  loc : Nat
  g : Nat
  poison : Bool
  deriving DecidableEq, Repr

/-- The map phases of Table 3-6. -/
inductive MapPhase where
  | absent | loading | rollfwd | rebuilding | live | saving | saved
  deriving DecidableEq, Repr

/-- One way of the map cache (R67): its line of 8 entries, and whether it is modified. -/
structure CacheWay where
  line : Nat
  modified : Bool
  deriving DecidableEq, Repr

/-- GMAP: the granule map (chapter 3). Entries that `entries` does not list equal `dflt`. -/
structure GmapSt where
  phase : MapPhase
  source : Nat
  dflt : GEntry
  entries : List (Nat × GEntry)
  unrestored : Nat
  /-- Dirty map granules that await capture, oldest change first, each with the write sequence at that change (R72, R74). -/
  mapDirty : List (Nat × Nat)
  dir : List (Nat × DirEntry)
  /-- The poison list: the slots whose VALID bit is 1, by slot number, with their granule index (R71). -/
  poisonList : List (Nat × Nat)
  poisonOvf : Bool
  /-- The CXL timestamp of the first overflow since the list last had a free slot (R171). -/
  poisonOvfTime : Nat
  /-- Granules with a line poisoned under R30 whose General Media Event has been written (R173). -/
  poisonSaid : List Nat
  /-- Numbers of the poison-list slots changed since the last committed checkpoint (R76, R117). -/
  poisonChanged : List Nat
  ckptSeq : Nat
  /-- A map granule has committed since the last checkpoint (R74). -/
  mapCommitted : Bool
  /-- The map checkpoint wanted next: interval, drain end or landing. -/
  ckptWanted : Bool
  /-- No map granule changed before this write sequence may be dirty when that checkpoint is captured (R143). -/
  ckptMark : Nat
  /-- The first unit of a checkpoint whose units are verified and whose CKPT entry is not yet programmed (R255). -/
  ckptLoc : Option Nat
  /-- Normalisation runs: the phase the row leads to is LIVE when it ends. -/
  normalising : Bool
  /-- The map cache, by set number; each set most recently used first (R67 to R69). -/
  cache : List (Nat × List CacheWay)
  lookupBusy : Bool
  lookupDone : Bool
  lookup : BitVec 64
  deriving DecidableEq, Repr

/-- The copy classes of Table 4-1, and the unit streams of a crossing (R256). -/
inductive Cls where
  | thru | mapGranule | checkpoint | background | fold | relocGranule | relocMap
  | xGranule | xMap | xIndex | xDir | xPoison | opening | commitRec
  deriving DecidableEq, Repr

/-- The progress of a copy: waiting for a cipher lane, being sealed, sealed and placed, with its program issued. -/
inductive CopyStage where
  /-- A fold or a relocation waits for the clean refetch of its granule (Table 9-3). -/
  | waitRead
  | waitLane | sealing | sealed
  deriving DecidableEq, Repr

/-- What a NAND unit holds, with its plaintext as typed data (Table 11-3, KIND). -/
inductive Payload where
  | granule (data : List (Nat × Byte))
  | mapGranule (entries : List (Nat × GEntry))
  | index (recs : List IndexRec)
  | dir (d : List (Nat × DirEntry))
  /-- Changed slots of the poison list, with their granule index, or none where the slot is free (R71, R76). -/
  | poison (slots : List (Nat × Option Nat))
  /-- A checkpoint (Table 3-5): the poison list by slot, and the frontier list's groups. -/
  | checkpoint (seq rollStart epoch : Nat) (d : List (Nat × DirEntry)) (slots : List (Nat × Nat)) (frontier : List Nat)
  | pad
  | journal (entries : List (Nat × Nat))
  /-- A further unit of a run whose typed contents its first unit holds. -/
  | cont
  /-- The parity unit of a stripe: the XOR of its members' payloads, with no metadata of its own (R248). -/
  | parity
  | opening (bytes : Bytes)
  | commitRec (bytes : Bytes)
  /-- A raw page that firmware programmed through CORE_FW_NAND_CMD (R406). -/
  | raw (data : List (Nat × Byte))
  deriving DecidableEq, Repr

/-- A copy on its way to NAND: an entry of the outstanding-copy table (R82) or a unit of a crossing. -/
structure Copy where
  id : Nat
  cls : Cls
  /-- Granule index, map-granule number, or position within the run. -/
  idx : Nat
  /-- GEN read at capture (R62); of a map granule, the write sequence of its oldest change (R74). -/
  g : Nat
  /-- Of a fold or a relocation, the key of the unit that it replaces. -/
  oldLoc : Option Nat
  wseq : Nat
  epoch : Nat
  poison : List Nat
  payload : Payload
  /-- The unit position it is placed at, none until it is placed; and the next unit of its run (R256). -/
  loc : Option Nat
  next : Option Nat
  stage : CopyStage
  /-- A crossing has started since its capture (R63, R97). -/
  refused : Bool
  /-- Its staging slot (R84); of a crossing, a slot of R110. -/
  slot : Nat
  /-- It is the reissue of a copy that failed: the top class of Table 4-1 (R83). -/
  reissued : Bool
  /-- Of a map granule, it carries a change (R72): a relocation of a clean map granule carries none. -/
  mapChange : Bool
  /-- Of a run's unit, it is the last of its run (NEXT_LOC, Table 11-3). -/
  last : Bool
  deriving DecidableEq, Repr

/-- The ferry engine states of Table 4-5. -/
inductive FeryMode where
  | off | run | drain | idle | lent | halted
  deriving DecidableEq, Repr

/-- A PINNED granule, in the order in which they became PINNED (R91); `captured` is the copy that carries it. `due`: the
moment of its capture has come (R47); `first`: its copy was refused, and the new copy goes ahead of the others (Table 2-2). -/
structure Pinned where
  g : Nat
  captured : Option Nat
  due : Bool
  first : Bool
  /-- Tick of pinning, or of the commit that opened the present window (R47). -/
  since : Nat
  lastWrite : Nat
  deriving DecidableEq, Repr

/-- A walk of folds (R94): index records not yet walked, or the walk of the entry table from a granule on. -/
inductive FoldWalk where
  | none
  | index (rest : List IndexRec)
  | table (next : Nat)
  deriving DecidableEq, Repr

/-- FERY: the budget, admission and the ferry engine (chapters 2 and 4). -/
structure FerySt where
  eng : FeryMode
  drainPending : Bool
  /-- Candidates with their AGE at queueing, in queue order (R86). -/
  cand : List (Nat × Nat)
  /-- A sweep pass that runs: its start tick, and whether it is timed. -/
  sweep : Option (Nat × Bool)
  sweepPasses : Nat
  /-- Lines of 8 granules whose summary bit is 1 (Table 4-2). -/
  summary : List Nat
  /-- A timed pass became due while one ran (R85). -/
  sweepDue : Bool
  drainOnce : List Nat
  copies : List Copy
  /-- Failed copies to be reissued, with their class, in order (R92). -/
  reissue : List Copy
  parked : List Nat
  failStreak : List (Nat × Nat)
  pinned : List Pinned
  fold : FoldWalk
  foldTableDone : Bool
  nextCopy : Nat
  wseq : Nat
  /-- W, the wear balance in bytes, and the remainder of the credit (R89). -/
  wear : Int
  wearRem : Nat
  wearTotal : Nat
  atFloor : Bool
  commits : Nat
  /-- Bytes committed by ferry and through-ferry, and by folds, in the present second and the last (FERY_RATE). -/
  rateNow : Nat
  foldNow : Nat
  b : Nat
  bArm : Nat
  limEnergy : Nat
  limHard : Nat
  limRegion : Nat
  limCfg : Nat
  stage : Nat
  bind : Nat
  breach : Bool
  exceeded : Bool
  k : Nat
  kUpdates : Nat
  kFromRecord : Bool
  eInput : Nat
  eInvalid : Bool
  /-- Credits taken in the present second (FERY_RATE). -/
  creditMs : Nat
  deriving DecidableEq, Repr

/-- The crossing machine states of Table 5-7. -/
inductive XState where
  | disarmed | armed | quiesce | opened | carry | close | committed | abandoned
  deriving DecidableEq, Repr

/-- XING, the save half (chapter 5). -/
structure XingSt where
  st : XState
  cause : Nat
  t0 : Nat
  tFirst : Nat
  /-- It has run from the pack since the first action, and INPUT_RETURNED was never set (R41). -/
  allBattery : Bool
  channelLost : Bool
  lostChannel : Nat
  breach : Bool
  modeFrom : Nat
  dQuiesce : Nat
  bGran : Nat
  eLbQuiesce : Nat
  /-- The carry set not yet captured, ascending. -/
  toCarry : List Nat
  remain : Nat
  carried : Nat
  /-- Map granules still to capture in step 3 of R110. -/
  toMap : List Nat
  mapWritten : Nat
  quiesced : Bool
  flushed : Bool
  openVerified : Bool
  /-- A program of the record on its way has passed. -/
  recordOk : Bool
  closeQueued : Bool
  commitQueued : Bool
  /-- Index records verified, ascending, not yet in an index unit; and the units written. -/
  idxPending : List IndexRec
  idxUnits : Nat
  idxAll : List IndexRec
  /-- The carry walk has visited the granules below this one (R110 step 4). -/
  walk : Nat
  /-- CKPT_SEQ of the opening record (Tables 5-5 and 5-6). -/
  ckptSeq : Nat
  wseqFirst : Nat
  wseqLast : Nat
  crossSeq : Nat
  /-- Failures counted per die over the crossing, and the dies excluded (Table 5-8). -/
  dieFails : List (Nat × Nat)
  excluded : List Nat
  /-- Energy drawn from the pack, in mJ, and the rest in 10⁻¹³ J (R114). -/
  energyMj : Nat
  energyRest : Nat
  kLearned : Bool
  poisonedLines : Nat
  deriving DecidableEq, Repr

/-- One granule in the restore table (R130, R131). -/
structure Restore where
  g : Nat
  /-- Its entry's number, of 0 to 4,095, which is the number of its landing-staging slot (R130). -/
  slot : Nat
  attempt : Nat
  demand : Bool
  start : Nat
  zero : Bool
  /-- The rebuild in attempt 1 for a lost die, or attempt 2: peers whose reads are outstanding. -/
  peers : Nat
  rebuilding : Bool
  deriving DecidableEq, Repr

/-- The landing states of Table 6-4. -/
inductive LState where
  | off | waiting | restoring | suspended | done
  deriving DecidableEq, Repr

/-- XING, the restore half (chapter 6). -/
structure LandSt where
  st : LState
  incomplete : Bool
  blank : Bool
  sessionOpen : Bool
  sessionAsked : Bool
  /-- CKPT_SEQ of the checkpoint that the session record names (R143). -/
  sessionCkpt : Nat
  table : List Restore
  /-- Demand fetches that wait for an entry, with the tick of step 1 of Table 6-3 (R136, R148). -/
  demandWait : List (Nat × Nat)
  cursor : Nat
  /-- 0: the priority range, 1: the rest, 2: the pass over what a crossing returned, 3: ended. -/
  walk : Nat
  bitmap : List Nat
  restored : Nat
  /-- Bytes restored in the present second (XING_RESTORE_RATE). -/
  rateNow : Nat
  /-- The Dirty Shutdown Count has been incremented for this landing (R33). -/
  counted : Bool
  /-- CROSS_SEQ of the crossings whose commit record is valid, as the record scan found them (R144). -/
  lastComplete : Option Nat
  deriving DecidableEq, Repr

/-- A CXL.mem operation that reaches the map. -/
inductive MemOp where
  | write
  | writePtl (be : BitVec 64)
  | read
  /-- The mailbox poison commands (R171). -/
  | inject
  | clear
  /-- A write whose completion is not sent, because the link went down (R160). -/
  | silent
  deriving DecidableEq, Repr

/-- A host request, with its device address. -/
structure MemReq where
  op : MemOp
  ld : Fin 16
  tag : BitVec 16
  dpa : Dpa
  data : Line
  poison : Bool
  /-- Arrival number, over all requests. -/
  seq : Nat
  deriving DecidableEq, Repr

/-- A write in DRAM whose acknowledgement is held (R35, R36): `copy` is the copy whose commit acknowledges it. -/
structure HeldWrite where
  req : MemReq
  g : Nat
  copy : Option Nat
  deriving DecidableEq, Repr

/-- An entry of an LD's CDAT (R149): the DSMAS entry of its capacity, and DSLBIS entries with a latency in ns or a bandwidth in
MB/s of that range. -/
inductive CdatEntry where
  | dsmas (handle base length : Nat) (nonVolatile : Bool)
  | dslbisLatency (handle ns : Nat)
  | dslbisBandwidth (handle mbs : Nat)
  deriving DecidableEq, Repr

/-- What the device sends to the world: CXL.mem responses (with DevLoad), GPF and mailbox completions with their CXL
return code and ST_ code, MSI-X messages, and what the two-wire ports drive. -/
inductive Out where
  | ndr (ld : Fin 16) (tag : BitVec 16) (devload : Nat)
  | drs (ld : Fin 16) (tag : BitVec 16) (devload : Nat) (data : Line) (poison : Bool)
  | gpfPhase1Done
  | gpfPhase2Done (partialFlush : Bool)
  | mbox (port : Port) (opcode : Nat) (ret : Nat) (st : St) (payload : Bytes)
  | msix (ld : Fin 16) (vector : Nat)
  | aerInternal (ld : Fin 16)
  /-- A link-level error, reported through PCIe AER (R178): the link went down with PERST_N high. -/
  | aerLinkDown
  | mmioRead (off : Nat) (val : Word)
  | doe (ld : Fin 16) (entries : List CdatEntry)
  | twoWire (port : Nat) (bytes : Bytes)
  | notifySent (pending : Nat)
  deriving DecidableEq, Repr

/-- The host-link states of Table 7-2. -/
inductive LinkSt where
  | down | training | io | mem | held
  deriving DecidableEq, Repr

/-- An HDM decoder of an LD (R152, Table 7-1). -/
structure Decoder where
  ld : Nat
  n : Nat
  base : Nat
  size : Nat
  ways : Nat
  gran : Nat
  skip : Nat
  committed : Bool
  deriving DecidableEq, Repr

/-- A CXL event record (R173): its handle, its kind, its DPA or value, and the timestamp when it was made. -/
structure EvRec where
  handle : Nat
  kind : Nat
  dpa : Nat
  ts : Nat
  deriving DecidableEq, Repr

/-- The per-LD standard-mailbox state that the device keeps (R170, R172, R163). -/
structure LdSt where
  logs : List (List EvRec)
  overflow : List Nat
  /-- Timestamps of the first and the last overflow of each log, in pairs. -/
  ovfTimes : List Nat
  nextHandle : Nat
  intPolicy : Word
  /-- MSI-X: mask bits, pending bits and the enable, as the table and PBA hold them (R177). -/
  msixMask : BitVec 4
  msixPend : BitVec 4
  alertValid : Byte
  alertEnable : Byte
  alertLife : Byte
  alertTempHi : BitVec 16
  alertTempLo : BitVec 16
  alertCeVol : BitVec 16
  alertCePers : BitVec 16
  /-- The warning thresholds that are crossed now (R173). -/
  alertHit : Byte
  deriving DecidableEq, Repr

/-- A background mailbox command (R169): opcode, port, per cent done, and its result once it has one. -/
structure BgCmd where
  port : Port
  opcode : Nat
  percent : Nat
  ret : Nat
  st : St
  running : Bool
  deriving DecidableEq, Repr

/-- HLNK: the host link (chapter 7), with what is in flight. -/
structure HlnkSt where
  link : LinkSt
  mode : LinkMode
  noCxl : Bool
  trained : Bool
  allocs : List Nat
  decoders : List Decoder
  reqOut : Nat
  rwdOut : Nat
  /-- Credits that the host holds, of the M2S Req and of the M2S RwD pool (R154). -/
  reqGranted : Nat
  rwdGranted : Nat
  devload : Nat
  /-- Requests that wait, in arrival order: for a pinned slot (R44), a cache way (R68) or a restore (R136). -/
  wait : List MemReq
  held : List HeldWrite
  seq : Nat
  /-- The pending GPF Phase 2 requests, oldest first: the start tick of each and the arrival number it covers (R32, R162). -/
  gpf : List (Nat × Nat)
  memActive : Bool
  /-- The CXL Dirty Shutdown Count and the shutdown states of the LDs, as PR2 block 0 holds them (R33, R163). -/
  dsc : Nat
  shutdown : List Nat
  lds : List LdSt
  bg : Option BgCmd
  /-- The Health Status last reported (R172, R173). -/
  health : Nat
  timestamp : Option (Nat × Nat)
  deriving DecidableEq, Repr

/-- The NAND geometry profile (Table 11-2). -/
structure Profile where
  id : Nat
  toggle : Bool
  rate : Nat
  diesPerCh : Nat
  planes : Nat
  blocks : Nat
  tlcPages : Nat
  pageBytes : Nat
  spare : Nat
  retryLevels : Nat
  progSuspend : Bool
  trMaxUs : Nat
  tprogSlcUs : Nat
  tprogTlcUs : Nat
  tbersUs : Nat
  tsuspUs : Nat
  peTlc : Nat
  peSlc : Nat
  idMatch : Bytes
  deriving DecidableEq, Repr

/-- A unit in NAND (Table 11-3): its metadata and its plaintext as typed data. -/
structure NUnit where
  kind : Nat
  idx : Nat
  gen : Nat
  wseq : Nat
  epoch : Nat
  poison : List Nat
  payload : Payload
  next : Option Nat
  mask : Nat
  parity : Nat
  crossSeq : Nat
  deriving DecidableEq, Repr

/-- Who wants the data of a read (R259): a restore, its stripe peers, a clean refetch, its peers, the redundancy rebuild of a
unit by its key (R261, R270), or firmware. -/
inductive ReadFor where
  | restore (g : Nat)
  | restorePeer (g : Nat)
  | refetch (g : Nat)
  | refetchPeer (g : Nat)
  | rebuild (key : Nat)
  | firmware
  deriving DecidableEq, Repr

/-- The operation of a descriptor (R259): an erase names its block row, or the position of one block; a journal page or a record
is programmed on channel 0 and as the second copy on channel 8 (R257); `feature` is a feature or parameter access. -/
inductive DOp where
  | read (loc : Nat) (xr : Bool) (who : ReadFor)
  | program (group : Nat)
  | erase (row : Nat)
  | eraseOne (pos : Nat)
  | journal (second : Bool)
  | record (commit : Bool) (second : Bool)
  | feature
  | fwProgram (loc : Nat) (slc : Bool) (data : List (Nat × Byte))
  | fwErase (loc : Nat)
  deriving DecidableEq, Repr

/-- A descriptor in a die's queue. `prio` is the place in the precedence of R130; 0 is highest. -/
structure Desc where
  op : DOp
  prio : Nat
  deriving DecidableEq, Repr

/-- The die states of Table 11-7. -/
inductive DieState where
  | off | init | idle | busy | suspended | lost | excluded
  deriving DecidableEq, Repr

/-- A die: its state, the operation it runs, one it has suspended, its queue, and what R270 counts. -/
structure DieSt where
  st : DieState
  cur : Option Desc
  susp : Option Desc
  queue : List Desc
  timeouts : Nat
  /-- Blocks that failed, with the tick, in the last second (R270). -/
  fails : List (Nat × Nat)
  /-- Tick of the last resume of the operation in progress, none where it was not suspended (R262). -/
  resumed : Option Nat
  /-- Tick at which it was lost. -/
  lostAt : Nat
  deriving DecidableEq, Repr

/-- The state of a block row: one logical block on one die row (R256, R258, R263, R264). -/
inductive RowState where
  | erased | opened | full | closed | undefinedRow | erasing
  deriving DecidableEq, Repr

/-- A block row that is not in its first state, with its erase count and what an erase still waits for. -/
structure Row where
  st : RowState
  erases : Nat
  /-- Channels whose erase has not ended. -/
  left : List Nat
  deriving DecidableEq, Repr

/-- An open or launched group (R252). `stream` is 0 for the image region, 1 and 2 for a crossing's data and metadata
streams (R256). -/
structure Group where
  id : Nat
  stream : Nat
  block : Nat
  row : Nat
  /-- The wordline, or the page of a crossing group. -/
  page : Nat
  /-- Its data positions in order, each with STRIPE_MASK and PARITY_CH (R251, R252). -/
  pos : List (Nat × Nat × Nat)
  /-- Copies placed, in order of position; it is closed with pads when `padded`. -/
  copies : List Nat
  /-- Its close time is over: its free positions are being filled (R254). -/
  closing : Bool
  padded : Bool
  launched : Bool
  /-- Channels whose share has not ended, and whose share failed. -/
  left : List Nat
  failed : List Nat
  deriving DecidableEq, Repr

/-- A superseded unit on its way to being reclaimable (R75): the map granule that must record the newer LOC;
for a superseded map-granule copy, 2^20 more than its number. -/
structure Superseded where
  key : Nat
  map : Nat
  deriving DecidableEq, Repr

/-- FLSH: the NAND controller and what the dies hold (chapter 11). -/
structure FlshSt where
  /-- 0 OFF, 1 INIT, 2 READY, 3 FAILED. -/
  st : Nat
  prof : Option Profile
  dies : List DieSt
  chLost : List Nat
  /-- Units by key: LOC, plus 2^32 in the crossing region. -/
  units : List (Nat × NUnit)
  rows : List (Nat × Row)
  groups : List Group
  nextGroup : Nat
  /-- Image-region groups of the newest committed checkpoint's frontier not yet opened: block × 2^14 + row × 2^11 + wordline. -/
  frontier : List Nat
  /-- Groups of the frontier list already written, oldest first. -/
  frontWritten : List Nat
  /-- Groups that a checkpoint not yet committed lists further. -/
  frontPend : List Nat
  /-- Per die row, the image block being listed and its next wordline. -/
  imgAlloc : List (Nat × (Nat × Nat))
  /-- Per crossing stream (1, 2), the block being filled, its next group (page × dies + die row), and the block that the stream
  has reserved (R256). -/
  xpos : List (Nat × (Nat × Nat × Option Nat))
  sup : List Superseded
  reclaim : List Nat
  /-- The journal pages in NAND, by block and page as 2,048 × block + page, oldest first, each with its entries as (OP, ADDR);
  and the entries waiting for the next page (R257, R263). -/
  journalPages : List (Nat × List (Nat × Nat))
  journalNext : List (Nat × Nat)
  /-- The entries of the page being programmed; and its programs: still to end, and passed. -/
  journalFly : List (Nat × Nat)
  journalBusy : Bool
  journalLeft : Nat
  journalOk : Bool
  /-- The journal block in use, 2 or 3, and its next free page. -/
  journalBlock : Nat
  journalPage : Nat
  /-- The copies of opening and commit records in NAND, by channel, block and page as 4,096 × channel + 2,048 × block + page; the
  record block in use, 0 or 1, and its next free page (R257). -/
  records : List (Nat × Payload)
  recordBlock : Nat
  recordPage : Nat
  /-- Single blocks to be erased, by position: whether the erase has been issued, and whether the block is undefined: system
  blocks (R257), and spare blocks whose erase by firmware was cut off (R112). -/
  blockErase : List (Nat × (Bool × Bool))
  /-- First start is over: factory bad blocks have been substituted (R265). -/
  factoryDone : Bool
  blockTable : List (Nat × (Nat × Nat))
  spareUsed : List (Nat × Nat)
  marked : List (Nat × Nat)
  /-- Units whose stripes have lost their redundancy, to be relocated first (R267, R270). -/
  exposed : List Nat
  /-- The redundancy rebuild (R261, R270): by unit key, the reads of its peers outstanding, and whether all have passed so far; and
  the units for which it has ended. -/
  rebuilds : List (Nat × (Nat × Bool))
  rebuilt : List Nat
  /-- Image groups that were cut off while they were programmed (R264). -/
  cut : List Nat
  /-- Granule copies verified that wait for the MAPDIRTY cap (R72). -/
  commitWait : List Nat
  /-- The 1 ms window in which program time was last charged, and by channel the ticks that background ferry, folds and relocation
  have been charged in it (R87, R94, R268). -/
  progWin : Nat
  progUsed : List (Nat × (Nat × Nat × Nat))
  /-- Descriptors that wait for an entry of their channel's queue, with channel and die (R259). -/
  waitQ : List (Nat × Nat × Desc)
  level : Nat
  /-- Corrected reads (R172). -/
  ceReads : Nat
  deriving DecidableEq, Repr

/-- The epoch machine states of Table 13-3. -/
inductive CiphMode where
  | off | reserve | active | stalled | failed
  deriving DecidableEq, Repr

/-- What a cipher message is for. -/
inductive MsgFor where
  | copy (id : Nat)
  | restore (g : Nat)
  | refetch (g : Nat)
  /-- The journal page on its way, or its second copy. -/
  | journal (second : Bool)
  deriving DecidableEq, Repr

/-- A message of the cipher engine (R304 to R310): a seal or an open, and its key's epoch, which a seal takes when it starts. -/
structure Msg where
  who : MsgFor
  isSeal : Bool
  epoch : Nat
  /-- It was resumed from a suspend slot (CIPH_LANE.RESUMED). -/
  resumed : Bool
  deriving DecidableEq, Repr

/-- CIPH: the cipher engine (chapter 13). -/
structure CiphSt where
  st : CiphMode
  epoch : Nat
  limit : Nat
  used : Nat
  reserved : Bool
  starts : Nat
  stallCause : Nat
  lanes : List (Option Msg)
  suspended : List Msg
  waiting : List Msg
  /-- The epochs of the cached keys, most recently used first (R313). -/
  cache : List Nat
  /-- A reservation write that runs: the LIMIT it writes (R314, R315). -/
  reserving : Option Nat
  /-- A reservation write failed and waits for its retry (R319). -/
  retry : Bool
  /-- The next write of these protected blocks must be sealed under a new epoch (R309). -/
  damaged : List Nat
  seals : Nat
  tagFailsNand : Nat
  tagFailsPr : Nat
  deriving DecidableEq, Repr

/-- A check-value context (R322 to R325). -/
structure ChkCtx where
  poly : Nat
  value : Word
  isMatch : Bool
  mismatch : Bool
  fed : Nat
  deriving DecidableEq, Repr

/-- An event in the logbook queue (R415). -/
structure LogEv where
  ty : Nat
  payload : Bytes
  count : Nat
  opS : Nat
  /-- Queued before the start-up scan ended: the scan's base is added when written (R413). -/
  early : Bool
  issued : Bool
  deriving DecidableEq, Repr

/-- A record the writer has written or is writing: where it lies, and what it holds (R411, R414). -/
structure LogRec where
  addr : Nat
  len : Nat
  ty : Nat
  payload : Bytes
  rseq : Nat
  count : Nat
  slots : Nat
  opS : Nat
  deriving DecidableEq, Repr

/-- LOG: the logbook writer (chapter 18). -/
structure LogSt where
  /-- 0 OFF, 1 SCAN, 2 READY, 3 FAILED. -/
  st : Nat
  queue : List LogEv
  /-- The newest record written since AUX_ON, its pending repeat and the time of the first pending repeat. -/
  newest : Option LogRec
  pending : Nat
  pendingS : Nat
  lostNow : Nat
  lostType : Nat
  lostS : Nat
  nextRseq : Nat
  oldestRseq : Nat
  /-- The head: next free address in the head sector, that sector's number in the ring and its SSEQ; none open yet: 0. -/
  head : Nat
  ssec : Nat
  sseq : Nat
  /-- Programs made since AUX_ON on the newest pages, by page number, newest first (R417). -/
  pages : List (Nat × Nat)
  /-- Original records still to be carried, and the sector to erase after them (R419). -/
  carry : List Bytes
  toErase : Option Nat
  /-- The sector ahead is not erased; what it holds to be carried is judged once the record that opened the head is written. -/
  ahead : Option Nat
  /-- Operating seconds at AUX_ON, the tick of AUX_ON, and the power-cycle count (R413). -/
  base : Nat
  auxTick : Nat
  cycles : Nat
  lastRecordS : Nat
  skipped : Nat
  /-- What is in flight at the store: 0 nothing, 1 an append of a queue entry, 2 a repeat slot, 3 an append of a carried
  record, 4 the erase of the sector ahead, 5 an append of a repeat as a new record. -/
  busy : Nat
  deriving DecidableEq, Repr

/-- An entry of a bank queue (R201): its row and burst index, whether it writes, and what (R218: the line, and whether it is the
poison mark); its requester: 0 to 15 the LD's host queue, 16 a correction write-back, 17 a clean refetch, 18 the map cache,
19 a demand fetch, 20 background restore, 21 the ferry movers, 22 the crossing (R88, R202, R211); and the tick at which it
reached DCTL. -/
structure QEntry where
  row : Nat
  col : Nat
  write : Bool
  who : Nat
  tick : Nat
  data : Option (Line × Bool)
  deriving DecidableEq, Repr

/-- The commands that DCTL issues to a subchannel. -/
inductive DCmdKind where
  | act | pre | rd | wr | ref | rfm
  deriving DecidableEq, Repr

/-- A command of the retry buffer (R218): its kind, the bank queue that it belongs to, row and burst index, whether it closes
its row (auto-precharge), and what a write carries. -/
structure DCmd where
  kind : DCmdKind
  q : Nat
  row : Nat
  col : Nat
  auto : Bool
  data : Option (Line × Bool)
  deriving DecidableEq, Repr

/-- A DRAM bank: its queue, the open row, the page predictor (R203) and the activation tracker (R210, R211). `t` lists the
counters of T that are not at their reset value 0b10. -/
structure Bank where
  queue : List QEntry
  opened : Option Nat
  last : Option Nat
  h : Nat
  t : List (Nat × Nat)
  rh : List (Nat × Nat)
  flagged : List Nat
  /-- Ticks of the last flag and of the last ACT (R211). -/
  flagTick : Nat
  actTick : Nat
  /-- The DDR5 rolling accumulated activation count (R210). -/
  raa : Nat
  deriving DecidableEq, Repr

/-- A bank after reset. -/
def Bank.reset : Bank :=
  { queue := [], opened := none, last := none, h := 0, t := [], rh := [], flagged := [], flagTick := 0, actTick := 0, raa := 0 }

/-- The subchannel states of Table 9-4. -/
inductive SubSt where
  | off | init | training | ready | replay | paused | selfRefresh | failed
  deriving DecidableEq, Repr

/-- A subchannel: its state, whether ALERT_xx_N is low, the alerts in a row of the present replay, whether that replay
follows a CA retraining, whether PAUSED was entered from REPLAY (R219, R220), its last 64 commands (R218), and a refresh
that waits for a replay or a pause to end (R206). -/
structure SubCh where
  st : SubSt
  alertLow : Bool
  alerts : Nat
  retrained : Bool
  fromReplay : Bool
  issued : List DCmd
  refWaits : Bool
  deriving DecidableEq, Repr

/-- A subchannel without power. -/
def SubCh.reset : SubCh :=
  { st := .off, alertLow := false, alerts := 0, retrained := false, fromReplay := false, issued := [], refWaits := false }

/-- A clean refetch (R217): its granule, the lines to rewrite, whether it holds a slot pair, its attempt, the rebuild with its
peers outstanding, and its result once it has one: verified, or failed. -/
structure Refetch where
  g : Nat
  lines : List Nat
  running : Bool
  /-- The slot pair j that it holds, of slots 2j and 2j + 1 (R217, Table 4-2). -/
  slot : Nat
  attempt : Nat
  rebuilding : Bool
  peers : Nat
  result : Option Bool
  deriving DecidableEq, Repr

/-- DCTL: the DRAM controller (chapter 9). Banks are keyed by queue index (R200); `ingress` holds requests that wait for a
queue entry, in arrival order (R202, R211). -/
structure DctlSt where
  subs : List SubCh
  banks : List (Nat × Bank)
  ingress : List (Nat × QEntry)
  /-- Ranks in power-down, as subchannel × 2 + rank (R208). -/
  powerDown : List Nat
  hot : Bool
  /-- Reads of MR4 in a row in which every rank reported the normal rate (R207). -/
  normalReads : Nat
  /-- Refresh commands since the trackers were cleared (R210). -/
  refreshes : Nat
  /-- A REFab has been issued since the last command (R233). -/
  afterRef : Bool
  refetches : List Refetch
  deriving DecidableEq, Repr

/-- DCTL without power. -/
def DctlSt.reset : DctlSt :=
  { subs := List.replicate 8 SubCh.reset, banks := [], ingress := [], powerDown := [], hot := false, normalReads := 0,
    refreshes := 0, afterRef := false, refetches := [] }

/-- The phases of a frequency change (Table 10-3). -/
inductive FreqPhase where
  | idle | deferred | enter | relock | train
  deriving DecidableEq, Repr

/-- The training sequencer and the helpers (chapter 10). -/
structure TrnSt where
  /-- The gather that runs: its mask and OP. -/
  gather : Option (BitVec 8 × Nat)
  /-- Subchannels with results pending; by subchannel, the OP that gave them and the tick at which the gather ended (R227,
  R237). -/
  pending : BitVec 8
  pendBy : List (Nat × (Nat × Nat))
  /-- The components, as 10 × subchannel + component, with a lane that failed in an OP of the present training (R231). -/
  bad : List Nat
  /-- What training has set, by key: the delay of each lane under each OP from 1 to 5, the reference voltage under 6 and 7, as
  320 × OP + eye index; and the read-enable position of each subchannel, from 2560 on (R227, R229). Where not 0. -/
  applied : List (Nat × Nat)
  /-- By subchannel, the OP whose delay DCTL_TRN_EYE.CENTRE shows: the last of 1 to 5 that was applied. -/
  eyeOp : List (Nat × Nat)
  /-- By subchannel, the PATTERN that its rows of the training-pattern area hold (R227, R228). -/
  rows : List (Nat × Nat)
  /-- By component, the count of its DQS interval oscillator when training was last applied (R233). -/
  oscBase : List (Nat × Nat)
  /-- The subchannel whose tracking turn is next, and those whose turn was skipped in self-refresh (R233, R241). -/
  turn : Nat
  skipped : List Nat
  /-- Per subchannel, the OPs applied since its training began, and whether steps 3 to 7 have been repeated (R231). -/
  done : List (List Nat)
  repeated : BitVec 8
  /-- KX_DRAM_RETRAIN runs on these subchannels. -/
  retrain : Option (BitVec 8)
  advised : BitVec 8
  /-- Drift of each lane since its last gather, by key as in `applied`, where not 0, with the largest so far (R234). -/
  drift : List (Nat × (Int × Nat))
  phase : FreqPhase
  /-- The speed a change left, and the target of the change that runs. -/
  oldSpeed : Nat
  newSpeed : Nat
  setA : Nat
  setB : Nat
  /-- The results that set A and set B hold, as in `applied`, and CL and CWL in force, in tCK (R236, R238). -/
  delaysA : List (Nat × Nat)
  delaysB : List (Nat × Nat)
  cl : Nat
  cwl : Nat
  /-- Set A, not set B, is in use. -/
  inA : Bool
  lastResult : Nat
  deriving DecidableEq, Repr

/-- The training state without power. -/
def TrnSt.reset : TrnSt :=
  { gather := none, pending := 0, pendBy := [], bad := [], applied := [], eyeOp := [], rows := [], oscBase := [], turn := 0
    skipped := [], done := List.replicate 8 [], repeated := 0, retrain := none, advised := 0, drift := [], phase := .idle
    oldSpeed := 0, newSpeed := 0, setA := 0, setB := 0, delaysA := [], delaysB := [], cl := 0, cwl := 0, inA := true
    lastResult := 0 }

/-- The requester of a charter store operation (R281, R285). -/
inductive ChReq where
  | rom | logbook | pr | migration | update | firmware | port (p : Port)
  deriving DecidableEq, Repr

/-- What a charter store operation is for: a native descriptor with its TAG, a ROM service, a record or a repeat slot of
the logbook, a protected block's read or write for a port's command or for an engine, or a step of the update manager. -/
inductive ChFor where
  | native (tag : Nat)
  | romService
  | logRecord
  | logSlot
  | prRead (pr block copy : Nat)
  | prWrite (pr block : Nat) (data : List (Nat × Byte))
  | prErase (pr : Nat)
  | pwSet (region : Nat) (verifier : Option (BitVec 128))
  | activation
  deriving DecidableEq, Repr

/-- A descriptor of the native queue (R285, R297). `op` is coded as CHTR_DESC_0.OP; `buf` is a data-RAM address, or none for
the requester's CHTR_BUF. -/
structure ChDesc where
  op : Nat
  addr : Nat
  len : Nat
  data : Bytes
  req : ChReq
  what : ChFor
  buf : Option Nat
  deriving DecidableEq, Repr

/-- One requester's copy of the native-queue registers (R297): the descriptor words, the completions not acknowledged as
(TAG, ST_ code), and CHTR_BUF; an unlisted buffer byte is 0. -/
structure ChPort where
  d0 : Word
  d1 : Word
  d2 : Word
  cmpl : List (Nat × Nat)
  buf : List (Nat × Byte)
  deriving DecidableEq, Repr

/-- A requester's copy at reset. -/
def ChPort.reset : ChPort := { d0 := 0, d1 := 0, d2 := 0, cmpl := [], buf := [] }

/-- A sector of a protected region that holds a written block: GEN, EPOCH and its payload; an unlisted payload byte is 0
(R294). `bad` marks a sector that was cut off or damaged. -/
structure PrSec where
  gen : Nat
  epoch : Nat
  data : List (Nat × Byte)
  bad : Bool
  deriving DecidableEq, Repr

/-- The password state of PR3 or PR4 (R296). `verifier` is the verifier that PR2 holds; none is all zeros (R320). -/
structure PwSt where
  verifier : Option (BitVec 128)
  opened : Bool
  fails : Nat
  lockout : Option Nat
  deriving DecidableEq, Repr

/-- A region without a password. -/
def PwSt.reset : PwSt := { verifier := none, opened := false, fails := 0, lockout := none }

/-- CHTR: the charter store controller (chapter 12). -/
structure ChtrSt where
  /-- 0 OFF, 1 DISCOVER, 2 READY, 3 FAILED. -/
  st : Nat
  proto : Nat
  refclk : Bool
  /-- REFCLK is lost and the island returns to 25 MHz when the operation in progress ends (R278). -/
  refLost : Bool
  /-- REFCLK is stable, in whatever state the controller is (R278). -/
  refStable : Bool
  calValid : Bool
  /-- Bytes 0 to 95 of the factory-calibration row, as the charter load read them; empty where the row is bad (R293). -/
  cal : Bytes
  density : Nat
  jedec : Nat
  page512 : Bool
  charterSeq : Nat
  charterLen : Nat
  /-- The operation that runs and those that wait, in arrival order. -/
  cur : Option ChDesc
  queue : List ChDesc
  /-- The copies of firmware, HOST, CHASSIS and YARD. -/
  ports : List ChPort
  timeouts : Nat
  /-- The 10 ms wait for the part has ended (R299). -/
  partReady : Bool
  /-- Sectors of PR0 to PR4 by number from 0x2A1_0000. -/
  pr : List (Nat × PrSec)
  prBusy : Bool
  prStatus : Nat
  pw : List PwSt
  pwStatus : Nat
  /-- A0 and A1 of the last Slipway ROM service that ended (R298). -/
  romA : Option (Nat × Nat)
  /-- The migration write that runs: the slot it writes and the bytes (R21). -/
  migrating : Option (Nat × Bytes)
  deriving DecidableEq, Repr

/-- The charter store controller before READY_AON. -/
def ChtrSt.reset : ChtrSt :=
  { st := 0, proto := 0, refclk := false, refLost := false, refStable := false, romA := none, calValid := false, cal := [], density := 0, jedec := 0, page512 := false,
    charterSeq := 0, charterLen := 0, cur := none, queue := [], ports := List.replicate 4 ChPort.reset, timeouts := 0,
    partReady := false, pr := [], prBusy := false, prStatus := 0, pw := [PwSt.reset, PwSt.reset], pwStatus := 0,
    migrating := none }

/-- A rail record of the charter (Table 14-1). -/
structure RailRec where
  populated : Bool
  pm : Bool
  vtrim : Bool
  avs : Bool
  link : Bool
  /-- 0 NONE, 1 NAND, 2 DRAM, 3 PATH. -/
  role : Nat
  nandCh : Nat
  nomMv : Nat
  warn : Nat
  fault : Nat
  dischMv : Nat
  dischMs : Nat
  rampMs : Nat
  holdMs : Nat
  depends : BitVec 24
  pmAddr : Nat
  enReg : Nat
  enOn : Nat
  enOff : Nat
  statReg : Nat
  statMask : Nat
  voutReg : Nat
  voutBase : Nat
  voutStep : Nat
  marginLimit : Nat
  restartMax : Nat
  sense : Nat
  deriving DecidableEq, Repr

/-- A rail that the charter does not populate. -/
def RailRec.absent : RailRec :=
  { populated := false, pm := false, vtrim := false, avs := false, link := false, role := 0, nandCh := 0xFF, nomMv := 0,
    warn := 0, fault := 0, dischMv := 0, dischMs := 0, rampMs := 0, holdMs := 0, depends := 0, pmAddr := 0, enReg := 0,
    enOn := 0, enOff := 0, statReg := 0, statMask := 0, voutReg := 0, voutBase := 0, voutStep := 0, marginLimit := 0,
    restartMax := 0, sense := 0xFF }

/-- The rail states of Table 14-7. -/
inductive RailState where
  | off | ramp | on | disch | stuck | lockout
  deriving DecidableEq, Repr

/-- A rail channel: its state, the counts of samples in a row, its target and margin, and its restarts (R341 to R345). -/
structure Rail where
  st : RailState
  /-- Samples in a row inside the operating window, outside the warning window and outside the operating window. -/
  inWin : Nat
  outWarn : Nat
  outFault : Nat
  /-- Its STAT_REG last read good since the enable; it read not good while the rail was ON, a fault already handled (R341). -/
  pmGood : Bool
  pmBad : Bool
  /-- RAIL_CRIT has been raised in this excursion (R342). -/
  crit : Bool
  /-- An enable waits for the discharge (R340). -/
  held : Bool
  target : Nat
  /-- The margin applied, in 0.01 %, and the target it came from. -/
  margin : Option (Int × Nat)
  mv : Nat
  restarts : Nat
  deriving DecidableEq, Repr

/-- A rail without power. -/
def Rail.reset : Rail :=
  { st := .off, inWin := 0, outWarn := 0, outFault := 0, pmGood := false, pmBad := false, crit := false, held := false,
    target := 0, margin := none, mv := 0, restarts := 0 }

/-- What the step of a run waits for: its ticks, its test, the PM write of its enable, or a held enable (R336, R340). -/
inductive StepWait where
  | none | ticks | check | pm | enable
  deriving DecidableEq, Repr

/-- What a PM transfer of the sequencer is for: an enable or disable of a rail, a VOUT write for the step of a run, for the
adaptive supply or for a margin. -/
inductive PmFor where
  | enable (rail : Nat)
  | disable (rail : Nat)
  | setv (rail : Nat)
  | avs
  | margin (rail : Nat)
  | charger (on : Bool)
  deriving DecidableEq, Repr

/-- A restart after a fault: the failed rail and its dependants, in dependency order, with those still to come; the head is
ramping when `ramping` is set (R343). -/
structure Restarting where
  rails : List Nat
  ramping : Bool
  deriving DecidableEq, Repr

/-- SEQ: the power sequencer, the bell follower and the first-failure latch (chapter 14). -/
structure SeqSt where
  /-- 0 IDLE, 1 UP, 2 DOWN, 3 SIDE. -/
  run : Nat
  step : Nat
  wait : StepWait
  linkOnly : Bool
  turn : Bool
  upQueued : Bool
  queuedLinkOnly : Bool
  saveCommit : Bool
  stopped : Bool
  lastCp : Nat
  /-- Rails disabled so far in this run. -/
  disabled : List Nat
  rails : List Rail
  restarts : List Restarting
  /-- The main segment is powered: up checkpoint 3 passed and down checkpoint 3 not. -/
  mainUp : Bool
  /-- The link domain is powered: up checkpoint 2 passed and down checkpoint 2 not. -/
  linkUp : Bool
  firstHeld : Bool
  bellPhase : Nat
  bellCur : Nat
  bellLast : Option Nat
  bellClaimed : Bool
  bellFailed : Bool
  bellTimedOut : Bool
  marginApplied : Int
  marginStatus : Nat
  deriving DecidableEq, Repr

/-- The sequencer before READY_AON. -/
def SeqSt.reset : SeqSt :=
  { run := 0, step := 0, wait := .none, linkOnly := false, turn := false, upQueued := false, queuedLinkOnly := false,
    saveCommit := false, stopped := false, lastCp := 0, disabled := [], rails := List.replicate 24 Rail.reset, restarts := [],
    mainUp := false, linkUp := false, firstHeld := false, bellPhase := 0, bellCur := 0, bellLast := none,
    bellClaimed := false, bellFailed := false, bellTimedOut := false, marginApplied := 0, marginStatus := 0 }

/-- A pack record of the BATTERY section (Table 15-2). -/
structure PackRec where
  idMin : Nat
  idMax : Nat
  config : Nat
  rated : Nat
  eol : Nat
  vCutoff : Nat
  vChg : Nat
  iChg : Nat
  iTaper : Nat
  taperS : Nat
  iRest : Nat
  iX : Nat
  tChgMin : Int
  tChgMax : Int
  tGuard : Nat
  socvMargin : Nat
  ocv : List Nat
  rLo : List Nat
  rHi : List Nat
  qRes : List Nat
  vAvg : List Nat
  gainErr : Nat
  offsetErr : Nat
  selfdis : Nat
  deriving DecidableEq, Repr

/-- The BATTERY section (Table 15-1). -/
structure BattCfg where
  shunt : Nat
  chgAddr : Nat
  chgEnReg : Nat
  chgOn : Nat
  chgOff : Nat
  ilimReg : Nat
  ilimStep : Nat
  ntcBeta : Nat
  ntcR25 : Nat
  recs : List PackRec
  deriving DecidableEq, Repr

/-- The estimator states of Table 15-3. -/
inductive BattState where
  | absent | settling | active | unknown | fault
  deriving DecidableEq, Repr

/-- BATT: the battery estimator (chapter 15). Charges are in mAh and exact; current is in µA, voltage in mV, temperature in
0.01 °C. -/
structure BattSt where
  st : BattState
  /-- The pack record selected. -/
  rec_ : Option Nat
  /-- The presence conditions hold now, and have held for their time (R358). -/
  present : Bool
  held : Bool
  goneRun : Nat
  /-- Sample periods in a row in which each input's conversion has not completed: current, voltage, temperature, ID (R356). -/
  convRuns : List Nat
  cutRun : Nat
  cur : Int
  volt : Nat
  temp : Int
  idMv : Nat
  /-- Sum of current and number of samples in the present 1 ms, the average of the last, and Σ V × I of positive current. -/
  curSum : Int
  samples : Nat
  curAvg : Int
  q : Rat
  u : Rat
  qFull : Rat
  learnCount : Nat
  throughput : Rat
  learned : Bool
  worn : Bool
  empty : Bool
  /-- A state was accepted, or Q_full was learned, since the pack was recognised (R367). -/
  noPut : Bool
  /-- The last calibration point: its state of charge, the charge counted and the growth of U since (R365). -/
  ref : Option (Rat × Rat × Rat)
  calKind : Nat
  calTick : Nat
  tapers : Nat
  rests : Nat
  elb : Nat
  bind : Nat
  ocvLb : Nat
  charging : Bool
  due : Bool
  recal : Bool
  chgFailed : Bool
  deriving DecidableEq, Repr

/-- The estimator before READY_AON: no pack, the bound not valid (BATT_ELB, R372). -/
def BattSt.reset : BattSt :=
  { st := .absent, rec_ := none, present := false, held := false, goneRun := 0, convRuns := [0, 0, 0, 0], cutRun := 0, cur := 0,
    volt := 0, temp := 0, idMv := 0, curSum := 0, samples := 0, curAvg := 0, q := 0, u := 0, qFull := 0, learnCount := 0,
    throughput := 0, learned := false, worn := false, empty := false, noPut := false, ref := none, calKind := 0,
    calTick := 0, tapers := 0, rests := 0, elb := 0, bind := 0, ocvLb := 0, charging := false, due := false,
    recal := false, chgFailed := false }

/-- An entry of the two-wire device table (Table 16-2). -/
structure TwbDev where
  port : Nat
  addr : Nat
  self : Bool
  pec : Bool
  fw : Bool
  speed : Nat
  stretch : Nat
  regLo : Nat
  regHi : Nat
  deriving DecidableEq, Repr

/-- The transfer that the PM controller runs or has queued: of the sequencer or the battery estimator, with the attempts
that failed (R377), or of firmware. -/
inductive PmXfer where
  | unit (what : PmFor) (fails : Nat)
  | firmware
  deriving DecidableEq, Repr

/-- A two-wire port: its state by the code of Table 16-3, its SELF entry, the window, the last ST_ code, the command buffer
(an unlisted byte is 0) with its position, and the EXEC that runs or ran (R384 to R388). -/
structure TwbPort where
  st : Nat
  speed : Nat
  addr : Nat
  pecReq : Bool
  scl : Bool
  sda : Bool
  window : Nat
  status : Nat
  /-- Status, command or register code and peer address of the last message (TWB_x_LAST). -/
  lastStatus : Nat
  lastCode : Nat
  lastPeer : Nat
  bufPos : Nat
  buf : List (Nat × Byte)
  execOp : Nat
  /-- 0 idle, 1 running, 2 done. -/
  execSt : Nat
  execRes : Nat
  outLen : Nat
  arbLost : Nat
  deriving DecidableEq, Repr

/-- A port that is OFF. -/
def TwbPort.reset : TwbPort :=
  { st := 0, speed := 0, addr := 0, pecReq := false, scl := false, sda := false, window := 0, status := 0, lastStatus := 0, lastCode := 0, lastPeer := 0, bufPos := 0,
    buf := [], execOp := 0, execSt := 0, execRes := 0, outLen := 0, arbLost := 0 }

/-- TWB: the three two-wire ports SB, PM and SV (chapter 16). -/
structure TwbSt where
  ports : List TwbPort
  /-- YARD_EN was high at the last sample, and has not been low for 1 ms since (R376). -/
  svLive : Bool
  /-- PM transfers, the one that runs first; and those that wait for their retry (R377). -/
  pm : List PmXfer
  pmRetry : List PmXfer
  xferGo : Bool
  /-- A firmware transfer's last status. -/
  xferStatus : Nat
  notifyPend : BitVec 7
  /-- The set being sent, and whether the last notify failed and waits for RETRY_MS (R388). -/
  notifyWait : Bool
  notifySent : Nat
  deriving DecidableEq, Repr

/-- The ports before READY_AON. -/
def TwbSt.reset : TwbSt :=
  { ports := List.replicate 3 TwbPort.reset, svLive := false, pm := [], pmRetry := [], xferGo := false, xferStatus := 0,
    notifyPend := 0, notifyWait := false, notifySent := 0 }

/-- A component entry of a manifest (Table 19-2). -/
structure Component where
  kind : Nat
  full : Bool
  sver : Nat
  baseLen : Nat
  baseCrc : Nat
  deltaOff : Nat
  deltaLen : Nat
  targetLen : Nat
  targetCrc : Nat
  deriving DecidableEq, Repr

/-- UPD: the update manager (chapter 19). `st` is coded as UPD_STATUS.STATE; staging itself is NOR contents. -/
structure UpdSt where
  st : Nat
  salvage : Bool
  owner : Nat
  session : Nat
  header : Bytes
  held : List Nat
  /-- Pieces buffered and not yet written, oldest first (R431). -/
  bufs : List (Nat × Bytes)
  /-- Operating second of the latest activity (R432). -/
  lastS : Nat
  percent : Nat
  kind : Nat
  result : Nat
  /-- Store operations of the commit still to end, as (NOR address, component kind, bytes), an erase of 64 KiB with no bytes;
  the new charter's SEQ. -/
  plan : List (Nat × Nat × Bytes)
  /-- The bytes that the plans of this commit write, and those written. -/
  planTotal : Nat
  planDone : Nat
  /-- The step of R434 that the plan carries out: 5 the firmware slot, 7 the charter slot. -/
  step : Nat
  newSeq : Nat
  /-- A reload is wanted (R437), and a rollback waits for SAVE to end with its cause (R438). -/
  reload : Bool
  offAsked : Bool
  rollbackWait : Option Nat
  trialS : Nat
  /-- A one-by-one section that waits: TIMETABLES for IDLE, profile fields for a cold landing (R436). -/
  ttPending : Bool
  npPending : Bool
  /-- The image of that section. -/
  waitImage : Nat
  deriving DecidableEq, Repr

/-- The update manager before READY_CHARTER. -/
def UpdSt.reset : UpdSt :=
  { st := 0, salvage := false, owner := 0, session := 0, header := [], held := [], bufs := [], lastS := 0, percent := 0,
    kind := 0, result := 0, plan := [], planTotal := 0, planDone := 0, step := 0, newSeq := 0, reload := false,
    offAsked := false, rollbackWait := none, trialS := 0, ttPending := false,
    npPending := false, waitImage := 0 }

/-- The TIMETABLES section (Table 14-3); a step is its 64-bit word. -/
structure Timetables where
  upEntry : Nat
  downEntry : Nat
  bellRole : Nat
  barrierMs : Nat
  bellMap : List Nat
  steps : List Nat
  deriving DecidableEq, Repr

/-- The charter that the device runs from (R287 to R291): its bytes in the version 0x04 layout, and its sections. -/
structure Charter where
  raw : Bytes
  fwSlot : Nat
  seq : Nat
  image : List (Nat × Word)
  profile : Profile
  tt : Timetables
  rails : List RailRec
  batt : Option BattCfg
  twb : List TwbDev
  /-- AUTHORITY overrides: ROW × 2 + WHO, with ACTION (R396). -/
  auth : List (Nat × Nat)
  /-- Size in GiB of each LD; 0 where it is not enabled (R290). -/
  lds : List Nat
  pwPr3 : Bool
  pwPr4 : Bool
  deriving DecidableEq, Repr

/-- No command ends in a fault: the spec gives every command an effect in every state, and an access that a part does not
have is answered by the rules (R158, R167, R168). Safe: a claim that something never faults says no more than it reads. -/
inductive Fault where
  deriving DecidableEq, Repr

/-- Why a command is refused. -/
inductive Refusal where
  /-- Raised by an arm of exec whose command has no meaning yet. Safe: the machine stops where the device goes on. -/
  | notModelled (mnemonic : String)
  deriving DecidableEq, Repr

/-- The device and the parts on its module: everything but the queue of commands. -/
structure Dev where
  /-- Ticks of 40 ns of the timekeeping island (R2). -/
  ticks : Nat
  pins : PinLevels
  /-- The register file: registers that hold what was written or counted, by BAR2 offset, where not at their reset value. -/
  regs : List (Nat × Word)
  /-- Values of _HI registers latched by a read of their _LO, per reader (R5). -/
  pairLatch : List (Nat × Word)
  core : CoreSt
  /-- The charter that CORE holds (R21, R289). -/
  charter : Option Charter
  hlnk : HlnkSt
  dctl : DctlSt
  trn : TrnSt
  gmap : GmapSt
  fery : FerySt
  xing : XingSt
  land : LandSt
  flsh : FlshSt
  chtr : ChtrSt
  ciph : CiphSt
  chk : List ChkCtx
  seq : SeqSt
  batt : BattSt
  twb : TwbSt
  log : LogSt
  upd : UpdSt
  /-- DRAM by device address, and the lines that hold the poison mark (R213), by line number. -/
  dram : List Host.Cell
  poisonLines : List Nat
  /-- The serial NOR by address, except the protected regions, which `chtr.pr` holds. -/
  nor : List Host.Cell
  /-- The Ferryman data RAM, 0x2000_0000 to 0x2003_FFFF, by offset (Table 17-4). -/
  fram : List Host.Cell
  /-- The model's own: how many free values have been drawn. -/
  freeCtr : Nat
  /-- The model's own: notes still to settle in this step, and everything sent to the world, oldest first. -/
  todo : List Note
  out : List Out
  deriving DecidableEq, Repr

/-- The machine: the device, and the commands that wait, first in, first out. -/
structure State where
  dev : Dev
  pending : List Instr
  deriving DecidableEq, Repr

/-! ### Reset: the device without auxiliary power, on a module as it leaves assembly (erased NOR and NAND, no pack) -/

/-- CORE without power. CORE_MODE.CAUSE resets to 0x01 (R26). -/
def CoreSt.reset : CoreSt :=
  { mode := .unpowered, prev := 0, cause := 1, landing := 0, inputReturned := false, onPending := false,
    recovPending := false, resetPending := false, fwFaults := 0, trans := none, heldMainGood := false, inputGood := false, auxGood := false, ready := 0,
    modeResult := .ok, charterSlot := false, fwSlot := false, migrated := false, migWriteFail := false,
    otherCharterBad := false, otherFwBad := false, landAttempts := 0, charterVer := 0, locked := false, lockEarly := false,
    landRef := none, t1Wanted := false, t2Wanted := false, hostAbsentArmed := false, fwState := 0, fwCause := 0,
    fwRestarts := 0, wdogAt := 0, proxy := none }

/-- An entry with no copy: it reads as zeros (Table 3-2, R73). -/
def GEntry.blank (st : GState) : GEntry := { st := st, xr := false, poison := false, age := 0, gen := 0, loc := none }

/-- GMAP without power. -/
def GmapSt.reset : GmapSt :=
  { phase := .absent, source := 0, dflt := GEntry.blank .clean, entries := [], unrestored := 0, mapDirty := [], dir := [],
    poisonList := [], poisonOvf := false, poisonOvfTime := 0, poisonSaid := [], poisonChanged := [], ckptSeq := 0, mapCommitted := false,
    ckptWanted := false, ckptMark := 0, ckptLoc := none, normalising := false, cache := [], lookupBusy := false, lookupDone := false, lookup := 0 }

/-- FERY without power. -/
def FerySt.reset : FerySt :=
  { eng := .off, drainPending := false, cand := [], sweep := none, sweepPasses := 0, summary := [], sweepDue := false,
    drainOnce := [], copies := [], reissue := [], parked := [], failStreak := [], pinned := [], fold := .none,
    foldTableDone := false, nextCopy := 0, wseq := 0, wear := 0, wearRem := 0, wearTotal := 0, atFloor := false,
    commits := 0, rateNow := 0, foldNow := 0, b := 0, bArm := 0, limEnergy := 0, limHard := 0, limRegion := 0, limCfg := 0,
    stage := 0, bind := 3, breach := false, exceeded := false, k := 0, kUpdates := 0, kFromRecord := false, eInput := 0,
    eInvalid := true, creditMs := 0 }

/-- The crossing machine without power. -/
def XingSt.reset : XingSt :=
  { st := .disarmed, cause := 0, t0 := 0, tFirst := 0, allBattery := false, channelLost := false,
    lostChannel := 0, breach := false, modeFrom := 0, dQuiesce := 0, bGran := 0, eLbQuiesce := 0,
    toCarry := [], remain := 0, carried := 0, toMap := [], mapWritten := 0, quiesced := false, flushed := false,
    openVerified := false, recordOk := false, closeQueued := false, commitQueued := false, idxPending := [],
    idxUnits := 0, idxAll := [], walk := 0, ckptSeq := 0, wseqFirst := 0, wseqLast := 0, crossSeq := 0, dieFails := [],
    excluded := [], energyMj := 0, energyRest := 0, kLearned := false, poisonedLines := 0 }

/-- The landing without power. -/
def LandSt.reset : LandSt :=
  { st := .off, incomplete := false, blank := false, sessionOpen := false, sessionAsked := false, sessionCkpt := 0, table := [],
    demandWait := [], cursor := 0, walk := 0, bitmap := [], restored := 0, rateNow := 0, counted := false,
    lastComplete := none }

/-- The standard-mailbox state of an LD after a reset (R149): no records, interrupts off, alerts at their defaults. -/
def LdSt.reset : LdSt :=
  { logs := [[], [], [], []], overflow := [], ovfTimes := [], nextHandle := 1, intPolicy := 0, msixMask := 0xF, msixPend := 0,
    alertValid := 0, alertEnable := 0, alertLife := 0, alertTempHi := 0, alertTempLo := 0, alertCeVol := 0, alertCePers := 0,
    alertHit := 0 }

/-- The host link without power. -/
def HlnkSt.reset : HlnkSt :=
  { link := .down,
    mode := { cxl := false, mld := false, rate := 0, x16 := false, flit256 := false, lopt := false, laneRev := false },
    noCxl := false, trained := false, allocs := [], decoders := [], reqOut := 0, rwdOut := 0, reqGranted := 0, rwdGranted := 0, devload := 0, wait := [],
    held := [], seq := 0, gpf := [], memActive := false, dsc := 0, shutdown := List.replicate 16 0,
    lds := List.replicate 16 LdSt.reset, bg := none, health := 0, timestamp := none }

/-- FLSH without power, on erased NAND. -/
def FlshSt.reset : FlshSt :=
  { st := 0, prof := none, dies := [], chLost := [], units := [], rows := [], groups := [], nextGroup := 0, frontier := [],
    frontWritten := [], frontPend := [], imgAlloc := [], xpos := [], sup := [], reclaim := [], journalPages := [],
    journalNext := [], journalFly := [], journalBusy := false, journalLeft := 0, journalOk := false, journalBlock := 2, journalPage := 0,
    records := [], recordBlock := 0, recordPage := 0, blockErase := [], exposed := [], rebuilds := [], rebuilt := [], factoryDone := false, blockTable := [],
    spareUsed := [], marked := [], cut := [], commitWait := [], level := 0, ceReads := 0, progWin := 0, progUsed := [], waitQ := [] }

/-- CIPH without power. -/
def CiphSt.reset : CiphSt :=
  { st := .off, epoch := 0, limit := 0, used := 0, reserved := false, starts := 0, stallCause := 0,
    lanes := List.replicate 16 none, suspended := [], waiting := [], cache := [], reserving := none, retry := false,
    damaged := [], seals := 0, tagFailsNand := 0, tagFailsPr := 0 }

/-- A check-value context at reset: POLY as Table 13-5 fixes it for contexts 0 to 4, else 0 (R330). -/
def ChkCtx.reset (n : Nat) : ChkCtx := { poly := if n = 3 ∨ n = 4 then 3 else 0, value := 0, isMatch := false, mismatch := false, fed := 0 }

/-- LOG without power. -/
def LogSt.reset : LogSt :=
  { st := 0, queue := [], newest := none, pending := 0, pendingS := 0, lostNow := 0, lostType := 0, lostS := 0,
    nextRseq := 0, oldestRseq := 0, head := 0, ssec := 0, sseq := 0, pages := [], carry := [], toErase := none, ahead := none, base := 0, auxTick := 0,
    cycles := 0, lastRecordS := 0, skipped := 0, busy := 0 }

/-- The device before auxiliary power is first applied. Every input pin reads at the level an open or unpowered module
gives: PWR_FAIL_N low, PRSNT_N high, PERST_N low, YARD_EN low (R450). -/
def Dev.reset : Dev :=
  { ticks := 0, pins := { pwrFailN := false, prsntN := true, perstN := false, yardEn := false },
    regs := [], pairLatch := [], core := CoreSt.reset, charter := none, hlnk := HlnkSt.reset,
    dctl := DctlSt.reset, trn := TrnSt.reset, gmap := GmapSt.reset, fery := FerySt.reset, xing := XingSt.reset,
    land := LandSt.reset, flsh := FlshSt.reset, chtr := ChtrSt.reset, ciph := CiphSt.reset,
    chk := (List.range 8).map ChkCtx.reset, seq := SeqSt.reset, batt := BattSt.reset, twb := TwbSt.reset,
    log := LogSt.reset, upd := UpdSt.reset, dram := [], poisonLines := [], nor := [], fram := [], freeCtr := 0, todo := [], out := [] }

/-- The machine right after reset: no command waits. -/
def State.reset : State := { dev := Dev.reset, pending := [] }

end Sys2Proof.Machine
end

