-- ==== Sys2Proof/Machine/Ops.lean ====
section
/-!
DEFINITION. The shared operations over the state: keyed lists in canonical form, memory, bit fields and byte order, the
check values of Table 13-4, the register file, the readiness vector, interrupts, and the logbook queue.
-/
namespace Sys2Proof.Machine

/-! ### Keyed lists: keys rise strictly -/

/-- The value at a key. -/
def lookupK {α : Type} (k : Nat) : List (Nat × α) → Option α
  | [] => none
  | (k', v) :: t => if k = k' then some v else if k < k' then none else lookupK k t

/-- The list with the value at the key set. -/
def insertK {α : Type} (k : Nat) (v : α) : List (Nat × α) → List (Nat × α)
  | [] => [(k, v)]
  | (k', v') :: t =>
    if k < k' then (k, v) :: (k', v') :: t
    else if k = k' then (k, v) :: t
    else (k', v') :: insertK k v t

/-- The list with the key removed. -/
def eraseK {α : Type} (k : Nat) : List (Nat × α) → List (Nat × α)
  | [] => []
  | (k', v') :: t => if k = k' then t else if k < k' then (k', v') :: t else (k', v') :: eraseK k t

/-- Keys rise strictly. -/
def sortedK {α : Type} : List (Nat × α) → Bool
  | [] => true
  | [_] => true
  | (k, _) :: (k', v') :: t => decide (k < k') && sortedK ((k', v') :: t)

/-- The value at a key, or the value that an unlisted key stands for. -/
def getD {α : Type} (d : α) (k : Nat) (l : List (Nat × α)) : α := (lookupK k l).getD d

/-- Set the value at a key, keeping the canonical form: a value equal to what an unlisted key stands for is not listed. -/
def putD {α : Type} [DecidableEq α] (d : α) (k : Nat) (v : α) (l : List (Nat × α)) : List (Nat × α) :=
  if v = d then eraseK k l else insertK k v l

/-- The canonical form of a keyed list: keys rise strictly and no value equals the default. -/
def wfD {α : Type} [DecidableEq α] (d : α) (l : List (Nat × α)) : Bool :=
  sortedK l && l.all (fun p => decide (p.2 ≠ d))

/-- Insert a number in a strictly rising list. -/
def insertN (k : Nat) : List Nat → List Nat
  | [] => [k]
  | a :: t => if k < a then k :: a :: t else if k = a then a :: t else a :: insertN k t

/-! ### Memory: bytes at addresses, as Host.Cell pairs in canonical form -/

/-- Memory: a list of (address, byte) pairs. -/
abbrev Memory := List Host.Cell

/-- The canonical form: addresses rise strictly, no entry equals the byte that an unlisted address reads as. -/
def Memory.wf (d : Byte) (m : Memory) : Bool := wfD d m

/-- Read one byte; an unlisted address reads as `d`. -/
def Memory.read (d : Byte) (m : Memory) (a : Nat) : Byte := getD d a m

/-- Write one byte. -/
def Memory.write (d : Byte) (m : Memory) (a : Nat) (b : Byte) : Memory := putD d a b m

/-- Write a byte string from an address on. -/
def Memory.writeBytes (d : Byte) (m : Memory) (a : Nat) : List Byte → Memory
  | [] => m
  | b :: t => Memory.writeBytes d (Memory.write d m a b) (a + 1) t

/-- Read n bytes from an address on; only the entries in range are looked through. -/
def Memory.readBytes (d : Byte) (m : Memory) (a : Nat) (n : Nat) : List Byte :=
  let near := m.filter (fun c => decide (a ≤ c.1) && decide (c.1 < a + n))
  (List.range n).map (fun i => Memory.read d near (a + i))

/-- Remove every entry in [a, a + n): those bytes read as the default. -/
def Memory.clear (m : Memory) (a n : Nat) : Memory := m.filter (fun c => !(decide (a ≤ c.1) && decide (c.1 < a + n)))

/-- The entries in [a, a + n), as offsets from a. -/
def Memory.slice (m : Memory) (a n : Nat) : List (Nat × Byte) :=
  (m.filter (fun c => decide (a ≤ c.1) && decide (c.1 < a + n))).map (fun c => (c.1 - a, c.2))

/-- Replace [a, a + n) by the bytes of a slice; every other byte of the range reads as the default. -/
def Memory.putSlice (d : Byte) (m : Memory) (a n : Nat) (sl : List (Nat × Byte)) : Memory :=
  sl.foldl (fun m c => if c.1 < n then Memory.write d m (a + c.1) c.2 else m) (Memory.clear m a n)

/-! ### Bits and bytes -/

/-- Bits [lo + w − 1 : lo] of a number. -/
def bitsOf (v lo w : Nat) : Nat := v / 2 ^ lo % 2 ^ w

/-- The w-bit field v placed at bit lo. -/
def fieldAt (lo w v : Nat) : Nat := v % 2 ^ w * 2 ^ lo

/-- 1 for true. -/
def b2n (b : Bool) : Nat := if b then 1 else 0

/-- n bytes of a number, little-endian. -/
def leBytes : Nat → Nat → List Byte
  | 0, _ => []
  | n + 1, v => BitVec.ofNat 8 v :: leBytes n (v / 256)

/-- The number that bytes spell, little-endian. -/
def leVal : List Byte → Nat
  | [] => 0
  | b :: t => b.toNat + 256 * leVal t

/-- Bytes [a, a + n) of a string; what lies past its end reads 0. -/
def subBytes (bs : List Byte) (a n : Nat) : List Byte := (List.range n).map (fun i => bs.getD (a + i) 0)

/-- The little-endian number in bytes [a, a + n). -/
def leAt (bs : List Byte) (a n : Nat) : Nat := leVal (subBytes bs a n)

/-- A saturating sum. -/
def satAdd (cap a b : Nat) : Nat := min cap (a + b)

/-- A value held to a range. -/
def clampN (lo hi v : Nat) : Nat := min hi (max lo v)

/-- ⌈a / b⌉. -/
def ceilDiv (a b : Nat) : Nat := (a + b - 1) / b

/-- 64-bit two's complement of an integer, as a number. -/
def twos64 (i : Int) : Nat := (i % (2 ^ 64 : Int)).toNat

/-- A 16-bit two's-complement value. -/
def sint16 (v : Nat) : Int := if v % 65536 < 32768 then (v % 65536 : Int) else (v % 65536 : Int) - 65536

/-! ### Check values (Table 13-4) -/

/-- One byte into a reflected CRC-32 register. -/
def crc32Byte (poly : Nat) (c : Nat) (b : Byte) : Nat :=
  (List.range 8).foldl (fun c _ => if c % 2 = 1 then (c / 2) ^^^ poly else c / 2) (c ^^^ b.toNat)

/-- One byte into a non-reflected CRC register of width w (8 or 16). -/
def crcMsbByte (w poly : Nat) (c : Nat) (b : Byte) : Nat :=
  (List.range 8).foldl
    (fun c _ => if c / 2 ^ (w - 1) % 2 = 1 then (c * 2 % 2 ^ w) ^^^ poly else c * 2 % 2 ^ w)
    (c ^^^ (b.toNat * 2 ^ (w - 8)))

/-- One byte into the running state of polynomial code `p` (R321, R324). -/
def crcStep (p : Nat) (c : Nat) (b : Byte) : Nat :=
  match p with
  | 0 => crc32Byte 0x82F63B78 c b
  | 1 => crc32Byte 0xEDB88320 c b
  | 2 => crcMsbByte 16 0x1021 c b
  | _ => crcMsbByte 8 0x07 c b

/-- The initial value of each code. -/
def crcInit (p : Nat) : Nat := match p with | 0 => 0xFFFFFFFF | 1 => 0xFFFFFFFF | 2 => 0xFFFF | _ => 0

/-- The final XOR of each code. -/
def crcFinal (p : Nat) : Nat := match p with | 0 => 0xFFFFFFFF | 1 => 0xFFFFFFFF | _ => 0

/-- The check value of a byte string under code `p`. -/
def crcOf (p : Nat) (bs : List Byte) : Nat := bs.foldl (crcStep p) (crcInit p) ^^^ crcFinal p

/-- CRC-32C, the check of the device's formats. -/
def crc32c (bs : List Byte) : Nat := crcOf 0 bs

/-- CRC-8 with polynomial 0x07 (Table 3-2, R263, LCHK). -/
def crc8 (bs : List Byte) : Nat := crcOf 3 bs

/-! ### The register file -/

/-- The stored value of a register. -/
def Dev.reg (s : Dev) (off : Nat) : Word := getD (regReset off) off s.regs

/-- The stored value as a number. -/
def Dev.regN (s : Dev) (off : Nat) : Nat := (s.reg off).toNat

/-- A field of a stored register. -/
def Dev.regF (s : Dev) (off lo w : Nat) : Nat := bitsOf (s.regN off) lo w

/-- Set a stored register. -/
def Dev.setReg (s : Dev) (off : Nat) (v : Word) : Dev := { s with regs := putD (regReset off) off v s.regs }

/-- Set a stored register from a number. -/
def Dev.setRegN (s : Dev) (off v : Nat) : Dev := s.setReg off (BitVec.ofNat 32 v)

/-- Set a field of a stored register. -/
def Dev.setRegF (s : Dev) (off lo w v : Nat) : Dev :=
  s.setRegN off (s.regN off - fieldAt lo w (s.regF off lo w) + fieldAt lo w v)

/-- Add to a field of a counter register that saturates. -/
def Dev.countReg (s : Dev) (off lo w n : Nat) : Dev :=
  s.setRegF off lo w (satAdd (2 ^ w - 1) (s.regF off lo w) n)

/-- Add to a counter field that wraps. -/
def Dev.wrapReg (s : Dev) (off lo w n : Nat) : Dev := s.setRegF off lo w ((s.regF off lo w + n) % 2 ^ w)

/-! ### Outputs, interrupts and notes -/

/-- Send a message to the world. -/
def Dev.emit (s : Dev) (o : Out) : Dev := { s with out := s.out ++ [o] }

/-- Leave a note for the end of the step. -/
def Dev.note (s : Dev) (n : Note) : Dev := { s with todo := s.todo ++ [n] }

/-- What follows from the state is to be evaluated again. -/
def Dev.evalAgain (s : Dev) : Dev := if s.todo.contains .check then s else s.note .check

/-- The standard-mailbox state of an LD. -/
def Dev.ld (s : Dev) (ld : Fin 16) : LdSt := s.hlnk.lds.getD ld.val LdSt.reset

/-- Change the standard-mailbox state of an LD. -/
def Dev.modLd (s : Dev) (ld : Fin 16) (f : LdSt → LdSt) : Dev :=
  { s with hlnk := { s.hlnk with lds := s.hlnk.lds.set ld.val (f (s.ld ld)) } }

/-- Signal an MSI-X vector of an LD; a masked vector keeps the message pending (R165, R177). -/
def Dev.signal (s : Dev) (ld : Fin 16) (v : Fin 4) : Dev :=
  if (s.ld ld).msixMask.getLsbD v.val then
    s.modLd ld (fun l => { l with msixPend := l.msixPend ||| (1#4 <<< v.val) })
  else s.emit (.msix ld v.val)

/-- An event of R388 occurs: it joins the pending set of Host Notify where its EN bit is 1. -/
def Dev.notifyEv (s : Dev) (n : Nat) : Dev :=
  if (s.reg Reg.TWB_SB_NOTIFY).getLsbD n then
    { s with twb := { s.twb with notifyPend := s.twb.notifyPend ||| (1#7 <<< n) } }
  else s

/-- Set bits of a latched error or event register. Vector 3 of LD 0 signals a bit that newly sets in HLNK_ERR,
FERY_BUDGET_EVENTS or XING_LAND_ERR (Table 7-4). -/
def Dev.latch (s : Dev) (off : Nat) (bit : Nat) : Dev :=
  if (s.reg off).getLsbD bit then s
  else
    let s := s.setReg off (s.reg off ||| (1#32 <<< bit))
    let s := if off = Reg.HLNK_ERR || off = Reg.FERY_BUDGET_EVENTS || off = Reg.XING_LAND_ERR then s.signal 0 3 else s
    if off = Reg.FERY_BUDGET_EVENTS then s.notifyEv 3
    else if off = Reg.SEQ_ERR then s.notifyEv 4
    else if off = Reg.BATT_ERR then s.notifyEv 5
    else s

/-! ### Modes and readiness -/

/-- The code of a mode (Table 1-1); 0 where the device is unpowered. -/
def Mode.code : Mode → Nat
  | .unpowered => 0 | .standby => 1 | .restore => 2 | .service => 3 | .save => 4 | .maintenance => 5 | .recovery => 6

/-- The code of a mode event (Table 1-2). -/
def Ev.code : Ev → Nat
  | .auxOn => 0x01 | .mainGood => 0x02 | .inputFail => 0x03 | .removal => 0x04 | .perstOn => 0x05 | .perstOff => 0x06
  | .hostAbsent => 0x07 | .railCrit => 0x08 | .offReq => 0x09 | .onReq => 0x0A | .maintEnter => 0x0B
  | .maintExit => 0x0C | .recovReq => 0x0D | .fwFault => 0x0E | .landDone => 0x0F | .commit => 0x10
  | .resetFull => 0x11 | .auxOff => 0x12

/-- The ST_ code of Table 17-3. -/
def St.code : St → Nat
  | .ok => 0 | .badParam => 1 | .wrongMode => 2 | .busy => 3 | .notReady => 4 | .aborted => 5 | .noInput => 6
  | .noAuthority => 0x10 | .bulkhead => 0x11 | .notAdminLd => 0x12 | .locked => 0x13 | .region => 0x20
  | .riseRefused => 0x21 | .verifyFail => 0x22 | .storeTimeout => 0x23 | .storeFailed => 0x24 | .prDamaged => 0x25
  | .pwRequired => 0x30 | .pwBad => 0x31 | .pwLockout => 0x32 | .mismatch => 0x40 | .stale => 0x41
  | .twbTimeout => 0x50 | .twbNack => 0x51 | .twbPec => 0x52 | .twbBusFailed => 0x53 | .twbArbLost => 0x54
  | .slotBusy => 0x60 | .noSession => 0x61 | .imageBad => 0x62 | .incompatible => 0x63

/-- The CXL mailbox return code that an ST_ code maps to (Table 17-3), numbered as CXL 3.1 numbers them: Success 0,
Invalid Input 2, Unsupported 3, Internal Error 4, Retry Required 5, Busy 6, Aborted 0x12 (PRESUMED: assumption 16). -/
def St.ret : St → Nat
  | .ok => 0 | .badParam => 2 | .wrongMode => 5 | .busy => 6 | .notReady => 5 | .aborted => 0x12 | .noInput => 5
  | .noAuthority => 3 | .bulkhead => 4 | .notAdminLd => 3 | .locked => 2 | .region => 4 | .riseRefused => 4
  | .verifyFail => 4 | .storeTimeout => 4 | .storeFailed => 4 | .prDamaged => 4 | .pwRequired => 2 | .pwBad => 2
  | .pwLockout => 5 | .mismatch => 2 | .stale => 2 | .twbTimeout => 4 | .twbNack => 4 | .twbPec => 2
  | .twbBusFailed => 4 | .twbArbLost => 6 | .slotBusy => 6 | .noSession => 2 | .imageBad => 2 | .incompatible => 2

/-- The bits of CORE_READY (Table 1-6). -/
abbrev Rdy.AON : Nat := 0
abbrev Rdy.CHARTER : Nat := 1
abbrev Rdy.FW : Nat := 2
abbrev Rdy.RAILS : Nat := 3
abbrev Rdy.NAND : Nat := 4
abbrev Rdy.CIPHER : Nat := 5
abbrev Rdy.DRAM : Nat := 6
abbrev Rdy.MAP : Nat := 7
abbrev Rdy.LINK : Nat := 8
abbrev Rdy.MAILBOX : Nat := 9
abbrev Rdy.HOSTMEM : Nat := 10
abbrev Rdy.PERSIST : Nat := 11
abbrev Rdy.FERRY : Nat := 12
abbrev Rdy.RESTORED : Nat := 13
abbrev Rdy.BELL : Nat := 14
abbrev Rdy.SALVAGE : Nat := 15

/-- A readiness bit is set. -/
def Dev.rdy (s : Dev) (n : Nat) : Bool := s.core.ready.getLsbD n

/-- Set or clear a readiness bit: a change sets the bit of CORE_READY_LATCH (R25), and signals vector 2 of LD 0 where
CORE_READY_IEN has the bit (Table 7-4). -/
def Dev.putReady (s : Dev) (n : Nat) (v : Bool) : Dev :=
  if s.rdy n = v then s
  else
    let r := if v then s.core.ready ||| (1#16 <<< n) else s.core.ready &&& ~~~ (1#16 <<< n)
    let s := { s with core := { s.core with ready := r } }
    let was := (s.reg Reg.CORE_READY_LATCH).getLsbD n
    let s := s.setReg Reg.CORE_READY_LATCH (s.reg Reg.CORE_READY_LATCH ||| (1#32 <<< n))
    (if !was && (s.reg Reg.CORE_READY_IEN).getLsbD n then (s.signal 0 2).notifyEv 0 else s).evalAgain

/-- Set a readiness bit. -/
def Dev.setReady (s : Dev) (n : Nat) : Dev := s.putReady n true

/-- Clear a readiness bit. -/
def Dev.clrReady (s : Dev) (n : Nat) : Dev := s.putReady n false

/-! ### Time and the logbook queue -/

/-- Operating seconds now (R413). -/
def Dev.opSeconds (s : Dev) : Nat := s.log.base + (s.ticks - s.log.auxTick) / 25000000

/-- The CXL timestamp now, in ns: the last value set plus the elapsed ticks × 40 ns; 0 when none was set (R413). -/
def Dev.timestampNow (s : Dev) : Nat :=
  match s.hlnk.timestamp with
  | some (v, t) => (v + 40 * (s.ticks - t)) % 2 ^ 64
  | none => 0

/-- The LT_ codes of Table 18-4. -/
abbrev LT.POWER_ON : Nat := 0x01
abbrev LT.TIME_MARK : Nat := 0x02
abbrev LT.LOST_EVENTS : Nat := 0x03
abbrev LT.WALL_CLOCK : Nat := 0x04
abbrev LT.CARRIED : Nat := 0x05
abbrev LT.MODE_CHANGE : Nat := 0x10
abbrev LT.MODE_REFUSED : Nat := 0x11
abbrev LT.BOOT_FAIL : Nat := 0x12
abbrev LT.LAND_ABORT : Nat := 0x13
abbrev LT.CHARTER_SLOT_BAD : Nat := 0x14
abbrev LT.FW_SLOT_BAD : Nat := 0x15
abbrev LT.CHARTER_MIGRATED : Nat := 0x16
abbrev LT.CHARTER_MIGRATE_FAIL : Nat := 0x17
abbrev LT.AUTH_REJECT : Nat := 0x18
abbrev LT.BULKHEAD : Nat := 0x19
abbrev LT.FW_FAULT : Nat := 0x1A
abbrev LT.BUDGET_ZERO : Nat := 0x20
abbrev LT.BUDGET_BREACH : Nat := 0x21
abbrev LT.ENERGY_K_UPDATE : Nat := 0x22
abbrev LT.WEAR_FLOOR : Nat := 0x23
abbrev LT.FERRY_COPY_FAIL : Nat := 0x24
abbrev LT.FERRY_POISON_READ : Nat := 0x25
abbrev LT.FERRY_HALT : Nat := 0x26
abbrev LT.MAP_ENTRY_REPAIR : Nat := 0x28
abbrev LT.POISON_LIST_FULL : Nat := 0x29
abbrev LT.MAP_REBUILD : Nat := 0x2A
abbrev LT.SESSION_OPEN : Nat := 0x30
abbrev LT.LAND_INCOMPLETE : Nat := 0x31
abbrev LT.RESTORE_TAG_FAIL : Nat := 0x32
abbrev LT.RESTORE_META_FAIL : Nat := 0x33
abbrev LT.RESTORE_RECONSTRUCTED : Nat := 0x34
abbrev LT.RESTORE_POISON : Nat := 0x35
abbrev LT.LINK_DOWN : Nat := 0x38
abbrev LT.LINK_NO_CXL : Nat := 0x39
abbrev LT.MMIO_BAD_ACCESS : Nat := 0x3A
abbrev LT.GPF_PARTIAL : Nat := 0x3B
abbrev LT.FAB_STALL : Nat := 0x3C
abbrev LT.FAB_SLOW : Nat := 0x3D
abbrev LT.FAB_AVS_LIMIT : Nat := 0x3E
abbrev LT.DRAM_CE_THRESH : Nat := 0x40
abbrev LT.DRAM_UE_POISON : Nat := 0x41
abbrev LT.DRAM_REFETCH : Nat := 0x42
abbrev LT.DRAM_REFETCH_FAIL : Nat := 0x43
abbrev LT.DRAM_UE_RESERVED : Nat := 0x44
abbrev LT.DRAM_CA_FAIL : Nat := 0x45
abbrev LT.DRAM_SUBCH_FAIL : Nat := 0x46
abbrev LT.DRAM_RH_FLAG : Nat := 0x47
abbrev LT.DRAM_HOT : Nat := 0x48
abbrev LT.DRAM_TRAIN_COMP : Nat := 0x49
abbrev LT.DRAM_TRAIN_FAIL : Nat := 0x4A
abbrev LT.DRAM_DRIFT : Nat := 0x4B
abbrev LT.DRAM_TRN_DISCARD : Nat := 0x4C
abbrev LT.DRAM_FREQ_CHANGE : Nat := 0x4D
abbrev LT.DRAM_FREQ_FAIL : Nat := 0x4E
abbrev LT.NAND_PROG_FAIL : Nat := 0x50
abbrev LT.NAND_ERASE_FAIL : Nat := 0x51
abbrev LT.NAND_REBUILD : Nat := 0x52
abbrev LT.NAND_RETIRE : Nat := 0x53
abbrev LT.NAND_DIE_LOST : Nat := 0x54
abbrev LT.NAND_CH_LOST : Nat := 0x55
abbrev LT.NAND_PROFILE_MISMATCH : Nat := 0x56
abbrev LT.NAND_UNDEFINED : Nat := 0x57
abbrev LT.NAND_ENDURANCE : Nat := 0x58
abbrev LT.CS_OP_FAIL : Nat := 0x60
abbrev LT.CAL_BAD : Nat := 0x61
abbrev LT.PR_DAMAGED : Nat := 0x62
abbrev LT.PW_FAIL : Nat := 0x63
abbrev LT.CIPH_SELFTEST_FAIL : Nat := 0x68
abbrev LT.EPOCH_ADVANCE : Nat := 0x69
abbrev LT.EPOCH_RESERVE_FAIL : Nat := 0x6A
abbrev LT.EPOCH_SKIP : Nat := 0x6B
abbrev LT.EPOCH_STALL : Nat := 0x6C
abbrev LT.RAIL_FAIL : Nat := 0x70
abbrev LT.BELL_PARITY : Nat := 0x71
abbrev LT.BELL_TIMEOUT : Nat := 0x72
abbrev LT.BELL_FAIL : Nat := 0x73
abbrev LT.BATT_REMOVED : Nat := 0x78
abbrev LT.BATT_UNKNOWN : Nat := 0x79
abbrev LT.BATT_SENSE_FAIL : Nat := 0x7A
abbrev LT.BATT_CAL : Nat := 0x7B
abbrev LT.BATT_EMPTY : Nat := 0x7C
abbrev LT.BATT_QFULL : Nat := 0x7D
abbrev LT.BATT_WORN : Nat := 0x7E
abbrev LT.BATT_STATE_REJECTED : Nat := 0x7F
abbrev LT.BATT_STATE_RESTORED : Nat := 0x80
abbrev LT.BATT_CHG_FAULT : Nat := 0x81
abbrev LT.TWB_TIMEOUT : Nat := 0x88
abbrev LT.TWB_BUS_STUCK : Nat := 0x89
abbrev LT.TWB_BUS_RECOVERED : Nat := 0x8A
abbrev LT.UPD_OPEN : Nat := 0xE0
abbrev LT.UPD_RESUME : Nat := 0xE1
abbrev LT.UPD_SLOT_BUSY : Nat := 0xE2
abbrev LT.UPD_PIECE_BAD : Nat := 0xE3
abbrev LT.UPD_ABANDON : Nat := 0xE4
abbrev LT.UPD_COMMIT_FAIL : Nat := 0xE5
abbrev LT.UPD_SWITCH : Nat := 0xE6
abbrev LT.UPD_APPLIED : Nat := 0xE7
abbrev LT.UPD_CONFIRMED : Nat := 0xE8
abbrev LT.UPD_ROLLBACK : Nat := 0xE9

/-- The types marked C in Tables 18-4 and 19-11, which coalesce on payload bytes 0 to 3. -/
def ltCoalesced : List Nat := [0x18, 0x19, 0x3A, 0x3D, 0x47, 0x48, 0x4B, 0x57, 0x88, 0xE2]

/-- Two events match (R415). -/
def ltMatch (ty : Nat) (p : Bytes) (ty' : Nat) (p' : Bytes) : Bool :=
  ty = ty' && ty ≠ LT.TIME_MARK && ty ≠ LT.CARRIED &&
    (if ltCoalesced.contains ty then p.take 4 = p'.take 4 else p = p')

/-- Count a lost event (R415 case 4). -/
def Dev.logLost (s : Dev) (ty : Nat) : Dev :=
  let s := { s with log := { s.log with
    lostNow := s.log.lostNow + 1
    lostType := if s.log.lostNow = 0 then ty else s.log.lostType
    lostS := if s.log.lostNow = 0 then s.opSeconds else s.log.lostS } }
  (s.countReg Reg.LOG_COUNT 0 16 1).latch Reg.LOG_ERR 0

/-- Add 1 to the count of the first waiting entry that matches. -/
def bumpMatch (ty : Nat) (p : Bytes) : List LogEv → List LogEv
  | [] => []
  | e :: t => if !e.issued && ltMatch ty p e.ty e.payload then { e with count := e.count + 1 } :: t else e :: bumpMatch ty p t

/-- An event enters the logbook queue (R415). Before the head is found, entries are early; in FAILED every event is lost
(Table 18-3); with no always-on power nothing is recorded. -/
def Dev.logEvent (s : Dev) (ty : Nat) (payload : Bytes) : Dev :=
  if s.core.mode = .unpowered && s.core.trans = none then s
  else if s.log.st = 3 then (s.logLost ty).latch Reg.LOG_ERR 3
  else
    let waiting := s.log.queue.any (fun e => !e.issued)
    let newestMatch := match s.log.newest with
      | some r => ltMatch ty payload r.ty r.payload
      | none => false
    if !waiting && newestMatch then
      { s with log := { s.log with
        pending := s.log.pending + 1
        pendingS := if s.log.pending = 0 then s.opSeconds else s.log.pendingS } }
    else if s.log.queue.any (fun e => !e.issued && ltMatch ty payload e.ty e.payload) then
      { s with log := { s.log with queue := bumpMatch ty payload s.log.queue } }
    else if s.log.queue.length < 32 then
      { s with log := { s.log with queue := s.log.queue ++
        [{ ty := ty, payload := payload, count := 1, opS := s.opSeconds, early := decide (s.log.st < 2), issued := false }] } }
    else s.logLost ty

/-- An event with the standard payload of R412: SUBJECT (8 bytes) and DETAIL (4 bytes). -/
def Dev.logStd (s : Dev) (ty subject detail : Nat) : Dev := s.logEvent ty (leBytes 8 subject ++ leBytes 4 detail)

/-- LT_MODE_REFUSED: the mode, the mode that is not entered, the event and the ST_ code (Table 18-4). -/
def Dev.logRefused (s : Dev) (dest : Mode) (e : Ev) (st : St) : Dev :=
  s.logStd LT.MODE_REFUSED (s.core.mode.code + 256 * dest.code + 65536 * e.code) st.code

/-! ### Installed memory and geometry -/

/-- Installed GiB of a DCTL_CONFIG value (Table 9-1): 256 for one rank of 32 Gb components, doubled by DENSITY and by RANKS. -/
def installedOf (config : Nat) : Nat := 256 * 2 ^ (bitsOf config 8 1 + bitsOf config 9 1)

/-- Installed DRAM in GiB, from DCTL_CONFIG (R196). -/
def Dev.installedGiB (s : Dev) : Nat := installedOf (s.regN Reg.DCTL_CONFIG)

/-- Installed DRAM in bytes. -/
def Dev.installed (s : Dev) : Nat := s.installedGiB * 2 ^ 30

/-- The host granule count (R55). -/
def Dev.hostGranules (s : Dev) : Nat := (s.installed - 2 ^ 30) / 16384

/-- A granule's size in bytes. -/
abbrev G : Nat := 16384

/-- The main segment is powered: its registers read and write (R167, R468). -/
def Dev.mainUp (s : Dev) : Bool := s.seq.mainUp

/-- The step answers this next state. -/
abbrev Res := Host.Outcome State Fault Refusal

/-- The command changes the device; the queue stays as it is. -/
def State.onDev (m : State) (f : Dev → Dev) : Res := .next { m with dev := f m.dev }

end Sys2Proof.Machine
end

