-- ==== Sys2Proof/Machine/Auth.lean ====
section
/-!
DEFINITION. Authority (chapter 17): Table 17-1 with its overrides, refusals at check 1, proxies and bulkheads; and which
blocks of the register window are powered.
-/
namespace Sys2Proof.Machine

/-- A cell of Table 17-1 (R394). -/
inductive Cell where
  | w | wr | g | i | p | no
  deriving DecidableEq, Repr

/-- Table 17-1: the cells of a row for HOST, CHASSIS, YARD, CHARTER and firmware. -/
def authRow (row : Nat) : Cell × Cell × Cell × Cell × Cell :=
  match row with
  | 0x01 => (.no, .no, .no, .no, .no)
  | 0x02 => (.wr, .wr, .w, .i, .w)
  | 0x03 => (.no, .no, .w, .i, .no)
  | 0x04 => (.wr, .w, .w, .i, .p)
  | 0x05 => (.w, .w, .w, .no, .w)
  | 0x06 => (.no, .no, .no, .no, .w)
  | 0x07 => (.w, .w, .w, .no, .no)
  | 0x08 => (.w, .w, .w, .no, .w)
  | 0x09 => (.no, .no, .w, .no, .w)
  | 0x0A => (.w, .w, .w, .no, .w)
  | 0x0B => (.w, .w, .w, .no, .p)
  | 0x0C => (.w, .w, .w, .no, .no)
  | 0x0D => (.no, .no, .no, .no, .no)
  | 0x0E => (.no, .no, .w, .no, .w)
  | 0x0F => (.w, .w, .w, .no, .no)
  | 0x10 => (.g, .wr, .w, .no, .no)
  | 0x11 => (.g, .wr, .w, .i, .no)
  | 0x12 => (.no, .no, .w, .no, .w)
  | 0x13 => (.wr, .wr, .w, .i, .no)
  | 0x14 => (.wr, .wr, .w, .no, .no)
  | 0x20 => (.w, .no, .no, .no, .no)
  | 0x21 => (.w, .w, .w, .no, .no)
  | 0x22 => (.wr, .w, .w, .no, .no)
  | 0x23 => (.wr, .w, .w, .no, .no)
  | 0x24 => (.no, .no, .w, .no, .no)
  | 0x25 => (.wr, .w, .w, .no, .no)
  | 0x26 => (.g, .w, .w, .no, .no)
  | 0x27 => (.w, .wr, .w, .no, .no)
  | 0x28 => (.wr, .wr, .w, .no, .no)
  | 0x29 => (.w, .w, .w, .no, .no)
  | 0x2A => (.g, .wr, .w, .no, .no)
  | _ => (.no, .no, .no, .no, .no)

/-- A charter override of a row (R396): `who` is 0 HOST or 1 CHASSIS, `action` 1 grant or 2 revoke. -/
def Dev.overridden (s : Dev) (row who action : Nat) : Bool :=
  match s.charter with
  | some c => c.auth.contains (row * 2 + who, action)
  | none => false

/-- The row allows a port (R394, R396). YARD is never refused by an override (R395). -/
def Dev.portMay (s : Dev) (row : Nat) (p : Port) : Bool :=
  let (h, c, y, _, _) := authRow row
  let cell (x : Cell) (who : Nat) : Bool :=
    match x with
    | .w => true
    | .wr => !s.overridden row who 2
    | .g => s.overridden row who 1
    | _ => false
  match p with
  | .host _ => cell h 0
  | .chassis => cell c 1
  | .yard => decide (y = .w)

/-- The row allows the Ferryman cores: W, or P with a proxy for a port that the row allows (R404). -/
def Dev.fwMay (s : Dev) (row : Nat) : Bool :=
  match (authRow row).2.2.2.2 with
  | .w => true
  | .p => match s.core.proxy with
    | some p => s.portMay row p
    | none => false
  | _ => false

/-- The PORT byte of Table 17-2. -/
def portByte : Port → Nat
  | .host _ => 0 | .chassis => 1 | .yard => 2

/-- The LD byte of Table 17-2. -/
def portLd : Port → Nat
  | .host ld => ld.val | _ => 0xFF

/-- The port index of chapter 16 that a sideband port has. -/
def portTwb : Port → Nat
  | .yard => 2 | _ => 0

/-- Change a two-wire port's state. -/
def Dev.modTwb (s : Dev) (n : Nat) (f : TwbPort → TwbPort) : Dev :=
  { s with twb := { s.twb with ports := s.twb.ports.set n (f (s.twb.ports.getD n TwbPort.reset)) } }

/-- A refusal at check 1 of R397: its count and LT_AUTH_REJECT (R398, Table 17-2). -/
def Dev.authReject (s : Dev) (p : Port) (row : Nat) (st : St) (target : Nat) : Dev :=
  (s.countReg Reg.CORE_BULK_COUNT 16 16 1).logEvent LT.AUTH_REJECT
    (leBytes 1 (portByte p) ++ leBytes 1 row ++ leBytes 1 (portLd p) ++ [0] ++ leBytes 2 st.code ++ [0, 0] ++ leBytes 4 target)

/-- The ST_ code of a register write as its port sees it: HLNK_MMIO_STATUS for BAR2, STATUS and TWB_x_LAST for a window
(R167, R386). -/
def Dev.writeStatus (s : Dev) (src : Src) (st : St) : Dev :=
  match src with
  | .port (.host _) => if st = .ok then s else s.setRegN Reg.HLNK_MMIO_STATUS st.code
  | .port p => s.modTwb (portTwb p) (fun t => { t with status := st.code })
  | .firmware _ => s

/-- A write that the authority table refuses to a port (R167, R386, R398). -/
def Dev.refuseWrite (s : Dev) (p : Port) (row off : Nat) : Dev :=
  let s := match p with
    | .host ld =>
      ((s.latch Reg.HLNK_ERR 1).setRegN Reg.HLNK_ERR_ADDR_LO off).setRegN Reg.HLNK_ERR_ADDR_HI
        (fieldAt 8 4 ld.val + fieldAt 12 2 1)
    | _ => s
  (s.authReject p row .noAuthority off).writeStatus (.port p) .noAuthority

/-- A bulkhead refuses a firmware access (R405, Table 17-6). -/
def Dev.bulkhead (s : Dev) (bh kind : Nat) (st : St) (addr : Nat) (pc : Word) : Dev :=
  let s := s.setReg Reg.CORE_BULK (s.reg Reg.CORE_BULK ||| (1#32 <<< (bh - 1)))
  let s := s.setRegN Reg.CORE_BULK_LAST (bh + fieldAt 4 4 kind + fieldAt 16 16 st.code)
  let s := (s.setRegN Reg.CORE_BULK_ADDR addr).setReg Reg.CORE_BULK_PC pc
  (s.countReg Reg.CORE_BULK_COUNT 0 16 1).logEvent LT.BULKHEAD
    (leBytes 1 bh ++ leBytes 1 kind ++ leBytes 2 st.code ++ leBytes 4 addr ++ leBytes 4 pc.toNat)

/-- The bulkhead that a refused register store is recorded under (R467). -/
def storeBulkhead (row off : Nat) : Nat :=
  if off / 0x10000 = 6 then 1
  else if off = Reg.CORE_WDOG_CFG then 9
  else if row = 3 then 4
  else 8

/-- A refused firmware store to a register (R405, R406, R467): BH01 also sets XING_ERR.FW_BLOCKED. -/
def Dev.refuseStore (s : Dev) (row off : Nat) (pc : Word) : Dev :=
  let bh := storeBulkhead row off
  let s := if bh = 1 then s.latch Reg.XING_ERR 7 else s
  s.bulkhead bh 1 .bulkhead (0x40000000 + off) pc

/-- The always-on domain runs: auxiliary power has been applied and not lost (R8, R10). -/
def Dev.aonUp (s : Dev) : Bool := decide (s.core.mode ≠ .unpowered) || s.core.trans.isSome

/-- The blocks of the always-on domain (Table 1-1, R182). -/
def blockAon (b : Nat) : Bool := b = 0 || b = 8 || 10 ≤ b

/-- A block held in reset in RECOVERY (R468). -/
def heldInRecovery (off : Nat) : Bool :=
  let b := off / 0x10000
  b = 4 || b = 5 || b = 7 || b = 9 || (b = 3 && off < 0x38000) ||
    (b = 6 && !(decide (0x60014 ≤ off) && decide (off ≤ 0x60033)))

/-- The register at an offset is powered and not held in reset: otherwise it reads 0 and ignores writes (R167, R468). -/
def Dev.regLive (s : Dev) (off : Nat) : Bool :=
  s.aonUp && (blockAon (off / 0x10000) || (s.mainUp && !(s.core.mode = .recovery && heldInRecovery off)))

/-- The row of Table 17-1 of a register at an offset. -/
def rowOf (off : Nat) : Nat := match regRow off with | some r => r.row | none => 0

/-- The Ferryman cores run: they are neither in reset nor held (R408). -/
def Dev.coresRun (s : Dev) : Bool := decide (s.core.fwState = 1) || decide (s.core.fwState = 2)

/-- Do what an allowed write does; a refused one is recorded, and one to a block without power has no effect (R167, R394,
R405). No store comes from cores that do not run (R408). -/
def Dev.guarded (s : Dev) (src : Src) (off : Nat) (act : Dev → Dev) : Dev :=
  if !s.aonUp then s
  else
    let row := rowOf off
    match src with
    | .port p => if s.portMay row p then (if s.regLive off then act s else s) else s.refuseWrite p row off
    | .firmware pc =>
      if !s.coresRun then s else
      if off / 0x10000 = 6 || !s.fwMay row then s.refuseStore row off pc else if s.regLive off then act s else s

end Sys2Proof.Machine
end

