-- ==== Sys2Proof/Machine/Crypto.lean ====
section
/-!
DEFINITION. The modes of operation over the AES-256 block function: CMAC, the key derivation of R312, GCM (R304), and the
protected sector as the NOR holds it (Table 12-9). The block function itself is Config.aes256.
-/
namespace Sys2Proof.Machine

/-- The number that bytes spell, big-endian. -/
def beVal (bs : List Byte) : Nat := bs.foldl (fun acc b => acc * 256 + b.toNat) 0

/-- n bytes of a number, big-endian. -/
def beBytes (n v : Nat) : List Byte := (leBytes n v).reverse

/-- Doubling in the field of CMAC. -/
def cmacDouble (x : BitVec 128) : BitVec 128 := (x <<< 1) ^^^ (if x.getLsbD 127 then 0x87 else 0)

/-- The CBC-MAC chain over whole blocks. -/
def cmacChain (k : BitVec 256) : Nat → List Byte → BitVec 128 → BitVec 128
  | 0, _, c => c
  | n + 1, b, c => cmacChain k n (b.drop 16) (Config.aes256 k (c ^^^ BitVec.ofNat 128 (beVal (b.take 16))))

/-- AES-256-CMAC of a message. -/
def cmac (k : BitVec 256) (msg : List Byte) : BitVec 128 :=
  let l := Config.aes256 k 0
  let n := (msg.length + 15) / 16
  let whole := 0 < msg.length && msg.length % 16 = 0
  let head := (max n 1) - 1
  let last := msg.drop (16 * head)
  let padded := if whole then last else last ++ [0x80] ++ List.replicate (15 - last.length) 0
  let sub := if whole then cmacDouble l else cmacDouble (cmacDouble l)
  Config.aes256 k (cmacChain k head msg 0 ^^^ BitVec.ofNat 128 (beVal padded) ^^^ sub)

/-- A derived key (R312): the label, and the 4-byte context. -/
def deriveKey (label : List Byte) (context : Nat) : BitVec 256 :=
  let f := label ++ [0] ++ leBytes 4 context ++ [0x01, 0x00]
  (cmac Config.moduleRoot (0x01 :: f)) ++ (cmac Config.moduleRoot (0x02 :: f))

/-- The epoch key K_e (R312). -/
def epochKey (e : Nat) : BitVec 256 := deriveKey [0x4B, 0x58, 0x45, 0x50] (e % 2 ^ 24)

/-- The password verifier of protected region r (R320). -/
def pwVerifier (r : Nat) (password : List Byte) : BitVec 128 :=
  cmac (deriveKey [0x4B, 0x58, 0x50, 0x57] 0) (BitVec.ofNat 8 r :: password)

/-- One step of the GHASH product: bit i of x, most significant first. -/
def gfStep (x : BitVec 128) (zv : BitVec 128 × BitVec 128) (i : Nat) : BitVec 128 × BitVec 128 :=
  (if x.getLsbD (127 - i) then zv.1 ^^^ zv.2 else zv.1,
   (zv.2 >>> 1) ^^^ (if zv.2.getLsbD 0 then 0xE1000000000000000000000000000000 else 0))

/-- The GHASH product. -/
def ghashMul (x h : BitVec 128) : BitVec 128 := ((List.range 128).foldl (gfStep x) (0, h)).1

/-- GHASH over n blocks. -/
def ghash (h : BitVec 128) : Nat → List Byte → BitVec 128 → BitVec 128
  | 0, _, y => y
  | n + 1, b, y => ghash h n (b.drop 16) (ghashMul (y ^^^ BitVec.ofNat 128 (beVal (b.take 16))) h)

/-- A string padded with zeros to whole blocks. -/
def padBlocks (b : List Byte) : List Byte := b ++ List.replicate ((16 - b.length % 16) % 16) 0

/-- GCM encryption with a 96-bit IV: the ciphertext and the tag (R304, R305). -/
def gcmSeal (k : BitVec 256) (iv aad plain : List Byte) : List Byte × List Byte :=
  let ctr (i : Nat) : BitVec 128 := Config.aes256 k (BitVec.ofNat 128 (beVal iv * 2 ^ 32 + i))
  let stream := (List.range ((plain.length + 15) / 16)).flatMap (fun i => beBytes 16 (ctr (i + 2)).toNat)
  let cipher := (plain.zip stream).map (fun p => p.1 ^^^ p.2)
  let text := padBlocks aad ++ padBlocks cipher ++ beBytes 8 (8 * aad.length) ++ beBytes 8 (8 * cipher.length)
  let s := ghash (Config.aes256 k 0) (text.length / 16) text 0
  (cipher, beBytes 16 (s ^^^ ctr 1).toNat)

/-- The 4,032 payload bytes of a protected sector. -/
def prPayload (data : List (Nat × Byte)) : List Byte := (List.range 4032).map (fun i => getD 0 i data)

/-- A protected sector as the NOR holds it (Table 12-9), sealed in the PR form of Table 13-2. -/
def prSectorBytes (pr block : Nat) (x : PrSec) : List Byte :=
  let head := leBytes 4 0x4B425250 ++ leBytes 1 pr ++ [0x01, 0, 0] ++ leBytes 4 block ++ leBytes 4 x.gen ++
    leBytes 4 x.epoch ++ List.replicate 12 0
  let iv := [0x50] ++ leBytes 1 pr ++ [0, 0] ++ leBytes 4 block ++ leBytes 4 x.gen
  let (c, tag) := gcmSeal (epochKey x.epoch) iv head (prPayload x.data)
  let body := head ++ c ++ tag ++ List.replicate 12 0
  body ++ leBytes 4 (crc32c body)

end Sys2Proof.Machine
end

