-- ==== Sys2Proof/Machine/DramQueue.lean ====
section
/-!
DEFINITION. DRAM below its requesters (chapter 9): the address map (R198 to R200), the lines that DRAM holds, the bank queues
and the admission to them (R88, R201, R202, R211), and the page predictor (R203).
-/
namespace Sys2Proof.Machine

/-! ### The address map (R198 to R200) -/

/-- A device address split into its fields (Table 9-2). -/
structure DramAddr where
  sc : Nat
  rk : Nat
  bg : Nat
  ba : Nat
  col : Nat
  row : Nat
  deriving DecidableEq, Repr

/-- Table 9-2 for an ORDER and `rb` rank bits (0 with one rank: the RK field is removed and those above move down). -/
def dramSplit (order rb a : Nat) : DramAddr :=
  match order with
  | 0 => { sc := bitsOf a 6 3, bg := bitsOf a 9 3, ba := bitsOf a 12 2, rk := bitsOf a 14 rb,
           col := bitsOf a (14 + rb) 7, row := a / 2 ^ (21 + rb) }
  | 1 => { col := bitsOf a 6 7, sc := bitsOf a 13 3, bg := bitsOf a 16 3, ba := bitsOf a 19 2, rk := bitsOf a 21 rb,
           row := a / 2 ^ (21 + rb) }
  | 2 => { sc := bitsOf a 8 3, bg := bitsOf a 11 3, col := 4 * bitsOf a 14 5 + bitsOf a 6 2, ba := bitsOf a 19 2,
           rk := bitsOf a 21 rb, row := a / 2 ^ (21 + rb) }
  | _ => { rk := bitsOf a 6 rb, sc := bitsOf a (6 + rb) 3, bg := bitsOf a (9 + rb) 3, col := bitsOf a (12 + rb) 7,
           ba := bitsOf a (19 + rb) 2, row := a / 2 ^ (21 + rb) }

/-- The hash of R199. -/
def dramHash (d : DramAddr) : DramAddr :=
  { d with sc := d.sc ^^^ bitsOf d.row 0 3, bg := d.bg ^^^ bitsOf d.row 3 3, ba := d.ba ^^^ bitsOf d.row 6 2 }

/-- The DRAM address of a DPA under a DCTL_CONFIG value. -/
def dramAddr (config a : Nat) : DramAddr :=
  let d := dramSplit (bitsOf config 10 2) (bitsOf config 9 1) a
  if bitsOf config 12 1 = 1 then dramHash d else d

/-- The queue index of R200. -/
def DramAddr.queue (d : DramAddr) : Nat := 64 * d.sc + 32 * d.rk + 4 * d.bg + d.ba

/-- The DRAM address of a DPA. -/
def Dev.dramOf (s : Dev) (a : Nat) : DramAddr := dramAddr (s.regN Reg.DCTL_CONFIG) a

/-! ### State access -/

/-- The bank with a queue index. -/
def Dev.bank (s : Dev) (q : Nat) : Bank := getD Bank.reset q s.dctl.banks

/-- Change a bank. -/
def Dev.setBank (s : Dev) (q : Nat) (b : Bank) : Dev :=
  { s with dctl := { s.dctl with banks := putD Bank.reset q b s.dctl.banks } }

/-- A subchannel. -/
def Dev.sub (s : Dev) (n : Nat) : SubCh := s.dctl.subs.getD n SubCh.reset

/-- Change a subchannel. -/
def Dev.setSub (s : Dev) (n : Nat) (c : SubCh) : Dev :=
  { s with dctl := { s.dctl with subs := s.dctl.subs.set n c } }

/-- Change every subchannel. -/
def Dev.mapSubs (s : Dev) (f : SubCh → SubCh) : Dev := { s with dctl := { s.dctl with subs := s.dctl.subs.map f } }

/-- The code of a subchannel state (DCTL_STATUS). -/
def SubSt.code : SubSt → Nat
  | .off => 0 | .init => 1 | .training => 2 | .ready => 3 | .replay => 4 | .paused => 5 | .selfRefresh => 6 | .failed => 7

/-- Every subchannel satisfies a test. -/
def Dev.allSubs (s : Dev) (f : SubCh → Bool) : Bool := s.dctl.subs.all f

/-- Map the banks of a subchannel. -/
def Dev.mapBanks (s : Dev) (n : Nat) (f : Bank → Bank) : Dev :=
  { s with dctl := { s.dctl with
    banks := (s.dctl.banks.map (fun p => if p.1 / 64 = n then (p.1, f p.2) else p)).filter (fun p => decide (p.2 ≠ Bank.reset)) } }

/-- Close every open row of a subchannel; the predictor keeps its state (R204). -/
def Dev.closeRows (s : Dev) (n : Nat) : Dev := s.mapBanks n (fun b => { b with opened := none })

/-- The ranks of a subchannel leave power-down (R208). -/
def Dev.wakeRanks (s : Dev) (n : Nat) : Dev :=
  { s with dctl := { s.dctl with powerDown := s.dctl.powerDown.filter (fun r => decide (r / 2 ≠ n)) } }

/-- None of a subchannel's 64 queues holds an entry (R240). -/
def Dev.subIdle (s : Dev) (n : Nat) : Bool :=
  s.dctl.banks.all (fun p => decide (p.1 / 64 ≠ n) || p.2.queue.isEmpty) && s.dctl.ingress.all (fun p => decide (p.1 / 64 ≠ n))

/-- The subchannel of a line has FAILED (R220). -/
def Dev.lineFailed (s : Dev) (a : Nat) : Bool := (s.sub (s.dramOf a).sc).st = .failed

/-! ### DRAM contents -/

/-- What a DRAM byte that nothing has written reads as. DESIGN CHOICE: assumption 3. -/
abbrev dramByte : Byte := 0

/-- The data of the line at a device address. -/
def Dev.readLine (s : Dev) (a : Nat) : Line :=
  BitVec.ofNat 512 (leVal (Memory.readBytes dramByte s.dram (a / 64 * 64) 64))

/-- Write the line at a device address; a FAILED subchannel discards the write (R220). -/
def Dev.writeLine (s : Dev) (a : Nat) (d : Line) : Dev :=
  if s.lineFailed a then s
  else { s with dram := Memory.writeBytes dramByte s.dram (a / 64 * 64) (leBytes 64 d.toNat) }

/-- The line at a device address is marked poisoned in DRAM. -/
def Dev.linePoisoned (s : Dev) (a : Nat) : Bool := s.poisonLines.contains (a / 64)

/-- Mark or unmark a line as poisoned in DRAM. -/
def Dev.markLine (s : Dev) (a : Nat) (on : Bool) : Dev :=
  if s.lineFailed a then s
  else { s with poisonLines := if on then insertN (a / 64) s.poisonLines else s.poisonLines.erase (a / 64) }

/-- A line of a granule's plaintext. -/
def lineOf (data : List (Nat × Byte)) (line : Nat) : Line :=
  BitVec.ofNat 512 (leVal ((List.range 64).map (fun i => getD 0 (64 * line + i) data)))

/-! ### The dirty count and the engine's priority (R37, R87) -/

/-- Counted in D (R37, Table 3-3). -/
def GState.counted : GState → Bool
  | .dirty => true | .ferrying => true | .redirty => true | _ => false

/-- The number of granules counted in D (R37). -/
def Dev.dirtyGranules (s : Dev) : Nat := s.gmap.entries.countP (fun p => p.2.st.counted)

/-- D, in bytes (R37). -/
def Dev.d (s : Dev) : Nat := G * s.dirtyGranules

/-- Ferrying at urgent priority: by stage, and while D > B (R40, R87). -/
def Dev.urgent (s : Dev) : Bool := decide (3 ≤ s.fery.stage) || decide (s.fery.b < s.d) || s.fery.eng = .drain

/-! ### Bank queues and the page predictor (R201 to R203, R211) -/

/-- The counter T[h] of a bank. -/
def Bank.tOf (b : Bank) (h : Nat) : Nat := getD 2 h b.t

/-- The predictor learns the row of an access that enters the queue (R203). -/
def Bank.learn (b : Bank) (row : Nat) : Bank :=
  match b.last with
  | none => { b with last := some row }
  | some l =>
    let o := if row = l then 1 else 0
    let t := b.tOf b.h
    let t' := if o = 1 then min 3 (t + 1) else t - 1
    { b with last := some row, t := putD 2 b.h t' b.t, h := (b.h * 2 + o) % 16 }

/-! ### Requesters and admission (R88, R201, R202, R211) -/

/-- The requesters of an entry, beside the host queues of the LDs, 0 to 15. -/
abbrev Who.writeBack : Nat := 16
abbrev Who.refetch : Nat := 17
abbrev Who.mapCache : Nat := 18
abbrev Who.demand : Nat := 19
abbrev Who.restore : Nat := 20
abbrev Who.ferry : Nat := 21
abbrev Who.crossing : Nat := 22

/-- The source that R211 counts a requester under: the landing is one. -/
def whoSource (who : Nat) : Nat := if who = Who.restore then Who.demand else who

/-- Background restore's requests count as ferry requests (R202). -/
def whoFerry (who : Nat) : Bool := who = Who.ferry || who = Who.restore

/-- The requesters that hold at most 2 entries of one queue (R202). -/
def whoTwo (who : Nat) : Bool := who = Who.mapCache || who = Who.demand || who = Who.refetch

/-- The class of a requester in the order of R202: write-backs, the map cache, demand fetches and refetches, then the host and
the ferry, between which R88 decides. The crossing stands with them: no host request meets it. -/
def qClass (who : Nat) : Nat :=
  if who = Who.writeBack then 0 else if who = Who.mapCache then 1 else if who = Who.demand || who = Who.refetch then 2 else 3

/-- FERY_AGING.URGENT_CAP, and the cap on ferry entries of one queue that Table 4-3 gives the priority. -/
def Dev.urgentCap (s : Dev) : Nat := s.regF Reg.FERY_AGING 24 4
def Dev.ferryCap (s : Dev) : Nat := if s.urgent then s.urgentCap else s.regF Reg.FERY_AGING 16 4

/-- The caps of R88 and R202 leave a request an entry of a queue. In SAVE there is no host traffic, and the crossing and its
map flush may use all 16. -/
def Dev.underCap (s : Dev) (b : Bank) (who : Nat) : Bool :=
  s.core.mode = .save ||
    (let held (p : Nat → Bool) : Nat := b.queue.countP (fun x => p x.who)
     let shared := decide (held (fun w => whoFerry w || whoTwo w) < s.urgentCap)
     if whoTwo who then decide (held (fun w => w = who) < 2) && shared
     else if whoFerry who then decide (held whoFerry < s.ferryCap) && shared
     else true)

/-- A request may enter a bank queue: an entry is free, its requester is under its cap, and its source holds no entry of a
flagged row (R201, R202, R211). -/
def Dev.admissible (s : Dev) (q : Nat) (e : QEntry) : Bool :=
  let b := s.bank q
  decide (b.queue.length < 16) && s.underCap b e.who &&
    (!b.flagged.contains e.row || !b.queue.any (fun x => decide (whoSource x.who = whoSource e.who) && x.row = e.row))

/-- Put an entry in its queue. -/
def Dev.takeIn (s : Dev) (q : Nat) (e : QEntry) : Dev :=
  let b := (s.bank q).learn e.row
  s.setBank q { b with queue := b.queue ++ [e] }

/-- A request reaches DCTL: it enters its bank queue or waits at ingress. A FAILED subchannel takes none (R220). -/
def Dev.enqueue (s : Dev) (a : Nat) (write : Bool) (who : Nat) : Dev :=
  let d := s.dramOf a
  let e : QEntry := { row := d.row, col := d.col, write := write, who := who, tick := s.ticks
                      data := if write then some (s.readLine a, s.linePoisoned a) else none }
  if (s.sub d.sc).st = .off || (s.sub d.sc).st = .failed then s
  else if s.admissible d.queue e && !s.dctl.ingress.any (fun p => p.1 = d.queue && p.2.who = who) then s.takeIn d.queue e
  else { s with dctl := { s.dctl with ingress := s.dctl.ingress ++ [(d.queue, e)] } }

/-- A block of lines reaches DCTL, in address order. -/
def Dev.enqueueLines (s : Dev) (a n : Nat) (write : Bool) (who : Nat) : Dev :=
  (List.range n).foldl (fun s i => s.enqueue (a + 64 * i) write who) s

/-- The 256 lines of 16 KiB reach DCTL: a granule, a map granule or a staging slot. -/
def Dev.enqueueUnit (s : Dev) (a : Nat) (write : Bool) (who : Nat) : Dev := s.enqueueLines a 256 write who

/-- The next of the host and ferry requests that wait for a free entry (R88): at urgent priority the ferry's; else the host's,
unless the oldest ferry request has waited FERY_AGING.LIMIT ticks. -/
def Dev.hostOrFerry (s : Dev) (l : List (Nat × QEntry)) : Option (Nat × QEntry) :=
  match l.find? (fun p => !whoFerry p.2.who), l.find? (fun p => whoFerry p.2.who) with
  | some h, some f => if s.urgent || decide (s.regF Reg.FERY_AGING 0 12 ≤ s.ticks - f.2.tick) then some f else some h
  | some h, none => some h
  | none, f => f

/-- The request that the next free entry of a queue takes (R202). -/
def Dev.nextIn (s : Dev) (q : Nat) : Option (Nat × QEntry) :=
  let l := s.dctl.ingress.filter (fun p => p.1 = q && s.admissible q p.2)
  let cls (n : Nat) : Option (Nat × QEntry) := l.find? (fun p => qClass p.2.who = n)
  match cls 0, cls 1, cls 2 with
  | some p, _, _ => some p
  | none, some p, _ => some p
  | none, none, some p => some p
  | none, none, none => s.hostOrFerry (l.filter (fun p => qClass p.2.who = 3))

/-- Admit from ingress to a queue, in the order of R202, while entries are free. -/
def Dev.admitNext (s : Dev) (q : Nat) : Nat → Dev
  | 0 => s
  | n + 1 =>
    match s.nextIn q with
    | none => s
    | some p => Dev.admitNext ({ s with dctl := { s.dctl with ingress := s.dctl.ingress.erase p } }.takeIn q p.2) q n

/-! ### The page policy (R203) -/

/-- DCTL_PAGE.POLICY and the predictor decide whether the row stays open after an access (R203). -/
def Dev.staysOpen (s : Dev) (b : Bank) (row : Nat) : Bool :=
  match s.regF Reg.DCTL_PAGE 0 2 with
  | 1 => false
  | 2 => true
  | _ => match b.queue with
    | e :: _ => decide (e.row = row)
    | [] => decide (2 ≤ b.tOf b.h)

/-- Where the reserved region lies, and the areas of it that requesters reach (Tables 3-1 and 4-2). -/
def Dev.reservedAt (s : Dev) (off : Nat) : Nat := G * s.hostGranules + off
abbrev Res.dir : Nat := 0x20000000
abbrev Res.poison : Nat := 0x20040000
abbrev Res.bitmap : Nat := 0x20440000
abbrev Res.patterns : Nat := 0x21000000
abbrev Res.staging : Nat := 0x30000000
abbrev Res.landing : Nat := 0x34000000
abbrev Res.summary : Nat := 0x38000000
abbrev Res.refetch : Nat := 0x38100000
abbrev Res.parity : Nat := 0x39000000

end Sys2Proof.Machine
end

