-- ==== Sys2Proof/Machine/Gmap.lean ====
section
/-!
DEFINITION. The granule map (chapter 3): entries and their check, the dirty marks of map granules, the poison list, the map
cache, and the DRAM contents of granules and lines.
-/
namespace Sys2Proof.Machine

/-- The code of a persistence state (Table 3-3). -/
def GState.code : GState → Nat
  | .clean => 0 | .dirty => 1 | .ferrying => 2 | .redirty => 3 | .pinned => 4 | .unrestored => 5 | .fetching => 6

/-- The code of a map phase (Table 3-6, GMAP_STATUS.PHASE). -/
def MapPhase.code : MapPhase → Nat
  | .absent => 0 | .loading => 1 | .rollfwd => 2 | .rebuilding => 3 | .live => 4 | .saving => 5 | .saved => 6

/-- A line that holds such an entry is busy in the map cache (R68). -/
def GState.busy : GState → Bool
  | .ferrying => true | .redirty => true | .pinned => true | .fetching => true | _ => false

/-- Bytes 0 to 6 of a map entry (Table 3-2). -/
def GEntry.low (e : GEntry) : Nat :=
  e.st.code + fieldAt 3 1 (b2n e.xr) + fieldAt 4 1 (b2n e.poison) + fieldAt 8 4 e.age + fieldAt 12 12 e.gen +
    fieldAt 24 32 (e.loc.getD 0xFFFFFFFF)

/-- The 64-bit map entry with its CHECK (R58, R60). -/
def GEntry.word (e : GEntry) : BitVec 64 := BitVec.ofNat 64 (e.low + 2 ^ 56 * crc8 (leBytes 7 e.low))

/-- The 64-bit directory entry of a map granule (R73); 0 in the low bytes where it was never written. -/
def DirEntry.word (d : Option DirEntry) : BitVec 64 :=
  let low := match d with
    | some e => fieldAt 0 32 e.loc + fieldAt 32 1 (b2n e.xr) + 2 ^ 33
    | none => 0
  BitVec.ofNat 64 (low + 2 ^ 56 * crc8 (leBytes 7 low))

/-- The persistable form of an entry, as NAND holds it (R61). -/
def GEntry.persist (e : GEntry) : GEntry := { e with st := .clean, age := 0 }

/-- The entry of a granule. -/
def Dev.entry (s : Dev) (g : Nat) : GEntry := getD s.gmap.dflt g s.gmap.entries

/-- The granule of a device address (R55). -/
def granuleOf (a : Dpa) : Nat := a.toNat / 16384

/-- Map granules in flight: captured and neither committed nor refused. -/
def Dev.mapInFlight (s : Dev) : List Nat :=
  (s.fery.copies.filter (fun c => c.cls = .mapGranule || c.cls = .relocMap)).map (fun c => c.idx)

/-- Map granules in flight whose copy carries a change: they are dirty until it is committed (R72). A relocation of a clean
map granule changes no persistable field. -/
def Dev.mapChanging (s : Dev) : List Nat :=
  (s.fery.copies.filter (fun c => (c.cls = .mapGranule || c.cls = .relocMap) && c.mapChange)).map (fun c => c.idx)

/-- GMAP_MAPDIRTY.COUNT: a map granule is dirty from a change until a copy of it is committed (R72). -/
def Dev.mapDirtyCount (s : Dev) : Nat :=
  s.gmap.mapDirty.length + (s.mapChanging.filter (fun m => !(s.gmap.mapDirty.any (fun p => p.1 = m)))).eraseDups.length

/-- The number of map granules (R57). -/
def Dev.mapGranules (s : Dev) : Nat := s.installed / 2 ^ 25

/-- cap_eff at a budget (R72). -/
def Dev.capEffAt (s : Dev) (b : Nat) : Nat :=
  min (clampN 256 8192 (s.regF Reg.GMAP_MAPDIRTY 16 16)) ((s.installed / 2048 + 8 * 2 ^ 20 - b / 2048) / 16384)

/-- cap_eff at the current budget. -/
def Dev.capEff (s : Dev) : Nat := s.capEffAt s.fery.b

/-- Mark a map granule dirty (R65 rule 5). -/
def Dev.markMap (s : Dev) (m : Nat) : Dev :=
  if s.gmap.mapDirty.any (fun p => p.1 = m) then s
  else { s with gmap := { s.gmap with mapDirty := s.gmap.mapDirty ++ [(m, s.fery.wseq)] } }

/-- GMAP_STATUS (R81). -/
def Dev.gmapStatus (s : Dev) : Nat :=
  s.gmap.phase.code + fieldAt 4 2 s.gmap.source + fieldAt 8 1 (b2n s.gmap.poisonOvf)

/-- The granules that the poison list names, ascending. -/
def Dev.poisonGs (s : Dev) : List Nat := s.gmap.poisonList.foldl (fun l p => insertN p.2 l) []

/-- The lowest key from n on that a keyed list does not hold. -/
def firstGap {α : Type} : Nat → List (Nat × α) → Nat
  | n, [] => n
  | n, (k, _) :: t => if k = n then firstGap (n + 1) t else n

/-- The lowest number that no taken one equals. -/
def lowestFree (taken : List Nat) : Nat := ((List.range (taken.length + 1)).find? (fun n => !taken.contains n)).getD 0

/-- The poison list with a slot taken for a granule: the lowest free slot. DESIGN CHOICE: which free slot is taken
(assumption 88). -/
def takeSlot (l : List (Nat × Nat)) (g : Nat) : List (Nat × Nat) := insertK (firstGap 0 l) g l

/-- The slots in which two poison lists differ. -/
def slotDiff (a b : List (Nat × Nat)) : List Nat :=
  (((a ++ b).map (fun p => p.1)).filter (fun k => decide (lookupK k a ≠ lookupK k b))).foldl (fun l k => insertN k l) []

/-- Slots up to the last that is taken: POISON_SLOTS of a checkpoint (Table 3-5). -/
def poisonSpan (l : List (Nat × Nat)) : Nat := match l.getLast? with | some p => p.1 + 1 | none => 0

/-- Take or free a granule's poison-list slot (R71). -/
def Dev.poisonSlot (s : Dev) (g : Nat) (on : Bool) : Dev :=
  if on then
    if s.gmap.poisonList.any (fun p => p.2 = g) then s
    else if s.gmap.poisonList.length < 1048576 then
      { s with gmap := { s.gmap with
        poisonList := takeSlot s.gmap.poisonList g
        poisonChanged := insertN (firstGap 0 s.gmap.poisonList) s.gmap.poisonChanged } }
    else
      let s := { s with gmap := { s.gmap with
        poisonOvf := true
        poisonOvfTime := if s.gmap.poisonOvf then s.gmap.poisonOvfTime else s.timestampNow } }
      (s.latch Reg.GMAP_ERR 4).logStd LT.POISON_LIST_FULL g s.gmapStatus
  else
    match s.gmap.poisonList.find? (fun p => p.2 = g) with
    | some (k, _) =>
      { s with gmap := { s.gmap with
        poisonList := eraseK k s.gmap.poisonList
        poisonChanged := insertN k s.gmap.poisonChanged
        poisonOvf := false } }
    | none => s

/-- Change an entry. A persistable field marks the map granule (R61, R65), a counted state sets the summary bit (R85), and
POISON takes or frees the poison-list slot (R71). -/
def Dev.setEntry (s : Dev) (g : Nat) (e : GEntry) : Dev :=
  let old := s.entry g
  let s := { s with gmap := { s.gmap with entries := putD s.gmap.dflt g e s.gmap.entries } }
  let s := if old.persist = e.persist then s else s.markMap (g / 2048)
  let s := if e.st.counted && !old.st.counted then
    { s with fery := { s.fery with summary := insertN (g / 8) s.fery.summary } } else s
  let s := if e.poison then s else { s with gmap := { s.gmap with poisonSaid := s.gmap.poisonSaid.erase g } }
  if old.poison = e.poison then s else s.poisonSlot g e.poison

/-- Change only STATE. -/
def Dev.setSt (s : Dev) (g : Nat) (st : GState) : Dev := s.setEntry g { s.entry g with st := st }

/-! ### DRAM contents -/

/-- The poisoned lines of a granule, numbered 0 to 255. -/
def Dev.granulePoison (s : Dev) (g : Nat) : List Nat :=
  (s.poisonLines.filter (fun l => l / 256 = g)).map (fun l => l % 256)

/-- The data of a granule, as offsets from its base. -/
def Dev.granuleData (s : Dev) (g : Nat) : List (Nat × Byte) := Memory.slice s.dram (G * g) G

/-- The lines of a granule that lie on FAILED subchannels: each reads as uncorrectable (R220). -/
def Dev.failedLines (s : Dev) (g : Nat) : List Nat :=
  if s.dctl.subs.all (fun c => c.st ≠ .failed) then []
  else (List.range 256).filter (fun n => s.lineFailed (G * g + 64 * n))

/-- Write one line of a granule, poisoned or not. -/
def Dev.putLineOf (s : Dev) (g : Nat) (data : List (Nat × Byte)) (pois : List Nat) (n : Nat) : Dev :=
  (s.writeLine (G * g + 64 * n) (if pois.contains n then 0 else lineOf data n)).markLine (G * g + 64 * n) (pois.contains n)

/-- Replace a granule's data and poison marks in DRAM; FAILED subchannels discard what is written to them (R220). -/
def Dev.putGranule (s : Dev) (g : Nat) (data : List (Nat × Byte)) (pois : List Nat) : Dev :=
  if s.dctl.subs.all (fun c => c.st ≠ .failed) then
    { s with
      dram := Memory.putSlice dramByte s.dram (G * g) G data
      poisonLines := pois.foldl (fun l n => insertN (256 * g + n) l) (s.poisonLines.filter (fun l => l / 256 ≠ g)) }
  else (List.range 256).foldl (fun s n => s.putLineOf g data pois n) s

/-! ### The map cache (R67 to R69) -/

/-- The set of a granule's line (R67). -/
def cacheSet (g : Nat) : Nat := bitsOf g 3 11 ^^^ bitsOf g 14 11

/-- A line of 8 entries holds a busy entry (R68). -/
def Dev.lineBusy (s : Dev) (line : Nat) : Bool :=
  (List.range 8).any (fun i => (s.entry (8 * line + i)).st.busy)

/-- The map cache reads a line of the entry table, or writes one back (R67, R202). -/
def Dev.mapTraffic (s : Dev) (line : Nat) (write : Bool) : Dev := s.enqueue (s.reservedAt (64 * line)) write Who.mapCache

/-- Bring a line in as the most recently used way of its set, evicting the least recently used way that is not busy, which is
written back where it is modified; none when all 16 ways are busy (R67, R68). -/
def Dev.cacheFill (s : Dev) (line : Nat) : Option Dev :=
  let set := cacheSet (8 * line)
  let ways := getD [] set s.gmap.cache
  let w : CacheWay := { line := line, modified := false }
  if ways.length < 16 then
    some ({ s with gmap := { s.gmap with cache := putD [] set (w :: ways) s.gmap.cache } }.mapTraffic line false)
  else
    match ways.reverse.find? (fun w => !s.lineBusy w.line) with
    | none => none
    | some v =>
      let s := { s with gmap := { s.gmap with cache := putD [] set (w :: ways.erase v) s.gmap.cache } }
      some ((if v.modified then s.mapTraffic v.line true else s).mapTraffic line false)

/-- Look an entry's line up in the map cache, counting a hit or a miss, filling on a miss and prefetching the next line
(R69). None: the access waits for a way (R68). A prefetch whose set has 16 busy ways is dropped: R68 makes an access wait, and
the spec does not say what becomes of a prefetch. DESIGN CHOICE: assumption 87. -/
def Dev.cacheAccess (s : Dev) (g : Nat) : Option Dev :=
  let line := g / 8
  let set := cacheSet g
  let ways := getD [] set s.gmap.cache
  match ways.find? (fun w => w.line = line) with
  | some w =>
    some ({ s with gmap := { s.gmap with cache := putD [] set (w :: ways.erase w) s.gmap.cache } }.wrapReg
      Reg.GMAP_CACHE_HITS 0 32 1)
  | none =>
    match s.cacheFill line with
    | none => none
    | some s =>
      let s := s.wrapReg Reg.GMAP_CACHE_MISSES 0 32 1
      let next := line + 1
      let present := (getD [] (cacheSet (8 * next)) s.gmap.cache).any (fun w => w.line = next)
      if s.regF Reg.GMAP_CACHE_CTL 0 1 = 1 && !present then some ((s.cacheFill next).getD s) else some s

/-- Mark the line of an entry as modified, where it is cached. -/
def Dev.cacheDirty (s : Dev) (g : Nat) : Dev :=
  let set := cacheSet g
  let ways := getD [] set s.gmap.cache
  { s with gmap := { s.gmap with
    cache := putD [] set (ways.map (fun w => if w.line = g / 8 then { w with modified := true } else w)) s.gmap.cache } }

/-- Write every modified line back (R81, R65 rule 6). -/
def Dev.cacheFlush (s : Dev) : Dev :=
  let lines := s.gmap.cache.flatMap (fun p => (p.2.filter (fun w => w.modified)).map (fun w => w.line))
  let s := lines.foldl (fun s l => s.mapTraffic l true) s
  { s with gmap := { s.gmap with
    cache := s.gmap.cache.map (fun p => (p.1, p.2.map (fun w => { w with modified := false }))) } }

/-! ### Repair of a damaged entry (R79) -/

/-- The key of a unit: its LOC, and 2^32 more in the crossing region. -/
def unitKey (loc : Nat) (xr : Bool) : Nat := loc + (if xr then 2 ^ 32 else 0)

/-- A granule's persistable fields as its map granule's committed copy records them, with that copy's write sequence. -/
def Dev.entryInNand (s : Dev) (g : Nat) : GEntry × Nat :=
  match lookupK (g / 2048) s.gmap.dir with
  | none => (GEntry.blank .clean, 0)
  | some d =>
    match lookupK (unitKey d.loc d.xr) s.flsh.units with
    | some u =>
      match u.payload with
      | .mapGranule es => (getD (GEntry.blank .clean) g es, u.wseq)
      | _ => (GEntry.blank .clean, 0)
    | none => (GEntry.blank .clean, 0)

/-- Apply a granule unit to an entry, where it is newer than what the entry stands for. -/
def newerUnit (acc : GEntry × Nat) (p : Nat × NUnit) : GEntry × Nat :=
  if acc.2 < p.2.wseq then
    ({ acc.1 with gen := p.2.gen, loc := some (p.1 % 2 ^ 32), xr := decide (2 ^ 32 ≤ p.1), poison := p.2.poison ≠ [] }, p.2.wseq)
  else acc

/-- The newest copy of a granule in the image region or in a complete crossing, above a given write sequence. -/
def Dev.newestCopy (s : Dev) (g : Nat) (start : GEntry × Nat) : GEntry × Nat :=
  (s.flsh.units.filter (fun p => p.2.kind = 1 && p.2.idx = g &&
    (p.1 < 2 ^ 32 || (s.land.lastComplete = some p.2.crossSeq)))).foldl newerUnit start

/-- Repair a damaged entry in place (R79): the persistable fields from NAND and any newer copy; STATE by the landing bitmap
during a landing, and DIRTY where DRAM may hold newer writes. -/
def Dev.repairEntry (s : Dev) (g : Nat) : Dev :=
  let (e, _) := s.newestCopy g (s.entryInNand g)
  let restored := s.rdy Rdy.RESTORED || s.land.bitmap.contains g
  let s := s.setEntry g { e with st := if restored then .dirty else .unrestored, age := 0 }
  let s := (s.latch Reg.GMAP_ERR 0).countReg Reg.GMAP_ERR_COUNT 0 16 1
  let s := if s.land.st = .restoring then s.latch Reg.XING_LAND_ERR 5 else s
  s.logStd LT.MAP_ENTRY_REPAIR g s.gmapStatus

/-- Repair where the access found CHECK wrong. -/
def Dev.repairIf (s : Dev) (damaged : Bool) (g : Nat) : Dev := if damaged then s.repairEntry g else s

end Sys2Proof.Machine
end

