-- ==== Sys2Proof/Machine/Cipher.lean ====
section
/-!
DEFINITION. The protected regions as pairs of sectors (R294), and the cipher engine: usage counts, the epoch machine of
Table 13-3 with its reservation (R314 to R319), the key cache, and the lanes' queue (R306 to R311, R313).
-/
namespace Sys2Proof.Machine

/-! ### Protected regions (Table 12-8) -/

/-- The first sector of a region, from 0x2A1_0000. -/
def prFirst (pr : Nat) : Nat := match pr with | 0 => 0 | 1 => 1024 | 2 => 2304 | 3 => 2560 | _ => 3328

/-- Logical blocks of a region. -/
def prBlocks (pr : Nat) : Nat := match pr with | 0 => 256 | 1 => 640 | 2 => 128 | _ => 384

/-- The pairs that hold a block: PR0 keeps two copies (R294). -/
def prPairs (pr block : Nat) : List Nat := if pr = 0 then [block, block + 256] else [block]

/-- The sector `w` of a pair. -/
def prSecNo (pr pair w : Nat) : Nat := prFirst pr + 2 * pair + w

/-- The sector that holds the higher valid GEN of a pair. -/
def Dev.prNewest (s : Dev) (pr pair : Nat) : Option (Nat × PrSec) :=
  let at_ (w : Nat) : Option (Nat × PrSec) :=
    match lookupK (prSecNo pr pair w) s.chtr.pr with
    | some x => if x.bad then none else some (w, x)
    | none => none
  match at_ 0, at_ 1 with
  | some a, some b => if a.2.gen < b.2.gen then some b else some a
  | some a, none => some a
  | none, b => b

/-- Neither sector of a pair has been written since it was erased. -/
def Dev.prErased (s : Dev) (pr pair : Nat) : Bool :=
  (lookupK (prSecNo pr pair 0) s.chtr.pr).isNone && (lookupK (prSecNo pr pair 1) s.chtr.pr).isNone

/-- A sector of a pair is damaged. -/
def Dev.prDamaged (s : Dev) (pr pair : Nat) : Bool :=
  (List.range 2).any (fun w => match lookupK (prSecNo pr pair w) s.chtr.pr with | some x => x.bad | none => false)

/-- A read of a pair (R294): its payload, or none where it is damaged. -/
def Dev.prReadPair (s : Dev) (pr pair : Nat) : Option (List (Nat × Byte)) :=
  match s.prNewest pr pair with
  | some (_, x) => some x.data
  | none => if s.prErased pr pair then some [] else none

/-- A read of a block: for PR0 a damaged block is read from its other copy (R294). -/
def Dev.prRead (s : Dev) (pr block : Nat) : Option (List (Nat × Byte)) := (prPairs pr block).findSome? (s.prReadPair pr)

/-- Change a sector. -/
def Dev.putSec (s : Dev) (n : Nat) (x : Option PrSec) : Dev :=
  { s with chtr := { s.chtr with pr := match x with | some x => insertK n x s.chtr.pr | none => eraseK n s.chtr.pr } }

/-- The sector that the next write of a pair takes, and its GEN (R294). -/
def Dev.prTarget (s : Dev) (pr pair : Nat) : Nat × Nat :=
  match s.prNewest pr pair with
  | some (w, x) => (1 - w, (x.gen + 1) % 2 ^ 32)
  | none => (0, 1)

/-- The key of a block in CIPH's list of damaged blocks (R309). -/
def prKey (pr block : Nat) : Nat := 1024 * pr + block

/-! ### Epochs and counts -/

/-- The highest epoch that may be used (R314). -/
abbrev lastEpoch : Nat := 0xFFFFEF

/-- n_x of R316 at a budget. -/
def Dev.nXAt (s : Dev) (b : Nat) : Nat := b / 16384 + b / 2 ^ 25 + s.capEffAt b + s.installed / 2 ^ 36 + 260

/-- n_x of R316: b is b_arm. -/
def Dev.nX (s : Dev) : Nat := s.nXAt s.fery.bArm

/-- Invocations left of the current key (R317). -/
def Dev.keyLeft (s : Dev) : Nat := 2 ^ 28 - s.ciph.used

/-- The arming condition KEYS (R317). -/
def Dev.keysOk (s : Dev) : Bool :=
  s.ciph.st = .active && s.ciph.reserved && decide (s.nX ≤ s.keyLeft + 2 ^ 28 * (s.ciph.limit - s.ciph.epoch))

/-- Change the cipher engine's state. -/
def Dev.modCiph (s : Dev) (f : CiphSt → CiphSt) : Dev := { s with ciph := f s.ciph }

/-- Bring a key to the front of the cache of 64: the current epoch's and every suspended message's key stay (R313). -/
def CiphSt.touch (c : CiphSt) (e : Nat) : CiphSt :=
  let rest := c.cache.erase e
  let pinned (k : Nat) : Bool := k = c.epoch || c.suspended.any (fun m => m.epoch = k)
  if rest.length < 64 then { c with cache := e :: rest }
  else
    match rest.reverse.find? (fun k => !pinned k) with
    | some k => { c with cache := e :: rest.erase k }
    | none => { c with cache := e :: rest }

/-- Start a reservation write where LIMIT − EPOCH is 4 or less and none runs (R315). -/
def Dev.reserveMore (s : Dev) : Dev :=
  if s.ciph.st = .active && s.ciph.reserving.isNone && !s.ciph.retry && decide (s.ciph.limit ≤ s.ciph.epoch + 4) then
    s.modCiph (fun c => { c with reserving := some (c.limit + 16) })
  else s

/-- The next epoch, with its key and a count of zero (R316). -/
def Dev.nextEpoch (s : Dev) : Dev :=
  let s := s.modCiph (fun c => ({ c with epoch := c.epoch + 1, used := 0 }).touch (c.epoch + 1))
  s.logStd LT.EPOCH_ADVANCE s.ciph.epoch s.ciph.limit

/-- Regions with a password are locked when READY_CIPHER clears (R296). -/
def Dev.lockRegions (s : Dev) : Dev :=
  { s with chtr := { s.chtr with pw := s.chtr.pw.map (fun r => { r with opened := false }) } }

/-- READY_CIPHER clears. -/
def Dev.cipherUnready (s : Dev) : Dev := (s.clrReady Rdy.CIPHER).lockRegions.evalAgain

/-- STALLED (R318): the cause, and what follows. -/
def Dev.cipherStall (s : Dev) (cause : Nat) : Dev :=
  let s := s.modCiph (fun c => { c with st := .stalled, stallCause := cause, retry := c.reserving.isNone })
  ((s.latch Reg.CIPH_ERR 4).logStd LT.EPOCH_STALL s.ciph.epoch cause).cipherUnready.note .epochStall

/-- A trigger of R316 in ACTIVE: advance, or stall (R318). -/
def Dev.cipherTrigger (s : Dev) : Dev :=
  if s.ciph.st ≠ .active then s
  else if s.ciph.epoch < s.ciph.limit && s.ciph.epoch ≠ lastEpoch then s.nextEpoch.reserveMore.evalAgain
  else s.cipherStall (if s.ciph.epoch = lastEpoch then 2 else 1)

/-- One seal under the current key: its count, and the usage trigger (R307, R316). -/
def Dev.countSeal (s : Dev) : Dev :=
  let s := s.modCiph (fun c => { c with used := c.used + 1, seals := (c.seals + 1) % 2 ^ 64 })
  if s.keyLeft < s.nX + 2 ^ 20 then s.cipherTrigger else s

/-- A write of a block of a protected region that completes (R294): to the pair's other sector with GEN + 1, under the current
epoch, and for PR0 to both copies. R309 advances the epoch first where a read found a sector damaged. -/
def Dev.prWrite (s : Dev) (pr block : Nat) (data : List (Nat × Byte)) : Dev :=
  let s := if s.ciph.damaged.contains (prKey pr block) then
      (s.modCiph (fun c => { c with damaged := c.damaged.erase (prKey pr block) })).cipherTrigger else s
  (prPairs pr block).foldl (fun s pair =>
    let (w, gen) := s.prTarget pr pair
    (s.putSec (prSecNo pr pair w) (some { gen := gen, epoch := s.ciph.epoch, data := data, bad := false })).countSeal) s

/-- A block read that finds a damaged sector is noted for R309. -/
def Dev.prNoteDamage (s : Dev) (pr block : Nat) : Dev :=
  if (prPairs pr block).any (s.prDamaged pr) then
    s.modCiph (fun c => { c with damaged := insertN (prKey pr block) c.damaged })
  else s

/-- Bytes written into a payload, keeping the canonical form. -/
def putPayload (data : List (Nat × Byte)) (off : Nat) (bs : Bytes) : List (Nat × Byte) := Memory.writeBytes 0 data off bs

/-- A write of part of a block reads, merges and writes the whole block (R294). -/
def Dev.prMerge (s : Dev) (pr block off : Nat) (bs : Bytes) : Dev :=
  s.prWrite pr block (putPayload ((s.prRead pr block).getD []) off bs)

/-- LIMIT and STARTS of an epoch block; none where it holds no valid sector. -/
def Dev.epochBlock (s : Dev) (block : Nat) : Option (Nat × Nat) :=
  match s.prNewest 2 block with
  | some (_, x) => some (leVal ((List.range 3).map (fun i => getD 0 i x.data)), leVal ((List.range 4).map (fun i => getD 0 (4 + i) x.data)))
  | none => none

/-- Commit an epoch block: the write, then the erase of its other sector (R314). -/
def Dev.putEpochBlock (s : Dev) (block limit starts : Nat) : Dev :=
  let (w, gen) := s.prTarget 2 block
  let data := putPayload [] 0 (leBytes 4 limit ++ leBytes 4 starts)
  let s := s.putSec (prSecNo 2 block w) (some { gen := gen, epoch := s.ciph.epoch, data := data, bad := false })
  (s.putSec (prSecNo 2 block (1 - w)) none).countSeal

/-- The highest EPOCH field of the four sectors. -/
def Dev.highestEpoch (s : Dev) : Nat :=
  [(2, 0), (2, 1), (3, 0), (3, 1)].foldl
    (fun m p => match lookupK (prSecNo 2 p.1 p.2) s.chtr.pr with | some x => max m x.epoch | none => m) 0

/-- READY_RAILS sets (R314, Table 13-3): the engine leaves OFF. -/
def Dev.cipherStart (s : Dev) : Dev :=
  if s.ciph.st ≠ .off then s
  else
    let b2 := s.epochBlock 2
    let b3 := s.epochBlock 3
    let erased := s.prErased 2 2 && s.prErased 2 3
    let starts := max (b2.getD (0, 0)).2 (b3.getD (0, 0)).2
    let skip := b2.isNone && b3.isNone && !erased
    let limit := if skip then s.highestEpoch + 2 ^ 20 else max (b2.getD (0, 0)).1 (b3.getD (0, 0)).1
    let s := if skip then (s.latch Reg.CIPH_ERR 3).logStd LT.EPOCH_SKIP limit limit else s
    let s := s.modCiph (fun c => { c with limit := limit, starts := starts, used := 0, reserved := false, retry := false, stallCause := 0 })
    if limit + 1 ≤ lastEpoch then
      let s := s.modCiph (fun c =>
        ({ c with st := .reserve, epoch := limit + 1, reserving := some (limit + 16) }).touch (limit + 1))
      (s.setReady Rdy.CIPHER).evalAgain
    else
      ((s.modCiph (fun c => { c with st := .stalled, epoch := limit, stallCause := 2, retry := true })).logStd LT.EPOCH_STALL limit 2).latch
        Reg.CIPH_ERR 4

/-- The down-timetable starts: keys, counts and suspend slots are discarded (Table 13-3). -/
def Dev.cipherOff (s : Dev) : Dev :=
  s.cipherUnready.modCiph (fun c =>
    { CiphSt.reset with seals := c.seals, tagFailsNand := c.tagFailsNand, tagFailsPr := c.tagFailsPr, damaged := c.damaged })

/-- The epoch-block writes end (R314, R315, R319): how many of blocks 2 and 3 committed. -/
def epochReservation (done : Nat) (s : Dev) : Dev :=
  match s.ciph.reserving with
  | none => s
  | some limit =>
    let starts := if s.ciph.reserved then s.ciph.starts else s.ciph.starts + 1
    let s := s.modCiph (fun c => { c with reserving := none })
    let s := if 1 ≤ done then s.putEpochBlock 2 limit starts else s
    if done < 2 then
      let s := s.modCiph (fun c => { c with retry := true })
      (s.latch Reg.CIPH_ERR 2).logStd LT.EPOCH_RESERVE_FAIL s.ciph.epoch limit
    else
      let s := (s.putEpochBlock 3 limit starts).modCiph (fun c => { c with limit := limit, starts := starts })
      match s.ciph.st with
      | .reserve => (s.modCiph (fun c => { c with st := .active, reserved := true })).reserveMore.evalAgain
      | .stalled =>
        if s.ciph.epoch < lastEpoch then
          let s := (s.modCiph (fun c => { c with st := .active, reserved := true, stallCause := 0 })).nextEpoch
          ((s.setReady Rdy.CIPHER).reserveMore.note .epochOk).evalAgain
        else s.modCiph (fun c => { c with retry := true })
      | _ => s.reserveMore

/-- One second after a failure the write is retried (R318, R319). -/
def epochReserveRetry (s : Dev) : Dev :=
  if s.ciph.retry && s.ciph.reserving.isNone then
    (s.modCiph (fun c => { c with retry := false, reserving := some (if c.st = .reserve then c.epoch + 15 else c.limit + 16) }))
  else s

/-- A write of CIPH_CTL.ADVANCE (R316, R329). -/
def ciphAdvance (src : Src) (val : Word) (s : Dev) : Dev :=
  s.guarded src Reg.CIPH_CTL (fun s =>
    if !val.getLsbD 0 then s
    else if s.ciph.st = .active && s.ciph.epoch < s.ciph.limit then (s.writeStatus src .ok).cipherTrigger
    else s.writeStatus src .notReady)

/-! ### Messages -/

/-- A seal may start now: in ACTIVE, and in SAVE also while STALLED, below the usage limit (R307, R314, R318). -/
def Dev.sealsNow (s : Dev) : Bool :=
  (s.ciph.st = .active || (s.ciph.st = .stalled && s.core.mode = .save)) && decide (s.ciph.used < 2 ^ 28)

/-- An open may start now. -/
def Dev.opensNow (s : Dev) : Bool := s.ciph.st = .reserve || s.ciph.st = .active || s.ciph.st = .stalled

/-- Queue a message for a lane. -/
def Dev.cipherPush (s : Dev) (who : MsgFor) (isSeal : Bool) (epoch : Nat) : Dev :=
  s.modCiph (fun c => { c with
    waiting := c.waiting ++ [{ who := who, isSeal := isSeal, epoch := epoch, resumed := false }] })

/-- Forget the messages of one purpose, wherever they stand. -/
def Dev.cipherDrop (s : Dev) (p : MsgFor → Bool) : Dev :=
  s.modCiph (fun c => { c with
    waiting := c.waiting.filter (fun m => !p m.who)
    suspended := c.suspended.filter (fun m => !p m.who)
    lanes := c.lanes.map (fun l => match l with | some m => if p m.who then none else some m | none => none) })

/-- The tag of an open fails (R311, R327). -/
def Dev.tagFailed (s : Dev) (nand : Bool) : Dev :=
  let s := s.latch Reg.CIPH_ERR 0
  if nand then s.modCiph (fun c => { c with tagFailsNand := satAdd 65535 c.tagFailsNand 1 })
  else s.modCiph (fun c => { c with tagFailsPr := satAdd 65535 c.tagFailsPr 1 })

/-! ### Check-value units -/

/-- Change a context. -/
def Dev.modChk (s : Dev) (n : Nat) (f : ChkCtx → ChkCtx) : Dev :=
  { s with chk := s.chk.set n (f (s.chk.getD n (ChkCtx.reset n))) }

/-- The bits of a code's width. -/
def chkMask (poly : Nat) : Nat := match poly with | 0 => 0xFFFFFFFF | 1 => 0xFFFFFFFF | 2 => 0xFFFF | _ => 0xFF

/-- CHK_RESULT (R324). -/
def ChkCtx.result (c : ChkCtx) : Nat := c.value.toNat ^^^ crcFinal c.poly

/-- Feed bytes (R323). -/
def ChkCtx.feed (c : ChkCtx) (bs : List Byte) : ChkCtx :=
  { c with value := BitVec.ofNat 32 (bs.foldl (crcStep c.poly) c.value.toNat), fed := satAdd 65535 c.fed bs.length }

/-- A write of CHK_CTL: POLY of contexts 5 to 7, and INIT (R322, R324). -/
def ChkCtx.ctl (c : ChkCtx) (n : Nat) (v : Word) : ChkCtx :=
  let c := if 5 ≤ n then { c with poly := bitsOf v.toNat 0 2 } else c
  if v.getLsbD 2 then { c with value := BitVec.ofNat 32 (crcInit c.poly), isMatch := false, mismatch := false, fed := 0 } else c

/-- A write of INIT, with the POLY written beside it. -/
def chkInit (src : Src) (n : Fin 8) (val : Word) (s : Dev) : Dev :=
  (s.guarded src (Reg.CHK_CTL_0 + 0x20 * n.val) (fun s => (s.modChk n.val (fun c => c.ctl n.val val)).writeStatus src .ok))

/-- A write of CHK_VALUE replaces the running state; only the code's width is used (R324, R330). -/
def chkValueWrite (src : Src) (n : Fin 8) (val : Word) (s : Dev) : Dev :=
  (s.guarded src (Reg.CHK_VALUE_0 + 0x20 * n.val) (fun s =>
    (s.modChk n.val (fun c => { c with value := BitVec.ofNat 32 (val.toNat &&& chkMask c.poly) })).writeStatus src .ok))

/-- One byte is fed (R323). -/
def chkFeed8 (src : Src) (n : Fin 8) (val : Word) (s : Dev) : Dev :=
  (s.guarded src (Reg.CHK_FEED8_0 + 0x20 * n.val) (fun s =>
    (s.modChk n.val (fun c => c.feed (leBytes 1 val.toNat))).writeStatus src .ok))

/-- Two bytes are fed, least significant first (R323). -/
def chkFeed16 (src : Src) (n : Fin 8) (val : Word) (s : Dev) : Dev :=
  (s.guarded src (Reg.CHK_FEED16_0 + 0x20 * n.val) (fun s =>
    (s.modChk n.val (fun c => c.feed (leBytes 2 val.toNat))).writeStatus src .ok))

/-- Four bytes are fed, least significant first (R323). -/
def chkFeed32 (src : Src) (n : Fin 8) (val : Word) (s : Dev) : Dev :=
  (s.guarded src (Reg.CHK_FEED32_0 + 0x20 * n.val) (fun s =>
    (s.modChk n.val (fun c => c.feed (leBytes 4 val.toNat))).writeStatus src .ok))

/-- A compare with CHK_RESULT (R325). -/
def chkExpect (src : Src) (n : Fin 8) (val : Word) (s : Dev) : Dev :=
  (s.guarded src (Reg.CHK_EXPECT_0 + 0x20 * n.val) (fun s =>
    let hit := decide ((s.chk.getD n.val (ChkCtx.reset n.val)).result = val.toNat)
    let s := (s.modChk n.val (fun c => { c with isMatch := hit, mismatch := !hit })).writeStatus src .ok
    if hit then s else s.latch Reg.CHK_ERR n.val))

end Sys2Proof.Machine
end

