-- ==== Sys2Proof/Machine/Post.lean ====
section
/-!
DEFINITION. Posting the completion of a command on the port that sent it (R168, R169, R387), and the end of a background
command.
-/
namespace Sys2Proof.Machine

/-- Write bytes at a position of a sideband buffer (R387); what lies past 65,536 bytes is dropped. -/
def putBuf (buf : List (Nat × Byte)) (pos : Nat) (bs : Bytes) : List (Nat × Byte) :=
  Memory.writeBytes 0 buf pos (bs.take (65536 - pos))

/-- Post a completion: on the mailbox it carries the CXL return code and the ST_ code (R168), and a refusal sets
HLNK_ERR.MBOX_REJECT where `refused`; on a sideband port it ends the EXEC, overwrites the buffer and notifies (R387, R388). -/
def Dev.post (s : Dev) (p : Port) (opcode ret : Nat) (st : St) (payload : Bytes) : Dev :=
  match p with
  | .host ld => (s.emit (.mbox p opcode ret st payload)).signal ld 0
  | _ =>
    let s := s.modTwb (portTwb p) (fun t => { t with
      execSt := 2, execRes := st.code, status := st.code, execOp := opcode, outLen := payload.length
      buf := putBuf t.buf 0 payload })
    (s.emit (.mbox p opcode ret st payload)).notifyEv 6

/-- Post a completion with the return code that its ST_ code maps to (Table 17-3). -/
def Dev.postSt (s : Dev) (p : Port) (opcode : Nat) (st : St) (payload : Bytes) : Dev := s.post p opcode st.ret st payload

/-- Post a refusal: on the mailbox HLNK_ERR.MBOX_REJECT also sets (R168). -/
def Dev.refuse (s : Dev) (p : Port) (opcode ret : Nat) (st : St) : Dev :=
  let s := match p with
    | .host _ => s.latch Reg.HLNK_ERR 7
    | _ => s
  s.post p opcode ret st []

/-- A background command is running (R169). -/
def Dev.bgRunning (s : Dev) : Bool := match s.hlnk.bg with | some b => b.running | none => false

/-- Start a background command (R169): the mailbox reports that it has started (Table 7-8), an EXEC goes on running (R387). -/
def Dev.bgStart (s : Dev) (p : Port) (opcode : Nat) : Dev :=
  let s := { s with hlnk := { s.hlnk with
    bg := some { port := p, opcode := opcode, percent := 0, ret := 0, st := .ok, running := true } } }
  match p with
  | .host ld => (s.emit (.mbox p opcode 1 .ok [])).signal ld 0
  | _ => s

/-- The background command that runs is done to a share. -/
def Dev.bgPercent (s : Dev) (pct : Nat) : Dev :=
  match s.hlnk.bg with
  | some b => if b.running then { s with hlnk := { s.hlnk with bg := some { b with percent := pct } } } else s
  | none => s

/-- The background command that runs ends with its status and output. -/
def Dev.bgFinish (s : Dev) (opcode : Nat) (st : St) (payload : Bytes) : Dev :=
  match s.hlnk.bg with
  | some b =>
    if b.running && b.opcode = opcode then
      let s := { s with
        core := { s.core with proxy := none }
        hlnk := { s.hlnk with
          bg := some { b with running := false, percent := if st = St.ok then 100 else b.percent, ret := st.ret, st := st } } }
      s.postSt b.port opcode st payload
    else s
  | none => s

/-- A background command that is running at the first action of a crossing is abandoned (R169): reported at 0 %, Aborted. -/
def Dev.bgAbandon (s : Dev) : Dev :=
  match s.hlnk.bg with
  | some b =>
    if b.running then
      let s := { s with
        core := { s.core with proxy := none }
        hlnk := { s.hlnk with bg := some { b with running := false, percent := 0, ret := St.aborted.ret, st := .aborted } } }
      s.postSt b.port b.opcode .aborted []
    else s
  | none => s

end Sys2Proof.Machine
end

