-- ==== Sys2Proof/Machine/Events.lean ====
section
/-!
DEFINITION. CXL event records (R173), the Dirty Shutdown Count (R33), and the health that the mailbox reports (R172).
-/
namespace Sys2Proof.Machine

/-- The event logs, as CXL numbers them. -/
abbrev evInfo : Nat := 0
abbrev evWarn : Nat := 1
abbrev evFail : Nat := 2

/-- The kinds of record that the device writes: General Media, and Memory Module. -/
abbrev evMedia : Nat := 0
abbrev evModule : Nat := 1

/-- Set an element of a list that grows to hold it. -/
def setGrow (l : List Nat) (i v : Nat) : List Nat := (l ++ List.replicate (i + 1 - l.length) 0).set i v

/-- A record joins an LD's log; past 64 records the log's overflow count rises (R170). -/
def LdSt.record (l : LdSt) (log kind dpa ts : Nat) : LdSt :=
  let rs := l.logs.getD log []
  if rs.length < 64 then
    { l with logs := l.logs.set log (rs ++ [{ handle := l.nextHandle, kind := kind, dpa := dpa, ts := ts }])
             nextHandle := if l.nextHandle = 65535 then 1 else l.nextHandle + 1 }
  else
    let n := l.overflow.getD log 0
    { l with
      overflow := setGrow l.overflow log (satAdd 65535 n 1)
      ovfTimes := setGrow (if n = 0 then setGrow l.ovfTimes (2 * log) ts else l.ovfTimes) (2 * log + 1) ts }

/-- A log signals vector 1 where its policy asks for MSI-X (Table 7-4). -/
def LdSt.signals (l : LdSt) (log : Nat) : Bool := bitsOf l.intPolicy.toNat (8 * log) 2 = 1

/-- An event record enters the same log of every LD (R173). -/
def Dev.event (s : Dev) (log kind dpa : Nat) : Dev :=
  (List.finRange 16).foldl (fun s ld =>
    let s := s.modLd ld (fun l => l.record log kind dpa s.timestampNow)
    if (s.ld ld).signals log then s.signal ld 1 else s) s

/-- The Dirty Shutdown Count rises by 1 for a landing that lost acknowledged data, once (R33); PR2 block 0 keeps it. -/
def Dev.dirtyShutdown (s : Dev) : Dev :=
  if s.land.counted then s
  else
    let n := (s.hlnk.dsc + 1) % 2 ^ 32
    let s := { s with land := { s.land with counted := true }, hlnk := { s.hlnk with dsc := n } }
    (s.prMerge 2 0 0 (leBytes 4 n)).event evInfo evModule n

/-- A granule is poisoned under R30: one event, with the DPA of its first poisoned line (R173). Lines poisoned later, while POISON
stays set, belong to the same event. -/
def Dev.poisonEvent (s : Dev) (g : Nat) : Dev :=
  if s.gmap.poisonSaid.contains g then s
  else
    ({ s with gmap := { s.gmap with poisonSaid := insertN g s.gmap.poisonSaid } }).event evFail evMedia
      (G * g + 64 * ((s.granulePoison g).headD 0))

end Sys2Proof.Machine
end

