-- ==== Sys2Proof/Machine/CharterFmt.lean ====
section
/-!
DEFINITION. The charter's formats: header, sections, full verification and the conversion of the older versions (R287 to
R291), with the rules of each section's own chapter (R246, R289, R290, R332 to R337, R342, R348, R357, R375, R396).
-/
namespace Sys2Proof.Machine

/-! ### Header and sections -/

/-- A charter header that passed its check (R287). -/
structure ChHdr where
  ver : Nat
  fwSlot : Nat
  hdrLen : Nat
  seq : Nat
  length : Nat
  sections : Nat
  build : Bytes
  bodyCrc : Nat
  deriving DecidableEq, Repr

/-- The header check of R19 (R287): TAG, VERSION, HDR_LEN and HDR_CRC, in the layout of the version (Tables 12-4, 12-6). -/
def chHeader (b : Bytes) : Option ChHdr :=
  let ver := leAt b 4 1
  if leAt b 0 4 ≠ 0x54524843 then none
  else if ver = 1 then
    if leAt b 6 2 = 32 && leAt b 28 4 = crc32c (subBytes b 0 28) then
      some { ver := 1, fwSlot := leAt b 5 1, hdrLen := 32, seq := leAt b 8 4, length := leAt b 12 4,
             sections := leAt b 16 2, build := List.replicate 8 0, bodyCrc := leAt b 24 4 }
    else none
  else if 2 ≤ ver && ver ≤ 4 then
    if leAt b 6 2 = 64 && leAt b 60 4 = crc32c (subBytes b 0 60) then
      some { ver := ver, fwSlot := leAt b 5 1, hdrLen := 64, seq := leAt b 8 4, length := leAt b 12 4,
             sections := leAt b 16 2, build := subBytes b 20 8, bodyCrc := leAt b 56 4 }
    else none
  else none

/-- A section: its type, its format version and its payload. -/
structure Section where
  ty : Nat
  sver : Nat
  payload : Bytes
  deriving DecidableEq, Repr

/-- A length padded to a multiple of 8. -/
def pad8 (n : Nat) : Nat := (n + 7) / 8 * 8

/-- The sections of a body, with each section's CRC checked; none where one fails or the body does not end with the last
(R288). -/
def chSections : Nat → Bytes → Option (List Section)
  | 0, b => if b = [] then some [] else none
  | n + 1, b =>
    let len := leAt b 4 4
    if b.length < 16 + pad8 len then none
    else
      let body := (b.drop 16).take len
      if leAt b 8 4 = crc32c body then
        match chSections n (b.drop (16 + pad8 len)) with
        | some t => some ({ ty := leAt b 0 2, sver := leAt b 2 1, payload := body } :: t)
        | none => none
      else none

/-- The bytes of a section (R288). -/
def sectionBytes (x : Section) : Bytes :=
  leBytes 2 x.ty ++ leBytes 1 x.sver ++ [0] ++ leBytes 4 x.payload.length ++ leBytes 4 (crc32c x.payload) ++
    List.replicate 4 0 ++ x.payload ++ List.replicate (pad8 x.payload.length - x.payload.length) 0

/-- A whole charter in the version 0x04 layout (Table 12-4). -/
def charterBytes (fwSlot seq : Nat) (build : Bytes) (secs : List Section) : Bytes :=
  let body := secs.flatMap sectionBytes
  let hdr := leBytes 4 0x54524843 ++ leBytes 1 4 ++ leBytes 1 fwSlot ++ leBytes 2 64 ++ leBytes 4 seq ++
    leBytes 4 (64 + body.length) ++ leBytes 2 secs.length ++ [0, 0] ++ build ++ List.replicate 28 0 ++ leBytes 4 (crc32c body)
  hdr ++ leBytes 4 (crc32c hdr) ++ body

/-- The payload of a section. -/
def secOf (ty : Nat) (l : List Section) : Option Bytes := (l.find? (fun x => x.ty = ty)).map (·.payload)

/-- The section types a version has (Tables 12-5, 12-6), and the required ones. -/
def knownSections (ver : Nat) : List Nat :=
  [1, 2, 3, 4, 5, 6, 7] ++ (if 3 ≤ ver then [8] else []) ++ (if 4 ≤ ver then [9] else [])

/-- Numbers that rise strictly. -/
def rising : List Nat → Bool
  | [] => true
  | [_] => true
  | a :: b :: t => decide (a < b) && rising (b :: t)

/-! ### REGISTER_IMAGE (R289) -/

/-- The registers that a chapter says the charter loads. -/
def loadable : List Nat :=
  [Reg.CORE_POWER_TIMES, Reg.CORE_WDOG_CFG, Reg.HLNK_LINK_CTL, Reg.FAB_AVS, Reg.FAB_STALL_LIMIT, Reg.DCTL_CONFIG,
   Reg.DCTL_REFRESH, Reg.DCTL_RH, Reg.DCTL_TIMING0, Reg.DCTL_TIMING1, Reg.DCTL_TIMING2, Reg.DCTL_TRN_PERIODIC,
   Reg.DCTL_SR_CTL, Reg.DCTL_FREQ_REQ, Reg.GMAP_MAPDIRTY, Reg.GMAP_CKPT_CTL, Reg.FERY_CFG_MAX, Reg.FERY_ENERGY_SEED,
   Reg.FERY_ENERGY_FIXED, Reg.FERY_DERATE, Reg.FERY_ADMIT_THR, Reg.FERY_WEAR_BUDGET, Reg.FERY_WEAR_OVERDRAFT,
   Reg.XING_RESTORE_PRIO_BASE, Reg.XING_RESTORE_PRIO_LIMIT, Reg.XING_LAND_CTL, Reg.FLSH_XR_CAP, Reg.FLSH_SUSPEND,
   Reg.FLSH_RETIRE, Reg.FLSH_SPARE, Reg.BATT_RECHARGE, Reg.TWB_SB_TIMEOUT, Reg.TWB_PM_TIMEOUT, Reg.TWB_SV_TIMEOUT,
   Reg.LOG_CTL, Reg.UPD_TRIAL, Reg.UPD_IDLE]

/-- A value that its register rejects in whole, whoever writes it: the ranges that the register's own definition gives. -/
def valueRejected (off v : Nat) : Bool :=
  let f (lo w : Nat) := bitsOf v lo w
  if off = Reg.FERY_ADMIT_THR then
    !(decide (10 ≤ f 0 8) && decide (f 0 8 < f 8 8) && decide (f 8 8 < f 16 8) && decide (f 16 8 < f 24 8) &&
      decide (f 24 8 ≤ 99))
  else if off = Reg.FERY_SHARE then
    !(decide (1 ≤ f 16 8) && decide (1 ≤ f 0 8) && decide (f 0 8 ≤ f 8 8) && decide (f 8 8 ≤ 100))
  else if off = Reg.FERY_AGING then
    !(decide (1 ≤ f 0 12) && decide (1 ≤ f 16 4) && decide (f 16 4 ≤ f 24 4) && decide (f 24 4 ≤ 12))
  else if off = Reg.FERY_QUIET then !(decide (f 8 4 ≤ f 4 4) && decide (f 4 4 ≤ f 0 4))
  else if off = Reg.XING_LAND_CTL then
    !(decide (8 ≤ f 0 6) && decide (f 0 6 ≤ 48) && decide (1 ≤ f 8 4))
  else if off = Reg.FLSH_GC then
    !(decide (1 ≤ f 0 8) && decide (f 8 8 ≤ f 16 8) && decide (f 16 8 ≤ 90))
  else false

/-- The value of a register under an image: the image's entry, or the reset value. -/
def imageVal (img : List (Nat × Word)) (off : Nat) : Nat := ((lookupK off img).getD (regReset off)).toNat

/-- The entries of the image section; none where the length is no multiple of 8. -/
def imageEntries (b : Bytes) : Option (List (Nat × Word)) :=
  if b.length % 8 = 0 then
    some ((List.range (b.length / 8)).map (fun i => (leAt b (8 * i) 4, BitVec.ofNat 32 (leAt b (8 * i + 4) 4))))
  else none

/-- The rules of R289, with R236 for DCTL_FREQ_REQ. -/
def imageOk (img : List (Nat × Word)) : Bool :=
  rising (img.map (·.1)) &&
    img.all (fun e => loadable.contains e.1 && !valueRejected e.1 e.2.toNat &&
      (e.1 ≠ Reg.DCTL_FREQ_REQ ||
        (decide (bitsOf e.2.toNat 0 4 ≠ 0) && decide (bitsOf e.2.toNat 0 4 ≤ bitsOf (imageVal img Reg.DCTL_CONFIG) 4 4))))

/-! ### NAND_PROFILE (R246, Table 11-2) -/

/-- The profile of a 64-byte section; none where a field breaks its limit or the CRC is wrong. -/
def profileOf (b : Bytes) : Option Profile :=
  let f (a n : Nat) := leAt b a n
  if b.length = 64 && decide (f 2 1 ≤ 1) && decide (4 ≤ f 3 1) && decide (f 3 1 ≤ 36) && decide (1 ≤ f 4 1) &&
      decide (f 4 1 ≤ 8) && f 5 1 = 4 && decide (512 ≤ f 6 2) && decide (f 6 2 ≤ 4095) && f 8 2 % 3 = 0 &&
      decide (192 ≤ f 8 2) && decide (f 8 2 ≤ 2046) && decide (17664 ≤ f 10 2) && decide (16 ≤ f 12 1) &&
      decide (1 ≤ f 13 1) && decide (f 13 1 ≤ 15) && decide (f 14 1 ≤ 1) && decide (f 16 2 ≤ 45) && decide (f 18 2 ≤ 163) &&
      decide (f 20 2 ≤ 1966) && decide (f 22 2 ≤ 2000) && decide (f 24 1 ≤ 25) && f 25 1 = 0 && decide (500 ≤ f 26 2) &&
      decide (5000 ≤ f 28 2) && f 30 2 = 0 && f 48 12 = 0 && f 60 4 = crc32c (subBytes b 0 60) then
    some { id := f 0 2, toggle := f 2 1 = 1, rate := f 3 1, diesPerCh := f 4 1, planes := 4, blocks := f 6 2,
           tlcPages := f 8 2, pageBytes := f 10 2, spare := f 12 1, retryLevels := f 13 1, progSuspend := f 14 1 = 1,
           trMaxUs := f 16 2, tprogSlcUs := f 18 2, tprogTlcUs := f 20 2, tbersUs := 10 * f 22 2, tsuspUs := f 24 1,
           peTlc := f 26 2, peSlc := f 28 2, idMatch := subBytes b 32 16 }
  else none

/-! ### RAILS (R332, Table 14-1) -/

/-- A rail record, decoded from its 32 bytes. -/
def railOf (b : Bytes) : RailRec :=
  let f (a n : Nat) := leAt b a n
  let fl := f 1 1
  { populated := fl % 2 = 1, pm := fl / 2 % 2 = 1, vtrim := fl / 4 % 2 = 1, avs := fl / 8 % 2 = 1, link := fl / 16 % 2 = 1,
    role := f 2 1, nandCh := f 3 1, nomMv := f 4 2, warn := f 6 1, fault := f 7 1, dischMv := f 8 2, dischMs := f 10 2,
    rampMs := f 12 2, holdMs := f 14 2, depends := BitVec.ofNat 24 (f 16 3), pmAddr := f 19 1, enReg := f 20 1,
    enOn := f 21 1, enOff := f 22 1, statReg := f 23 1, statMask := f 24 1, voutReg := f 25 1, voutBase := f 26 2,
    voutStep := f 28 1, marginLimit := f 29 1, restartMax := f 30 1, sense := f 31 1 }

/-- The limits of Table 14-1 on one populated record. -/
def railLimits (r : RailRec) : Bool :=
  (!r.avs || (r.pm && r.vtrim)) && decide (r.role ≤ 3) &&
  (if r.role = 1 then decide (r.nandCh ≤ 15) else r.nandCh = 0xFF) &&
  decide (500 ≤ r.nomMv) && decide (r.nomMv ≤ 5000) && decide (10 ≤ r.warn) && decide (r.warn ≤ 80) &&
  decide (r.warn < r.fault) && decide (r.fault ≤ 100) && decide (4 * r.dischMv < r.nomMv) &&
  decide (1 ≤ r.dischMs) && decide (r.dischMs ≤ 10000) && decide (1 ≤ r.rampMs) && decide (r.rampMs ≤ 1000) &&
  (!r.vtrim || decide (1 ≤ r.voutStep)) && decide (r.marginLimit ≤ 60) && decide (r.restartMax ≤ 3) &&
  (decide (r.sense ≤ 23) || r.sense = 0xFF) && (!r.pm || decide (r.pmAddr ≤ 127))

/-- The rails that a set depends on, with the set: one round of DEPENDS. -/
def dependRound (rs : List RailRec) (m : BitVec 24) : BitVec 24 :=
  (List.range 24).foldl (fun acc k => if m.getLsbD k then acc ||| (rs.getD k RailRec.absent).depends else acc) m

/-- Every rail that a rail depends on, directly or through others. -/
def dependsAll (rs : List RailRec) (n : Nat) : BitVec 24 :=
  (List.range 24).foldl (fun m _ => dependRound rs m) (rs.getD n RailRec.absent).depends

/-- The sections's rules: header, positions, limits, one AVS rail, one rail per NAND channel, and no cycle. -/
def railsOf (b : Bytes) : Option (List RailRec) :=
  let recs := (List.range 24).map (fun k => subBytes b (4 + 32 * k) 32)
  let rs := recs.map railOf
  let pop := rs.filter (·.populated)
  let chans := (pop.filter (fun r => r.role = 1)).map (·.nandCh)
  if b.length = 772 && leAt b 0 1 = 24 && leAt b 1 1 = 1 && leAt b 2 2 = 0 &&
      (List.range 24).all (fun k => leAt (recs.getD k []) 0 1 = k && leAt (recs.getD k []) 1 1 / 32 = 0) &&
      pop.all railLimits && decide ((pop.filter (·.avs)).length ≤ 1) && chans.eraseDups.length = chans.length &&
      (List.range 24).all (fun k => !(dependsAll rs k).getLsbD k) then
    some rs
  else none

/-! ### TIMETABLES (R334 to R337, R348) -/

/-- OP, CP and RAIL of a step word (Table 14-4). -/
def stepOp (w : Nat) : Nat := bitsOf w 0 4
def stepCp (w : Nat) : Nat := bitsOf w 4 4
def stepRail (w : Nat) : Nat := bitsOf w 8 8
/-- FUNC of an ENABLE, TEST of a CHECK. -/
def stepFunc (w : Nat) : Nat := bitsOf w 16 2
/-- MV of a SETV. -/
def stepMv (w : Nat) : Nat := bitsOf w 32 16
/-- TICKS of a WAIT. -/
def stepTicks (w : Nat) : Nat := bitsOf w 16 32
/-- FAIL of a CHECK, TARGET of a JUMP. -/
def stepTarget (w : Nat) : Nat := bitsOf w 24 8
/-- COND of a JUMP. -/
def stepCond (w : Nat) : Nat := bitsOf w 16 4
/-- TIMEOUT of a CHECK. -/
def stepTimeout (w : Nat) : Nat := bitsOf w 32 24

/-- The field limits of Table 14-4 on step i of a `count`-step array (R335). -/
def stepOk (count i w : Nat) : Bool :=
  let z (lo n : Nat) : Bool := bitsOf w lo n = 0
  match stepOp w with
  | 1 => decide (stepRail w ≤ 23) && decide (stepFunc w ≤ 2) && z 18 14 && z 48 16
  | 2 => stepRail w = 0 && z 48 16
  | 3 => (decide (stepRail w ≤ 23) || stepRail w = 0xFF) && decide (stepFunc w ≤ 2) && z 18 6 && z 56 8 &&
      (stepTarget w = 0xFF || (decide (i < stepTarget w) && decide (stepTarget w < count)))
  | 4 => decide (stepRail w ≤ 23) && decide (stepCond w ≤ 4) && z 20 4 && z 32 32 && decide (i < stepTarget w) &&
      decide (stepTarget w < count)
  | 5 => stepRail w = 0 && z 16 48
  | _ => false

/-- The steps that step i can lead to. -/
def stepNext (i w : Nat) : List Nat :=
  match stepOp w with
  | 3 => if stepTarget w = 0xFF then [i + 1] else [i + 1, stepTarget w]
  | 4 => if stepCond w = 0 then [stepTarget w] else [i + 1, stepTarget w]
  | 5 => []
  | _ => [i + 1]

/-- The steps that a run from an entry can reach: every step leads forward (R335). -/
def reachFrom (steps : List Nat) (entry : Nat) : List Nat :=
  (List.range steps.length).foldl
    (fun r i => if r.contains i then (stepNext i (steps.getD i 0)).foldl (fun r j => insertN j r) r else r) [entry]

/-- The checkpoints that a list of steps marks, in order. -/
def marks (steps : List Nat) (reach : List Nat) : List Nat :=
  (reach.map (fun i => stepCp (steps.getD i 0))).filter (· ≠ 0)

/-- The step of a run that marks a checkpoint. -/
def markStep (steps : List Nat) (reach : List Nat) (cp : Nat) : Option Nat :=
  reach.find? (fun i => stepCp (steps.getD i 0) = cp)

/-- Three checkpoints stand in this order. -/
def inOrder (l : List Nat) (want : List Nat) : Bool := l.filter (fun c => want.contains c) = want

/-- R337: the rules that the charter is verified against. -/
def checkpointsOk (rs : List RailRec) (steps : List Nat) (upEntry downEntry : Nat) : Bool :=
  let up := reachFrom steps upEntry
  let down := reachFrom steps downEntry
  let mu := marks steps up
  let md := marks steps down
  let rec_ (n : Nat) := rs.getD n RailRec.absent
  let w (i : Nat) := steps.getD i 0
  let cpUp := (markStep steps up 3).getD 0
  let cpDown := (markStep steps down 3).getD 0
  let baseRail := stepRail (w cpUp)
  let base (n : Nat) : Bool := n = baseRail || (dependsAll rs baseRail).getLsbD n
  decide (mu.eraseDups.length = mu.length) && decide (md.eraseDups.length = md.length) &&
    mu.all (fun c => md.contains c) && md.all (fun c => mu.contains c) &&
    inOrder mu [3, 2, 1] && (inOrder md [1, 2, 3] || inOrder md [2, 1, 3]) &&
    down.all (fun i => !(decide (i < cpDown) && stepOp (w i) = 1 && stepFunc (w i) = 0 && (rec_ (stepRail (w i))).role ≠ 0)) &&
    (List.range 24).all (fun n => !((rec_ n).populated && (rec_ n).role ≠ 0) || base n ||
      up.any (fun i => decide (cpUp < i) && stepOp (w i) = 1 && stepFunc (w i) = 1 && stepRail (w i) = n))

/-- A step that a side program may hold (R348). -/
def sideOk (rs : List RailRec) (w : Nat) : Bool :=
  let r := rs.getD (stepRail w) RailRec.absent
  if stepOp w = 1 then
    if stepFunc w = 2 then
      r.populated && r.vtrim && decide (10000 * stepMv w ≤ 10600 * r.nomMv) && decide (9400 * r.nomMv ≤ 10000 * stepMv w)
    else r.role = 0
  else true

/-- The TIMETABLES section under a set of rail records; none where a rule fails. -/
def timetablesOf (rs : List RailRec) (b : Bytes) : Option Timetables :=
  let count := leAt b 0 2
  let steps := (List.range count).map (fun i => leAt b (72 + 8 * i) 8)
  let tt : Timetables := { upEntry := leAt b 2 1, downEntry := leAt b 3 1, bellRole := leAt b 4 1, barrierMs := leAt b 6 2,
                           bellMap := (List.range 64).map (fun k => leAt b (8 + k) 1), steps := steps }
  let inTable (entry : Nat) : Bool := decide (entry < count) && (reachFrom steps entry).all (fun i => decide (i < count))
  let runs := reachFrom steps tt.upEntry ++ reachFrom steps tt.downEntry
  let nominal (i : Nat) : Bool :=
    let w := steps.getD i 0
    !(stepOp w = 1 && stepFunc w = 2) || !(rs.getD (stepRail w) RailRec.absent).populated ||
      stepMv w = (rs.getD (stepRail w) RailRec.absent).nomMv
  if decide (1 ≤ count) && decide (count ≤ 256) && b.length = 72 + 8 * count && decide (tt.bellRole ≤ 2) && leAt b 5 1 = 0 &&
      decide (1000 ≤ tt.barrierMs) && decide (tt.barrierMs ≤ 60000) &&
      (List.range count).all (fun i => stepOk count i (steps.getD i 0)) &&
      inTable tt.upEntry && inTable tt.downEntry && runs.all nominal &&
      checkpointsOk rs steps tt.upEntry tt.downEntry &&
      (List.range 64).all (fun k =>
        let e := tt.bellMap.getD k 0xFF
        e = 0xFF || (decide (16 ≤ k) && inTable e && (reachFrom steps e).all (fun i => sideOk rs (steps.getD i 0)))) then
    some tt
  else none

/-! ### BATTERY (R357, Tables 15-1 and 15-2) -/

/-- A signed byte. -/
def sint8 (v : Nat) : Int := if v % 256 < 128 then (v % 256 : Int) else (v % 256 : Int) - 256

/-- A signed 32-bit value. -/
def sint32 (v : Nat) : Int := if v % 2 ^ 32 < 2 ^ 31 then (v % 2 ^ 32 : Int) else (v % 2 ^ 32 : Int) - 2 ^ 32

/-- The ID reference in mV: the pull-up of BATT_ID goes to 1.8 V (R447). -/
abbrev idRef : Nat := 1800

/-- A pack record decoded from its 128 bytes. -/
def packOf (b : Bytes) : PackRec :=
  let f (a n : Nat) := leAt b a n
  let tab (a n : Nat) := (List.range n).map (fun i => f (a + 2 * i) 2)
  { idMin := f 0 2, idMax := f 2 2, config := f 4 1, rated := f 6 2, eol := f 8 2, vCutoff := f 10 2, vChg := f 12 2,
    iChg := f 14 2, iTaper := f 16 2, taperS := f 18 2, iRest := f 20 2, iX := f 22 2, tChgMin := sint8 (f 24 1),
    tChgMax := sint8 (f 25 1), tGuard := f 26 1, socvMargin := f 27 1, ocv := tab 28 21, rLo := tab 70 6, rHi := tab 82 6,
    qRes := tab 94 6, vAvg := tab 106 6, gainErr := f 118 2, offsetErr := f 120 2, selfdis := f 122 2 }

/-- The limits of Table 15-2. -/
def packLimits (b : Bytes) (p : PackRec) : Bool :=
  let within (lo v hi : Nat) : Bool := decide (lo ≤ v) && decide (v ≤ hi)
  decide (p.idMin < p.idMax) && decide (100 * p.idMax < 95 * idRef) && decide (p.config ≤ 2) && leAt b 5 1 = 0 &&
  within 2500 p.rated 6000 && decide (p.rated ≤ 2 * p.eol) && decide (p.eol ≤ p.rated) && within 2500 p.vCutoff 3400 &&
  within 4000 p.vChg 4450 && within 100 p.iChg 6000 && decide (20 ≤ p.iTaper) && decide (4 * p.iTaper ≤ p.iChg) &&
  within 10 p.taperS 3600 && within 1 p.iRest 50 && decide (-10 ≤ p.tChgMin) && decide (p.tChgMin ≤ 20) &&
  decide (30 ≤ p.tChgMax) && decide (p.tChgMax ≤ 60) && decide (p.tGuard ≤ 20) && within 10 p.socvMargin 100 &&
  rising p.ocv && (List.range 6).all (fun i => decide (p.rLo.getD i 0 ≤ p.rHi.getD i 0)) && leAt b 124 4 = 0

/-- The BATTERY section; none where a rule fails. -/
def battOf (b : Bytes) : Option BattCfg :=
  let f (a n : Nat) := leAt b a n
  let n := f 0 1
  let raw := (List.range n).map (fun k => subBytes b (16 + 128 * k) 128)
  let recs := raw.map packOf
  let within (lo v hi : Nat) : Bool := decide (lo ≤ v) && decide (v ≤ hi)
  let apart (i j : Nat) : Bool :=
    match recs[i]?, recs[j]? with
    | some x, some y => decide (x.idMax < y.idMin) || decide (y.idMax < x.idMin)
    | _, _ => true
  if within 1 n 4 && f 1 1 = 1 && b.length = 16 + 128 * n && within 1000 (f 2 2) 20000 && within 1 (f 9 1) 255 &&
      within 3000 (f 10 2) 4500 && within 100 (f 12 2) 10000 && f 14 2 = 0 && decide (f 4 1 ≤ 127) &&
      (List.range n).all (fun k => packLimits (raw.getD k []) (packOf (raw.getD k []))) &&
      (List.range n).all (fun i => (List.range i).all (apart i)) then
    some { shunt := f 2 2, chgAddr := f 4 1, chgEnReg := f 5 1, chgOn := f 6 1, chgOff := f 7 1, ilimReg := f 8 1,
           ilimStep := f 9 1, ntcBeta := f 10 2, ntcR25 := f 12 2, recs := recs }
  else none

/-! ### TWB_DEVICES, AUTHORITY, LD_ALLOCATION, PROTECTED -/

/-- An entry of Table 16-2. -/
def twbDevOf (b : Bytes) : TwbDev :=
  let f (a n : Nat) := leAt b a n
  { port := f 0 1, addr := f 1 1, self := f 2 1 % 2 = 1, pec := f 2 1 / 2 % 2 = 1, fw := f 2 1 / 4 % 2 = 1, speed := f 3 1,
    stretch := f 4 1, regLo := f 5 1, regHi := f 6 1 }

/-- The TWB_DEVICES section (R375); none where a rule fails. -/
def twbOf (b : Bytes) : Option (List TwbDev) :=
  let n := leAt b 0 1
  let raw := (List.range n).map (fun k => subBytes b (4 + 8 * k) 8)
  let ds := raw.map twbDevOf
  let addrOk (a : Nat) : Bool := decide (8 ≤ a) && decide (a ≤ 0x77) && a ≠ 0x08 && a ≠ 0x0C && a ≠ 0x61
  let keys := ds.map (fun d => d.port * 256 + d.addr)
  if decide (3 ≤ n) && decide (n ≤ 32) && leAt b 1 1 = 1 && leAt b 2 2 = 0 && b.length = 4 + 8 * n &&
      raw.all (fun r => leAt r 2 1 / 8 = 0 && leAt r 7 1 = 0) &&
      ds.all (fun d => decide (d.port ≤ 2) && addrOk d.addr && !(d.self && d.fw) && decide (d.speed ≤ 2) &&
        decide (d.stretch ≤ 250) && decide (d.regLo ≤ d.regHi)) &&
      (List.range 3).all (fun p => (ds.filter (fun d => d.self && d.port = p)).length = 1) &&
      keys.eraseDups.length = keys.length then
    some ds
  else none

/-- An override is allowed: a grant on a G cell, a revoke on a W-r cell (R396). -/
def overrideOk (key action : Nat) : Bool :=
  let (h, c, _, _, _) := authRow (key / 2)
  let cell := if key % 2 = 0 then h else c
  (action = 1 && decide (cell = .g)) || (action = 2 && decide (cell = .wr))

/-- The AUTHORITY section (R396), as (ROW × 2 + WHO, ACTION); none where a rule fails. -/
def authOf (b : Bytes) : Option (List (Nat × Nat)) :=
  let n := leAt b 0 2
  let es := (List.range n).map (fun k => (leAt b (4 + 4 * k) 1 * 2 + leAt b (5 + 4 * k) 1, leAt b (6 + 4 * k) 1))
  if decide (n ≤ 64) && leAt b 2 1 = 1 && leAt b 3 1 = 0 && b.length = 4 + 4 * n &&
      (List.range n).all (fun k => decide (leAt b (5 + 4 * k) 1 ≤ 1) && leAt b (7 + 4 * k) 1 = 0) &&
      es.all (fun e => overrideOk e.1 e.2) &&
      es.eraseDups.length = es.length then
    some es
  else none

/-- LD_ALLOCATION (R290): the size of each LD in GiB, 0 where it is not enabled. -/
def ldsOf (hostGiB : Nat) (b : Bytes) : Option (List Nat) :=
  let w (n : Nat) := leAt b (4 * n) 4
  let size (n : Nat) := bitsOf (w n) 0 11
  let en (n : Nat) : Bool := bitsOf (w n) 31 1 = 1
  if b.length = 64 && (List.range 16).all (fun n => bitsOf (w n) 11 20 = 0 && (en n || size n = 0)) && en 0 &&
      decide (((List.range 16).map size).sum ≤ hostGiB) then
    some ((List.range 16).map size)
  else none

/-- PROTECTED (R290): the flags of PR3 and PR4. -/
def protOf (b : Bytes) : Option (Bool × Bool) :=
  if b.length = 8 && decide (leAt b 0 1 ≤ 1) && decide (leAt b 1 1 ≤ 1) && leAt b 2 6 = 0 then
    some (leAt b 0 1 = 1, leAt b 1 1 = 1)
  else none

/-! ### Full verification -/

/-- bytes of R117, in bytes to write from T0 to COMMIT. -/
def crossBytes (d m installed p : Nat) : Nat := d + d / 2048 + 16384 * m + installed / 4194304 + 4 * p

/-- R342: a rail's HOLD_MS is not below t_max of R117, with r_x = 375 MB/s for each of the profile's dies. -/
def holdOk (img : List (Nat × Word)) (p : Profile) (r : RailRec) : Bool :=
  let d := min 1024 (bitsOf (imageVal img Reg.FERY_CFG_MAX) 0 11) * 2 ^ 30
  let m := clampN 256 8192 (bitsOf (imageVal img Reg.GMAP_MAPDIRTY) 16 16)
  let bytes := crossBytes d m (installedOf (imageVal img Reg.DCTL_CONFIG) * 2 ^ 30) 1048576
  decide (bytes * 10 ^ 5 + 105 * (375 * 10 ^ 6 * (16 * p.diesPerCh)) ≤ r.holdMs * 100 * (375 * 10 ^ 6 * (16 * p.diesPerCh)))

/-- The section payloads as a charter, under every rule of full verification (R287). -/
def charterOf (raw : Bytes) (fwSlot seq : Nat) (l : List Section) : Option Charter := do
  let img ← imageEntries (← secOf 1 l)
  let prof ← profileOf (← secOf 2 l)
  let rails ← railsOf (← secOf 4 l)
  let tt ← timetablesOf rails (← secOf 3 l)
  let twb ← twbOf (← secOf 6 l)
  let batt ← match secOf 5 l with
    | some b => (battOf b).map some
    | none => some none
  let auth ← match secOf 7 l with
    | some b => authOf b
    | none => some []
  let lds ← ldsOf (installedOf (imageVal img Reg.DCTL_CONFIG) - 1) (← secOf 8 l)
  let prot ← protOf (← secOf 9 l)
  let onPm (a : Nat) : Bool := twb.any (fun d => d.port = 1 && !d.self && d.addr = a)
  if imageOk img && rails.all (fun r => !r.populated || !r.pm || onPm r.pmAddr) &&
      rails.all (fun r => !r.populated || decide (r.role ≤ 1) || holdOk img prof r) &&
      (match batt with | some c => onPm c.chgAddr | none => true) && decide (fwSlot ≤ 1) then
    some { raw := raw, fwSlot := fwSlot, seq := seq, image := img, profile := prof, tt := tt, rails := rails,
           batt := batt, twb := twb, auth := auth, lds := lds, pwPr3 := prot.1, pwPr4 := prot.2 }
  else none

/-- The default sections that an older version lacks (R291, Table 12-6): LD 0 takes the host-visible capacity, and no
passwords. -/
def defaultSections (ver : Nat) (hostGiB : Nat) : List Section :=
  (if ver ≤ 2 then
    [({ ty := 8, sver := 1, payload := leBytes 4 (0x80000000 + hostGiB) ++ List.replicate 60 0 } : Section)] else []) ++
  (if ver ≤ 3 then [({ ty := 9, sver := 1, payload := List.replicate 8 0 } : Section)] else [])

/-- Full verification of a slot's bytes, and the conversion of an older version (R287, R291). The second part is the charter
that the device runs from. -/
def verifyCharter (b : Bytes) : Option (ChHdr × Charter) := do
  let h ← chHeader b
  let body := (b.take h.length).drop h.hdrLen
  if !(decide (h.hdrLen ≤ h.length) && decide (h.length ≤ 524288) && decide (h.length ≤ b.length) && crc32c body = h.bodyCrc) then
    none
  else
    let secs ← chSections h.sections body
    if !(rising (secs.map (·.ty)) && secs.all (fun x => (knownSections h.ver).contains x.ty) &&
        [1, 2, 3, 4, 6].all (fun t => secs.any (fun x => x.ty = t))) then none
    else
      let img ← imageEntries (← secOf 1 secs)
      let host := installedOf (imageVal img Reg.DCTL_CONFIG) - 1
      let absent (l : List Section) : List Section := l ++
        (if l.any (fun x => x.ty = 8) then [] else (defaultSections 2 host).take 1) ++
        (if l.any (fun x => x.ty = 9) then [] else defaultSections 3 host)
      if h.ver = 4 then return (h, ← charterOf (b.take h.length) h.fwSlot h.seq (absent secs))
      else
        let all := secs ++ defaultSections h.ver host
        let seq := (h.seq + 1) % 2 ^ 32
        let raw := charterBytes h.fwSlot seq h.build all
        if decide (524288 < raw.length) then none else return (h, ← charterOf raw h.fwSlot seq (absent all))

/-- The base of a charter slot (Table 12-2). -/
def charterBase (slot : Bool) : Nat := if slot then 0x110000 else 0x10000

/-- What a NOR byte that nothing has written reads as: the erased value. -/
abbrev norByte : Byte := 0xFF

/-- NOR bytes. -/
def Dev.norBytes (s : Dev) (a n : Nat) : Bytes := Memory.readBytes norByte s.nor a n

/-- The header of a slot. -/
def Dev.slotHeader (s : Dev) (slot : Bool) : Option ChHdr := chHeader (s.norBytes (charterBase slot) 64)

/-- The charter of a slot, where it passes full verification. -/
def Dev.slotCharter (s : Dev) (slot : Bool) : Option (ChHdr × Charter) :=
  match s.slotHeader slot with
  | some h => verifyCharter (s.norBytes (charterBase slot) (min h.length 1048576))
  | none => none

end Sys2Proof.Machine
end

