-- ==== Sys2Proof/Machine/Fab.lean ====
section
/-!
DEFINITION. The fabric and the tide gauge (chapter 8): TIDE_WINDOW, AVS_STEP, FAB_STALL's record and TIDE_EXTREMES_CLEAR.
-/
namespace Sys2Proof.Machine

/-- The length of a tide-gauge window in ticks (FAB_TIDE_CTL.WINDOW: below 25 acts as 25). -/
def Dev.tideWindow (s : Dev) : Nat := max 25 (s.regF Reg.FAB_TIDE_CTL 0 12)

/-- speed_n of R186: cal_n is for a window of 250 ticks and is scaled to the window. With cal_n 0 the formula names no value:
a free one (assumption 10). -/
def Dev.gaugeSpeed (s : Dev) (n count : Nat) : Nat :=
  let cal := s.regF (Reg.FAB_TIDE_CAL + 4 * n) 0 16
  if cal = 0 then Config.freeValue s.freeCtr % 4096 else min (count * 1024 * 250 / (cal * s.tideWindow)) 4095

/-- Draw a free value: the next one is another. -/
def Dev.drew (s : Dev) : Dev := { s with freeCtr := s.freeCtr + 1 }

/-- A fabric event's record: FAB_STALL and FAB_TIDE (Table 18-4). -/
def Dev.logFab (s : Dev) (ty : Nat) : Dev := s.logStd ty (s.regN Reg.FAB_STALL) (s.regN Reg.FAB_TIDE)

/-- A tide-gauge window ends: the gauges, FAB_TIDE, the extremes and the alert (R186, R195, Table 8-5). With the main segment
down there is no window (R194). -/
def tideWindow (counts : List Nat) (s : Dev) : Dev :=
  if !s.mainUp then s
  else
    let speeds := (List.range 5).map (fun n => s.gaugeSpeed n (counts.getD n 0))
    let s := (List.range 5).foldl (fun s n => s.setRegN (Reg.FAB_TIDE_GAUGE + 4 * n)
      (speeds.getD n 0 + fieldAt 16 16 (min 65535 (counts.getD n 0)))) s.drew
    let speed := speeds.foldl min 4095
    let slowest := (List.range 5).find? (fun n => speeds.getD n 0 = speed)
    let updates := (s.regF Reg.FAB_TIDE 16 16 + 1) % 65536
    let s := s.setRegN Reg.FAB_TIDE (speed + fieldAt 12 3 (slowest.getD 0) + fieldAt 15 1 1 + fieldAt 16 16 updates)
    let s := s.setRegF Reg.FAB_TIDE_EXTREMES 0 12 (min speed (s.regF Reg.FAB_TIDE_EXTREMES 0 12))
    let s := s.setRegF Reg.FAB_TIDE_EXTREMES 16 12 (max speed (s.regF Reg.FAB_TIDE_EXTREMES 16 12))
    let alert := s.regF Reg.FAB_TIDE_CTL 16 12
    if speed < alert then ((s.latch Reg.FAB_ERR 1).logFab LT.FAB_SLOW) else s

/-- The core rail: the populated rail whose record has AVS (Table 14-1). -/
def Dev.avsRail (s : Dev) : Option Nat :=
  match s.charter with
  | some c => (List.range 24).find? (fun n => match c.rails[n]? with | some r => r.populated && r.avs | none => false)
  | none => none

/-- The rail record of a channel. -/
def Dev.railRec (s : Dev) (n : Nat) : RailRec :=
  match s.charter with
  | some c => c.rails.getD n RailRec.absent
  | none => RailRec.absent

/-- The state of a rail channel. -/
def Dev.rail (s : Dev) (n : Nat) : Rail := s.seq.rails.getD n Rail.reset

/-- Change the state of a rail channel. -/
def Dev.modRail (s : Dev) (n : Nat) (f : Rail → Rail) : Dev :=
  { s with seq := { s.seq with rails := s.seq.rails.set n (f (s.rail n)) } }

/-- A margin is applied to the core rail (R190, R345). -/
def Dev.avsMargined (s : Dev) : Bool :=
  match s.avsRail with
  | some n => (s.rail n).margin.isSome
  | none => false

/-- Queue a PM transfer of the sequencer or the battery estimator. While the bus is FAILED it completes at once as a failure
(R378), which the caller sees when it ends. -/
def Dev.pmQueue (s : Dev) (w : PmFor) : Dev := { s with twb := { s.twb with pm := s.twb.pm ++ [.unit w 0] } }

/-- Request a core-rail voltage (R190, FAB_AVS_STATUS): the rail's target follows the request (R341). -/
def Dev.requestCore (s : Dev) (mv : Nat) : Dev :=
  let steps := (s.regF Reg.FAB_AVS_STATUS 16 16 + 1) % 65536
  let s := s.setRegN Reg.FAB_AVS_STATUS
    (mv + fieldAt 10 1 (b2n (mv = 700)) + fieldAt 11 1 (b2n (mv = 800)) + fieldAt 16 16 steps)
  match s.avsRail with
  | some n => (s.modRail n (fun r => { r with target := mv })).pmQueue .avs
  | none => s

/-- The adaptive loop's step of every 1 ms (R190). A bad calibration row holds the rail at 0.80 V as if EN were 0 (R293); a
margin on the core rail suspends the loop (R345); without a reading of this power-up there is no step. -/
def avsStep (s : Dev) : Dev :=
  if !s.mainUp || s.avsMargined || s.regF Reg.FAB_TIDE 15 1 = 0 then s
  else
    let mv := s.regF Reg.FAB_AVS_STATUS 0 10
    if s.regF Reg.FAB_AVS 31 1 = 0 || !s.chtr.calValid then (if mv = 800 then s else (s.requestCore 800))
    else
      let speed := s.regF Reg.FAB_TIDE 0 12
      let target := clampN 768 1100 (s.regF Reg.FAB_AVS 0 12)
      let hyst := s.regF Reg.FAB_AVS 12 8
      if speed < target then
        if mv < 800 then (s.requestCore (mv + 5))
        else ((s.latch Reg.FAB_ERR 2).logFab LT.FAB_AVS_LIMIT)
      else if target + hyst < speed && 700 < mv then (s.requestCore (mv - 5))
      else s

/-- The record of a stalled handshake phase (R193, FAB_STALL). -/
def Dev.recordStall (s : Dev) (port phase : Nat) : Dev :=
  let count := min 65535 (s.regF Reg.FAB_STALL 16 16 + 1)
  let s := (s.latch Reg.FAB_ERR 0).setRegN Reg.FAB_STALL (port + fieldAt 4 2 phase + fieldAt 16 16 count)
  s.logFab LT.FAB_STALL

/-- A write of FAB_TIDE_EXTREMES: 1 to CLEAR sets MIN to 0xFFF and MAX to 0 (R195). -/
def tideExtremesClear (src : Src) (s : Dev) : Dev :=
  (s.guarded src Reg.FAB_TIDE_EXTREMES (fun s => (s.setRegN Reg.FAB_TIDE_EXTREMES 0xFFF).writeStatus src .ok))

end Sys2Proof.Machine
end

