-- ==== Sys2Proof/Machine/RegStore.lean ====
section
/-!
DEFINITION. What a write stores in a register (R3, R6, R7): the field types of RegTable.lean, the ranges that a field's own
definition clamps to, and the registers of the main segment at power-up (R289, R468).
-/
namespace Sys2Proof.Machine

/-- The fields that are clamped to a range: offset, low bit, width, least and greatest value, each as its register's table
gives it. -/
def clampFields : List (Nat × Nat × Nat × Nat × Nat) :=
  [(Reg.FERY_ENERGY_SEED, 0, 16, 1000, 20000), (Reg.FERY_DERATE, 0, 10, 500, 950), (Reg.GMAP_MAPDIRTY, 16, 16, 256, 8192),
   (Reg.FERY_SWEEP, 0, 16, 50, 10000), (Reg.FAB_AVS, 0, 12, 768, 1100), (Reg.DCTL_REFRESH, 0, 16, 1950, 3900),
   (Reg.DCTL_RH, 0, 16, 64, 32768), (Reg.DCTL_TRN_PERIODIC, 0, 16, 10, 10000), (Reg.FLSH_XR_CAP, 0, 11, 16, 1024),
   (Reg.FLSH_SUSPEND, 0, 8, 20, 40), (Reg.FLSH_GROUP, 0, 12, 100, 2000), (Reg.SEQ_BELL_CTL, 16, 16, 1000, 60000),
   (Reg.BATT_RECHARGE, 0, 7, 50, 99), (Reg.BATT_RECHARGE, 8, 8, 10, 200), (Reg.TWB_SB_TIMEOUT, 0, 16, 100, 35000),
   (Reg.TWB_PM_TIMEOUT, 0, 16, 100, 35000), (Reg.TWB_SV_TIMEOUT, 0, 16, 100, 35000), (Reg.CORE_WDOG_CFG, 0, 14, 10, 10000),
   (Reg.UPD_IDLE, 0, 10, 1, 720)]

/-- Clamp the fields of a register. -/
def clampReg (off v : Nat) : Nat :=
  clampFields.foldl
    (fun v c => if c.1 = off then v - fieldAt c.2.1 c.2.2.1 (bitsOf v c.2.1 c.2.2.1) +
        fieldAt c.2.1 c.2.2.1 (clampN c.2.2.2.1 c.2.2.2.2 (bitsOf v c.2.1 c.2.2.1)) else v) v

/-- What a register holds after a write of `v` (R7): the RW fields take the value, and the RWL fields unless the charter lock
is set (R22); W1C bits written with 1 clear. -/
def written (r : RegRow) (locked : Bool) (off old v : Nat) : Nat :=
  let mask := r.rw ||| (if locked then 0 else r.rwl)
  clampReg off (((old &&& (0xFFFFFFFF ^^^ mask)) ||| (v &&& mask)) &&& (0xFFFFFFFF ^^^ (v &&& r.w1c)))

/-- Store a write. -/
def Dev.storeReg (s : Dev) (off : Nat) (v : Word) : Dev :=
  match regRow off with
  | some r => s.setRegN off (written r s.core.locked off (s.regN off) v.toNat)
  | none => s

/-- Write a REGISTER_IMAGE entry: the charter lock does not bind it (R22, R289). -/
def Dev.imageEntry (s : Dev) (e : Nat × Word) : Dev :=
  match regRow e.1 with
  | some r => s.setRegN e.1 (written r false e.1 (s.regN e.1) e.2.toNat)
  | none => s

/-- The block of an offset is in the main segment (Table 1-1, R182). -/
def inMain (off : Nat) : Bool := (1 ≤ off / 0x10000 && off / 0x10000 ≤ 7) || off / 0x10000 = 9

/-- The ROS bits of a register survive, the rest returns to reset (R466, R468). -/
def keepRos (e : Nat × Word) : Option (Nat × Word) :=
  match regRow e.1 with
  | some r =>
    let v := BitVec.ofNat 32 ((e.2.toNat &&& r.ros) ||| (r.reset &&& (0xFFFFFFFF ^^^ r.ros)))
    if v = regReset e.1 then none else some (e.1, v)
  | none => none

/-- The registers that a condition picks return to reset, ROS fields apart. -/
def Dev.resetRegs (s : Dev) (p : Nat → Bool) : Dev :=
  { s with regs := s.regs.filterMap (fun e => if p e.1 then keepRos e else some e) }

/-- REGISTER_IMAGE names a value for FERY_ENERGY_SEED. -/
def Dev.seedNamed (s : Dev) : Bool :=
  match s.charter with
  | some c => c.image.any (fun e => decide (e.1 = Reg.FERY_ENERGY_SEED))
  | none => false

/-- The typed state of the main segment's blocks at its reset values (R468): the map, the ferry engine, the crossing machine and
the cipher engine. The write sequence goes on (R61), and so does the list of blocks that need a new epoch (R309); k starts from
the seed once it is loaded (FERY_ENERGY_K). -/
def Dev.mainTyped (s : Dev) : Dev :=
  { s with
    gmap := GmapSt.reset
    fery := { FerySt.reset with wseq := s.fery.wseq, nextCopy := s.fery.nextCopy }
    xing := XingSt.reset
    ciph := { CiphSt.reset with damaged := s.ciph.damaged } }

/-- The main segment is raised: its registers start at their reset values, then REGISTER_IMAGE is written, the default
seed of the installed DRAM where the image names none (Table 2-3), and the tide-gauge calibration as the charter load read it (R289, R293, R468). -/
def Dev.mainRegs (s : Dev) : Dev :=
  let s := (s.resetRegs inMain).mainTyped
  let s := match s.charter with
    | some c => (c.image.filter (fun (e : Nat × Word) => inMain e.1)).foldl Dev.imageEntry s
    | none => s
  let s := if s.seedNamed then s else s.setRegF Reg.FERY_ENERGY_SEED 0 16 (2400 + 800 * s.installedGiB / 1024)
  let s := { s with fery := { s.fery with k := clampN 1000 20000 (s.regF Reg.FERY_ENERGY_SEED 0 16) } }
  (List.range 5).foldl (fun s n =>
    s.setRegN (Reg.FAB_TIDE_CAL + 4 * n) (if s.chtr.calValid then leAt s.chtr.cal (24 + 2 * n) 2 else 8192)) s

end Sys2Proof.Machine
end

