-- ==== Sys2Proof/Machine/Seq.lean ====
section
/-!
DEFINITION. The power sequencer (chapter 14): rails, supervision and restarts, the timetable runs of Table 14-5, margins, the
bell line, and the first-failure record.
-/
namespace Sys2Proof.Machine

/-- Change the sequencer's state. -/
def Dev.modSeq (s : Dev) (f : SeqSt → SeqSt) : Dev := { s with seq := f s.seq }

/-- The rail records in force. -/
def Dev.railRecs (s : Dev) : List RailRec := match s.charter with | some c => c.rails | none => []

/-- The step words in force. -/
def Dev.steps (s : Dev) : List Nat := match s.charter with | some c => c.tt.steps | none => []

/-- UP_ENTRY or DOWN_ENTRY. -/
def Dev.entryOf (s : Dev) (up : Bool) : Nat :=
  match s.charter with | some c => if up then c.tt.upEntry else c.tt.downEntry | none => 0

/-- Supervision of DRAM and PATH rails leaves the fault to the sequencer (R342). -/
def Dev.idleMode (s : Dev) : Bool :=
  s.core.mode = .standby || s.core.mode = .recovery || s.core.mode = .unpowered

/-- A persistence-critical rail (R333). -/
def RailRec.critical (r : RailRec) : Bool := decide (2 ≤ r.role)

/-- The state code of a rail (SEQ_RAIL). -/
def RailState.code : RailState → Nat
  | .off => 0 | .ramp => 1 | .on => 2 | .disch => 3 | .stuck => 4 | .lockout => 5

/-- The rails that are ON, as a mask. -/
def Dev.railsOn (s : Dev) : Nat :=
  (List.range 24).foldl (fun m n => if (s.rail n).st = .on then m + 2 ^ n else m) 0

/-- A sensed voltage lies within a half-window, in 0.1 % of the target (R341). -/
def inWindow (mv target win : Nat) : Bool := decide (target * (1000 - win) ≤ mv * 1000) && decide (mv * 1000 ≤ target * (1000 + win))

/-- Rails that depend on a rail, directly or through others. -/
def Dev.dependants (s : Dev) (n : Nat) : List Nat :=
  (List.range 24).filter (fun k => (s.railRec k).populated && (dependsAll s.railRecs k).getLsbD n)

/-- How many rails a rail depends on: a rail lies deeper than each of those. -/
def depth (rs : List RailRec) (n : Nat) : Nat := (List.range 24).countP (fun k => (dependsAll rs n).getLsbD k)

/-- Rails in dependency order, the least deep first. -/
def byDepth (rs : List RailRec) (l : List Nat) : List Nat :=
  (List.range 25).flatMap (fun d => l.filter (fun n => depth rs n = d))

/-- A rail is locked out, or depends on one that is (R336). -/
def Dev.railBarred (s : Dev) (n : Nat) : Bool :=
  (s.rail n).st = .lockout ||
    (List.range 24).any (fun k => (dependsAll s.railRecs n).getLsbD k && (s.rail k).st = .lockout)

/-! ### First-failure record (R350) -/

/-- SEQ_BELL_STATUS (R354). -/
def Dev.bellStatus (s : Dev) : Nat :=
  (s.seq.bellLast.getD 0) % 64 + fieldAt 6 1 (b2n s.seq.bellLast.isSome) + fieldAt 8 6 s.seq.bellCur +
    fieldAt 14 2 s.seq.bellPhase + fieldAt 16 1 (b2n s.seq.bellFailed) + fieldAt 17 1 (b2n s.seq.bellClaimed)

/-- An LT_RAIL_FAIL record (Table 14-10); the first since AUX_ON is latched in SEQ_FF. -/
def Dev.railFail (s : Dev) (rail kind : Nat) : Dev :=
  let r := s.rail rail
  let first := !s.seq.firstHeld
  let flags := b2n first + fieldAt 1 1 (b2n (s.core.mode = .save)) + fieldAt 2 1 (b2n r.margin.isSome)
  let step := if s.seq.run = 0 then 0xFF else s.seq.step
  let ticks := (s.ticks - s.log.auxTick) % 25000000
  let p := leBytes 1 rail ++ leBytes 1 kind ++ leBytes 1 flags ++ leBytes 1 (s.railRec rail).role ++ leBytes 2 r.mv ++
    leBytes 2 r.target ++ leBytes 1 step ++ leBytes 1 (s.seq.bellLast.getD 0) ++ leBytes 4 ticks ++
    leBytes 3 s.railsOn ++ List.replicate 3 0
  let s := if first then
      let s := s.modSeq (fun q => { q with firstHeld := true })
      let s := (s.setRegN Reg.SEQ_FF (leAt p 0 4)).setRegN (Reg.SEQ_FF + 4) (leAt p 4 4)
      let s := (s.setRegN (Reg.SEQ_FF + 8) ticks).setRegN (Reg.SEQ_FF + 12) (leAt p 8 2 + fieldAt 31 1 1)
      (s.setRegN (Reg.SEQ_FF + 16) s.opSeconds).setRegN (Reg.SEQ_FF + 20) s.log.cycles
    else s
  s.logEvent LT.RAIL_FAIL p

/-- Raise RAIL_CRIT, once per excursion (R342). -/
def Dev.raiseCrit (s : Dev) (n : Nat) : Dev :=
  if (s.rail n).crit then s
  else
    let s := (s.modRail n (fun r => { r with crit := true })).latch Reg.SEQ_ERR 2
    (s.setReg Reg.SEQ_RAIL_WARNED (s.reg Reg.SEQ_RAIL_WARNED ||| (1#32 <<< n))).note (.mode .railCrit)

/-! ### Enables, disables and faults -/

/-- The enable takes effect: the pin is driven, or the regulator written on PM (R331). The core rail starts each power-up at
0.80 V (R190). -/
def Dev.railEnable (s : Dev) (n : Nat) : Dev :=
  let s := if (s.railRec n).avs then s.modRail n (fun r => { r with target := 800 }) else s
  let s := s.modRail n (fun r => { r with st := .ramp, held := false, inWin := 0, outWarn := 0, outFault := 0, pmBad := false,
                                          pmGood := false, crit := false })
  if (s.railRec n).pm then s.pmQueue (.enable n) else s

/-- Ask for an enable: held while the rail discharges or is stuck (R340, R344). -/
def Dev.railAsk (s : Dev) (n : Nat) : Dev :=
  match (s.rail n).st with
  | .off => s.railEnable n
  | .disch => s.modRail n (fun r => { r with held := true })
  | .stuck => s.modRail n (fun r => { r with held := true })
  | _ => s

/-- Disable a raised rail (Table 14-7). -/
def Dev.railDisable (s : Dev) (n : Nat) : Dev :=
  match (s.rail n).st with
  | .ramp | .on =>
    let s := s.modRail n (fun r => { r with st := .disch, held := false, inWin := 0, outWarn := 0, outFault := 0, pmGood := false })
    if (s.railRec n).pm then s.pmQueue (.disable n) else s
  | _ => s.modRail n (fun r => { r with held := false })

/-- A rail counts as quiet (R336, R344). -/
def Dev.railQuiet (s : Dev) (n : Nat) : Bool :=
  (s.rail n).st = .off || (s.rail n).st = .stuck || (s.rail n).st = .lockout || !(s.railRec n).populated

/-- R343: the failed rail with its dependants goes down, its functions fall, and it is restarted or locked out. A restart that the
rail was part of is taken over: what it had still to enable follows the new one; only dependants of a rail that is locked out stay
off (DEDUCED: assumption 116). -/
def Dev.railDrop (s : Dev) (n : Nat) : Dev :=
  let rec_ := s.railRec n
  let down := (byDepth s.railRecs (s.dependants n)).filter (fun k => (s.rail k).st = .ramp || (s.rail k).st = .on)
  let s := (s.latch Reg.SEQ_ERR 1).setReg Reg.SEQ_RAIL_FAULTED (s.reg Reg.SEQ_RAIL_FAULTED ||| (1#32 <<< n))
  let s := if s.core.mode = .save && rec_.role = 0 then s.latch Reg.XING_ERR 4 else s
  let s := (down.reverse ++ [n]).foldl (fun s k => s.railDisable k) s
  let s := (n :: down).foldl (fun s k => if (s.railRec k).link then s.note .linkRail else s) s
  let s := (n :: down).foldl (fun s k => if (s.railRec k).role = 1 then s.note (.nandRail (s.railRec k).nandCh) else s) s
  let rest := ((s.seq.restarts.filter (fun r => r.rails.contains n)).flatMap (fun r => r.rails)).filter (fun k => k ≠ n && !down.contains k)
  let s := s.modSeq (fun q => { q with restarts := q.restarts.filter (fun r => !r.rails.contains n) })
  if rec_.restartMax ≤ (s.rail n).restarts then
    let s := (s.modRail n (fun r => { r with st := .lockout, held := false })).latch Reg.SEQ_ERR 4
    let free := rest.filter (fun k => !(s.dependants n).contains k)
    let s := if free.isEmpty || s.core.mode = .save then s
      else s.modSeq (fun q => { q with restarts := q.restarts ++ [{ rails := free, ramping := true }] })
    let s := match free with | k :: _ => if s.core.mode = Mode.save then s else s.railAsk k | [] => s
    s.railFail n 7
  else if s.core.mode = .save then s
  else s.modSeq (fun q => { q with restarts := q.restarts ++ [{ rails := n :: byDepth s.railRecs (down ++ rest), ramping := false }] })

/-- A fault on a rail (R342, R343): kind 1 to 4 of Table 14-10. -/
def Dev.railFault (s : Dev) (n kind : Nat) : Dev :=
  let s := s.railFail n kind
  let s := if (s.railRec n).critical && !s.idleMode then s.raiseCrit n else s.railDrop n
  if (s.railRec n).role = 3 && kind ≤ 2 then s.note .pathOut else s

/-! ### Margins (R345) -/

/-- The VOUT code voltage nearest to a target, toward NOM_MV, in 0.1 mV. -/
def voutToward (r : RailRec) (offset : Int) : Nat :=
  let step := max 1 r.voutStep
  let base := 10 * r.voutBase
  let ask := (r.nomMv : Int) * (10000 + offset)          -- in 0.1 mV × 1000
  let above := (ask - 1000 * base)
  if offset < 0 then base + ((above + (1000 * step - 1 : Int)) / (1000 * step : Int)).toNat * step
  else base + (above / (1000 * step : Int)).toNat * step

/-- The offset that a target gives, in 0.01 % of NOM_MV, rounded toward 0. -/
def appliedOf (r : RailRec) (target10 : Nat) : Int := Int.tdiv (((target10 : Int) - 10 * r.nomMv) * 1000) (r.nomMv : Int)

/-- A margin ends: SETV back to the rail's unmargined target. -/
def Dev.marginEnd (s : Dev) (n : Nat) : Dev :=
  match (s.rail n).margin with
  | some (_, back) => (s.modRail n (fun r => { r with margin := none, target := back })).pmQueue (.margin n)
  | none => s

/-- Every margin ends: MAINT_EXIT, the first action of a crossing, or a down run (R345); APPLIED then reads 0. -/
def Dev.marginsEnd (s : Dev) : Dev :=
  ((List.range 24).foldl Dev.marginEnd s).modSeq (fun q => { q with marginApplied := 0 })

/-- Apply an accepted offset. -/
def Dev.marginApply (s : Dev) (n : Nat) (offset : Int) : Dev :=
  let rec_ := s.railRec n
  let lim : Int := 10 * rec_.marginLimit
  let off := max (-lim) (min lim offset)
  if offset = 0 then (s.marginEnd n).modSeq (fun q => { q with marginApplied := 0 })
  else
    let t := voutToward rec_ off
    let back := match (s.rail n).margin with | some (_, b) => b | none => (s.rail n).target
    let s := s.modRail n (fun r => { r with margin := some (appliedOf rec_ t, back), target := t / 10 })
    (s.pmQueue (.margin n)).modSeq (fun q => { q with marginApplied := appliedOf rec_ t })

/-- A margin request of KX_MARGIN or SEQ_MARGIN (R345): the state, the ST_ code and APPLIED. -/
def Dev.marginAsk (s : Dev) (n : Nat) (offset : Int) : Dev × St :=
  let refused (st : St) : Dev × St := ((s.latch Reg.SEQ_ERR 5).modSeq (fun q => { q with marginStatus := st.code }), st)
  if s.core.mode ≠ .maintenance then refused .wrongMode
  else if offset < -600 || 600 < offset || 24 ≤ n || !(s.railRec n).populated || !(s.railRec n).vtrim then refused .badParam
  else ((s.marginApply n offset).modSeq (fun q => { q with marginStatus := 0 }), .ok)

/-- A write of SEQ_MARGIN (R345). -/
def seqMarginWrite (src : Src) (val : Word) (s : Dev) : Dev :=
  (s.guarded src Reg.SEQ_MARGIN (fun s =>
    let s := s.storeReg Reg.SEQ_MARGIN val
    let (s, st) := s.marginAsk (bitsOf val.toNat 0 8) (sint16 (bitsOf val.toNat 16 16))
    s.writeStatus src st))

/-! ### Runs (R336 to R339) -/

/-- The main segment or the link domain is powered, as the checkpoints say (R182, R337). -/
def Dev.passUp (s : Dev) (cp : Nat) (turning : Bool) : Dev :=
  if cp = 3 then (s.mainRegs).modSeq (fun q => { q with mainUp := true })
  else if cp = 2 then (s.modSeq (fun q => { q with linkUp := true })).note .linkCheckpoint
  else if cp = 1 && !turning && !s.seq.linkOnly then (s.setReady Rdy.RAILS).note .railsReady
  else s

/-- Passing a checkpoint of the down-timetable. -/
def Dev.passDown (s : Dev) (cp : Nat) : Dev :=
  if cp = 3 then s.modSeq (fun q => { q with saveCommit := true, mainUp := false })
  else if cp = 2 then s.modSeq (fun q => { q with linkUp := false })
  else s

/-- The matching point of a checkpoint: the step after the step marked in the other timetable (R337). -/
def Dev.matchPoint (s : Dev) (cp : Nat) (up : Bool) : Nat :=
  ((markStep s.steps (reachFrom s.steps (s.entryOf up)) cp).getD 0) + 1

/-- The down-timetable starts: what depends on the rails falls, and margins end. -/
def Dev.downBegins (s : Dev) : Dev := ((s.clrReady Rdy.RAILS).marginsEnd).note .downStarted

/-- Move the run to a step. -/
def Dev.goStep (s : Dev) (i : Nat) : Dev := s.modSeq (fun q => { q with step := i, wait := .none })

/-- Start a run. -/
def Dev.startRun (s : Dev) (up linkOnly : Bool) : Dev :=
  let s := s.modSeq (fun q => { q with
    run := if up then 1 else 2, linkOnly := linkOnly, turn := false, saveCommit := false
    stopped := if up then false else q.stopped, disabled := [] })
  (if up then s else s.downBegins).goStep (s.entryOf up)

/-- An up run stops on a DRAM or PATH rail (R336, Table 14-5). -/
def Dev.stopRun (s : Dev) (n : Nat) : Dev :=
  (s.modSeq (fun q => { q with run := 0, wait := .none, stopped := true, turn := false })).raiseCrit n

/-- A run ends. -/
def Dev.endRun (s : Dev) : Dev :=
  if s.seq.run = 2 && s.seq.upQueued then
    let lo := s.seq.queuedLinkOnly
    (s.modSeq (fun q => { q with upQueued := false })).note .downEnded |>.startRun true lo
  else
    let was := s.seq.run
    let s := s.modSeq (fun q => { q with run := 0, wait := .none, turn := false })
    if was = 1 then s.note .upEnded else if was = 2 then s.note .downEnded else s

/-- A step is done: its checkpoint passes, and the run goes on at `next`, or turns (R337 to R339). -/
def Dev.stepDone (s : Dev) (w next : Nat) : Dev :=
  let cp := stepCp w
  if s.seq.run = 3 || cp = 0 then s.goStep next
  else
    let s := s.modSeq (fun q => { q with lastCp := cp })
    let turn := s.seq.turn
    if s.seq.run = 1 then
      let s := s.passUp cp turn
      if turn then
        let s := s.modSeq (fun q => { q with turn := false, run := 2, saveCommit := false, disabled := [] })
        (s.downBegins.passDown cp).goStep (s.matchPoint cp false)
      else if cp = 2 && s.seq.linkOnly then s.endRun
      else s.goStep next
    else
      let s := s.passDown cp
      if turn then
        let s := s.modSeq (fun q => { q with turn := false, run := 1, saveCommit := false })
        let s := (s.passUp cp false).goStep (s.matchPoint cp true)
        if s.seq.linkOnly && s.matchPoint 2 true ≤ s.matchPoint cp true then s.endRun else s
      else s.goStep next

/-- A CHECK's test holds now (R336). -/
def Dev.checkHolds (s : Dev) (w : Nat) : Bool :=
  let n := stepRail w
  let one (k : Nat) : Bool :=
    match stepFunc w with
    | 0 => (s.rail k).st = .on && decide (3 ≤ (s.rail k).inWin)
    | 1 => s.railQuiet k
    | _ => (s.rail k).pmGood
  if n = 0xFF then s.seq.disabled.all one else one n

/-- No timetable is loaded, as in RECOVERY without a valid charter: the run passes the checkpoints of the core and link domains at
once, since Table 1-1 powers the link domain in RECOVERY while input is good (DEDUCED: assumption 17). -/
def Dev.bareRun (s : Dev) : Dev :=
  if s.seq.run = 1 then ((s.passUp 3 false).passUp 2 false).endRun else ((s.passDown 2).passDown 3).endRun

/-- Carry out the step that the run stands on; what it leaves in `wait` says whether the run goes on. -/
def Dev.runStep (s : Dev) : Dev :=
  let i := s.seq.step
  let w := s.steps.getD i 5
  let n := stepRail w
  let up := s.seq.run = 1
  let wait (s : Dev) (x : StepWait) : Dev := s.modSeq (fun q => { q with wait := x })
  let rec_ := s.railRec n
  match stepOp w with
  | 1 =>
    if !rec_.populated then s.stepDone w (i + 1)
    else if s.railBarred n then
      if up && rec_.critical then s.stopRun n else s.stepDone w (i + 1)
    else
      match stepFunc w with
      | 1 =>
        let restarting := s.seq.restarts.any (fun r => r.rails.contains n)
        (match (s.rail n).st with
         | .on => s.stepDone w (i + 1)
         | .ramp => if restarting then wait s .enable else s.stepDone w (i + 1)
         | .off =>
           if restarting then wait s .enable
           else
             let s := s.railEnable n
             if rec_.pm then wait s .pm else s.stepDone w (i + 1)
         | _ => wait (s.railAsk n) .enable)
      | 0 =>
        let s := s.modSeq (fun q => { q with restarts := q.restarts.filter (fun r => !r.rails.contains n) })
        let raised := (s.rail n).st = .ramp || (s.rail n).st = .on
        let s := s.railDisable n
        let s := if raised then s.modSeq (fun q => { q with disabled := insertN n q.disabled }) else s
        if raised && rec_.pm then wait s .pm else s.stepDone w (i + 1)
      | _ =>
        if s.seq.run = 3 then
          let off := Int.tdiv (((stepMv w : Int) - rec_.nomMv) * 10000) (rec_.nomMv : Int)
          (s.marginApply n off).stepDone w (i + 1)
        else if rec_.pm && rec_.vtrim then wait ((s.modRail n (fun r => { r with target := stepMv w })).pmQueue (.setv n)) .pm
        else s.stepDone w (i + 1)
  | 2 => if stepTicks w = 0 then s.stepDone w (i + 1) else wait s .ticks
  | 3 =>
    if n ≠ 0xFF && !rec_.populated then s.stepDone w (i + 1)
    else if n ≠ 0xFF && s.railBarred n then
      if up && rec_.critical then s.stopRun n else s.stepDone w (i + 1)
    else if s.checkHolds w then s.stepDone w (i + 1)
    else wait s .check
  | 4 =>
    let holds := match stepCond w with
      | 0 => true
      | 1 => s.seq.linkOnly
      | 2 => !s.seq.linkOnly
      | 3 => rec_.populated
      | _ => !rec_.populated
    s.stepDone w (if holds then stepTarget w else i + 1)
  | _ => if s.steps.isEmpty then s.bareRun else s.endRun

/-- Carry out steps until the run waits or ends. Every step leads forward, so 1,100 steps end any chain of runs. -/
def Dev.runOn : Nat → Dev → Dev
  | 0, s => s
  | k + 1, s =>
    if s.seq.run = 0 || s.seq.wait ≠ .none then s
    else Dev.runOn k s.runStep

/-- Let the run go on. -/
def Dev.resumeRun (s : Dev) : Dev := s.runOn 1100

/-- An up request of the mode machine (Table 14-5). -/
def Dev.askUp (s : Dev) (linkOnly : Bool) : Dev :=
  match s.seq.run with
  | 1 => s.modSeq (fun q => { q with turn := false })
  | 2 =>
    if s.seq.saveCommit then s.modSeq (fun q => { q with upQueued := true, queuedLinkOnly := linkOnly })
    else s.modSeq (fun q => { q with turn := true })
  | _ => (s.startRun true linkOnly).resumeRun

/-- A down request of the mode machine (Table 14-5). -/
def Dev.askDown (s : Dev) (linkOnly : Bool) : Dev :=
  match s.seq.run with
  | 1 => s.modSeq (fun q => { q with turn := true })
  | 2 => if s.seq.turn then s.modSeq (fun q => { q with turn := false }) else s.modSeq (fun q => { q with upQueued := false })
  | _ => (s.startRun false linkOnly).resumeRun

/-- A rail is raised. -/
def Dev.anyRaised (s : Dev) : Bool := s.seq.rails.any (fun r => r.st = .ramp || r.st = .on)

/-- The step that waits may now be complete (R336, R340). -/
def Dev.pokeRun (s : Dev) : Dev :=
  let i := s.seq.step
  let w := s.steps.getD i 5
  let n := stepRail w
  if s.seq.run = 0 then s
  else
    match s.seq.wait with
    | .check => if s.checkHolds w || (n ≠ 0xFF && s.railBarred n) then (s.modSeq (fun q => { q with wait := .none })).resumeRun else s
    | .enable =>
      let restarting := s.seq.restarts.any (fun r => r.rails.contains n)
      let done : Bool := (s.rail n).st = .on || ((s.rail n).st = .ramp && !restarting)
      if done then
        if (s.railRec n).pm && (s.rail n).st = .ramp then s.modSeq (fun q => { q with wait := .pm })
        else (s.stepDone w (i + 1)).resumeRun
      else if s.railBarred n then (s.modSeq (fun q => { q with wait := .none })).resumeRun
      else s
    | _ => s

/-- Restarts go on (R343): once every rail of a set is quiet its first rail is enabled, each one after the one before is ON. -/
def Dev.restartOne (s : Dev) (r : Restarting) : Dev :=
  match r.rails with
  | [] => s
  | n :: rest =>
    if !r.ramping then
      if r.rails.all s.railQuiet then
        let s := (s.modRail n (fun x => { x with restarts := min 3 (x.restarts + 1) })).railAsk n
        s.modSeq (fun q => { q with restarts := q.restarts.map (fun x => if x = r then { r with ramping := true } else x) })
      else s
    else if (s.rail n).st = .on then
      match rest with
      | [] => s.modSeq (fun q => { q with restarts := q.restarts.filter (fun x => x ≠ r) })
      | m :: _ =>
        (s.railAsk m).modSeq (fun q => { q with restarts := q.restarts.map (fun x => if x = r then { rails := rest, ramping := true } else x) })
    else s

/-- Every restart; none in SAVE (R343). -/
def Dev.restartAll (s : Dev) : Dev := if s.core.mode = .save then s else s.seq.restarts.foldl Dev.restartOne s

/-! ### Samples (R341) -/

/-- A reading corrected by SNS_GAIN of the calibration row (R331). -/
def Dev.senseCorrect (s : Dev) (input raw : Nat) : Nat :=
  if s.chtr.calValid then ((raw : Int) * (1000000 + sint16 (leAt s.chtr.cal (48 + 2 * input) 2)) / 1000000).toNat else raw

/-- One sample of one rail (Table 14-7, R341 to R344). -/
def Dev.railSample (s : Dev) (n mv : Nat) : Dev :=
  let rec_ := s.railRec n
  let s := s.modRail n (fun r => { r with mv := mv })
  let r := s.rail n
  let inOp := inWindow mv r.target rec_.fault
  let inWarn := inWindow mv r.target rec_.warn
  match r.st with
  | .ramp =>
    let k := if inOp then r.inWin + 1 else 0
    if 3 ≤ k then s.modRail n (fun r => { r with st := .on, inWin := 3, outWarn := 0, outFault := 0 })
    else s.modRail n (fun r => { r with inWin := k })
  | .on =>
    let ow := if inWarn then 0 else min 3 (r.outWarn + 1)
    let of := if inOp then 0 else min 3 (r.outFault + 1)
    let s := s.modRail n (fun r => { r with
      inWin := if inOp then min 3 (r.inWin + 1) else 0, outWarn := ow, outFault := of, crit := if inWarn then false else r.crit })
    if of = 3 && r.outFault < 3 then s.railFault n (if mv < r.target then 1 else 2)
    else if ow = 3 && r.outWarn < 3 && rec_.critical then
      let s := (s.railFail n 6).setReg Reg.SEQ_RAIL_WARNED (s.reg Reg.SEQ_RAIL_WARNED ||| (1#32 <<< n))
      if s.idleMode then s else s.raiseCrit n
    else s
  | .disch => if mv < rec_.dischMv then (let s := s.modRail n (fun r => { r with st := .off }); if r.held then s.railEnable n else s) else s
  | .stuck => if mv < rec_.dischMv then (let s := s.modRail n (fun r => { r with st := .off }); if r.held then s.railEnable n else s) else s
  | _ => s

/-- A rail is sampled at its SNS input, corrected, or by its telemetry where SENSE is 0xFF. -/
def Dev.railTurn (s : Dev) (n : Nat) (sns tele : List Nat) : Dev :=
  let rec_ := s.railRec n
  if !rec_.populated then s
  else s.railSample n (if rec_.sense = 0xFF then tele.getD n 0 else s.senseCorrect rec_.sense (sns.getD rec_.sense 0))

/-- Every sensed rail is sampled (R341), in ascending order; then restarts and the run go on. `sns` are the SNS inputs and
`tele` the telemetry of the rails whose SENSE is 0xFF, in mV. -/
def railSamples (pins : PinLevels) (sns tele : List Nat) (s : Dev) : Dev :=
  if !s.aonUp then s
  else
    (((List.range 24).foldl (fun (s : Dev) n => s.railTurn n sns tele) { s with pins := pins }).restartAll).pokeRun

/-- The status byte of a PMBus rail (R341): a rail that is ON and reads not good has failed, once until it reads good again (DEDUCED:
assumption 116). -/
def Dev.pmJudge (s : Dev) (n stat : Nat) : Dev :=
  let rec_ := s.railRec n
  if !(rec_.populated && rec_.pm) then s
  else
    let good := stat &&& rec_.statMask = rec_.statMask
    let bad := (s.rail n).st = .on && !good
    let was := (s.rail n).pmBad
    let s := s.modRail n (fun r => { r with pmGood := good, pmBad := bad })
    if bad && !was then s.railFault n 3 else s

/-- STAT_REG of each PM rail is polled (R341). -/
def pmStatusPoll (stat : List Byte) (s : Dev) : Dev :=
  if !s.aonUp then s
  else
    (((List.range 24).foldl (fun (s : Dev) n => s.pmJudge n ((stat.getD n 0).toNat)) s).restartAll).pokeRun

/-- A WAIT's ticks expire (R336). -/
def timetableWait (s : Dev) : Dev :=
  if s.seq.run ≠ 0 && s.seq.wait = .ticks then (s.stepDone (s.steps.getD s.seq.step 5) (s.seq.step + 1)).resumeRun else s

/-- A CHECK times out (R336). -/
def checkTimeout (s : Dev) : Dev :=
  if s.seq.run = 0 || s.seq.wait ≠ .check then s
  else
    let i := s.seq.step
    let w := s.steps.getD i 5
    let n := stepRail w
    let s := s.latch Reg.SEQ_ERR 0
    if s.seq.run = 1 then
      if stepTarget w ≠ 0xFF then ((s.railFail n 4).goStep (stepTarget w)).resumeRun
      else if (s.railRec n).critical then (s.railFail n 4).stopRun n
      else ((s.railFault n 4).stepDone w (i + 1)).resumeRun
    else if s.seq.run = 3 && stepTarget w ≠ 0xFF then ((s.railFail n 4).goStep (stepTarget w)).resumeRun
    else ((s.railFail n 4).stepDone w (i + 1)).resumeRun

/-- A restarted rail is not ON within RAMP_MS (R343): it falls whatever its role (Table 14-7), and one of role DRAM or PATH also
raises RAIL_CRIT outside STANDBY and RECOVERY (R342). DEDUCED: assumption 116. -/
def rampTimeout (n : Nat) (s : Dev) : Dev :=
  if (s.rail n).st = .ramp && s.seq.restarts.any (fun r => r.ramping && r.rails.head? = some n) then
    let s := if (s.railRec n).critical && !s.idleMode then ((s.railFail n 4).raiseCrit n).railDrop n else s.railFault n 4
    (s.restartAll).pokeRun
  else s

/-- A disabled rail is not quiet after DISCH_MS (R344). -/
def dischargeTimeout (n : Nat) (s : Dev) : Dev :=
  if (s.rail n).st = .disch then
    ((((s.modRail n (fun r => { r with st := .stuck })).latch Reg.SEQ_ERR 3).railFail n 5).restartAll).pokeRun
  else s

/-- A restart passes out of the 60 s window (R343). -/
def restartWindowExpiry (rail : Fin 24) (s : Dev) : Dev :=
  (s.modRail rail.val (fun r => { r with restarts := r.restarts - 1 }))

/-- A PM transfer of the sequencer ended: the step that waits for it is complete. A transfer that failed three times is a PM
status fault of its rail (R377). -/
def Dev.pmDone (s : Dev) (what : PmFor) (good : Bool) : Dev :=
  let rail := match what with
    | .enable n => some n | .disable n => some n | .setv n => some n | .margin n => some n
    | _ => none
  let s := if good then s else match rail with | some n => s.railFault n 3 | none => s
  let w := s.steps.getD s.seq.step 5
  let mine := match what with
    | .enable n => stepRail w = n | .disable n => stepRail w = n | .setv n => stepRail w = n | _ => false
  if s.seq.run ≠ 0 && s.seq.wait = .pm && mine then (s.stepDone w (s.seq.step + 1)).resumeRun else s

/-! ### Bell line (R346 to R349) -/

/-- The role in force: 3 acts as 1. -/
def Dev.bellRole (s : Dev) : Nat := let r := s.regF Reg.SEQ_BELL_CTL 0 2; if r = 3 then 1 else r

/-- READY_BELL: the device takes part in bell-line states unless its role is 0 or the line is marked failed (Table 1-6, R349). -/
def Dev.bellReady (s : Dev) : Dev := s.putReady Rdy.BELL (decide (s.bellRole ≠ 0) && !s.seq.bellFailed)

/-- A write of SEQ_BELL_TX (R346, R354). -/
def bellTx (src : Src) (val : Word) (s : Dev) : Dev :=
  (s.guarded src Reg.SEQ_BELL_TX (fun s =>
    if s.bellRole ≠ 2 then s.writeStatus src .badParam
    else if s.seq.bellPhase ≠ 0 then s.writeStatus src .busy
    else (s.modSeq (fun q => { q with bellPhase := 1, bellCur := bitsOf val.toNat 0 6 })).writeStatus src .ok))

/-- The mode event of a bell state (Table 14-9). -/
def bellEv : Nat → Option Ev
  | 0 => some .offReq | 1 => some .onReq | 2 => some .maintEnter | 3 => some .maintExit | _ => none

/-- The side program of a bell state: in MAINTENANCE only, with no run in progress (R347, R348). -/
def Dev.sideRun (s : Dev) (k : Nat) : Dev :=
  let e := match s.charter with | some c => c.tt.bellMap.getD k 0xFF | none => 0xFF
  if 16 ≤ k && e ≠ 0xFF && s.core.mode = .maintenance && s.seq.run = 0 then
    ((s.modSeq (fun q => { q with run := 3, linkOnly := false, turn := false, disabled := [] })).goStep e).resumeRun
  else s

/-- A frame is decoded (R346, R347): with a parity error it is ignored; a start during a barrier is ignored. -/
def bellFrame (k : Nat) (parityOk : Bool) (s : Dev) : Dev :=
  if !s.aonUp || s.bellRole = 0 || s.seq.bellPhase = 2 || s.seq.bellFailed then s
  else if !parityOk then
    ((s.modSeq (fun q => { q with bellPhase := 0 })).latch Reg.SEQ_ERR 6).logStd LT.BELL_PARITY k s.bellStatus
  else
    let s := s.modSeq (fun q => { q with bellPhase := 2, bellCur := k, bellClaimed := true, bellTimedOut := false })
    let s := s.wrapReg Reg.SEQ_BELL_COUNT 0 16 1
    match bellEv k with
    | some e => s.note (.mode e)
    | none => s.sideRun k

/-- The end condition of the state holds, or the action was refused: the line is released (R347, Table 14-9). -/
def Dev.bellRelease (s : Dev) : Dev :=
  if !s.seq.bellClaimed then s
  else
    let done : Bool := match s.seq.bellCur with
      | 0 => s.core.trans.isNone && s.core.mode ≠ .save && s.seq.run ≠ 2
      | 1 => s.seq.run ≠ 1 && !s.seq.upQueued
      | 2 => s.core.trans ≠ some .maintDrain
      | 3 => true
      | _ => s.seq.run ≠ 3
    if done then s.modSeq (fun q => { q with bellClaimed := false }) else s

/-- The line rises: every module latches the state (R347). -/
def bellBarrierRelease (s : Dev) : Dev :=
  if s.seq.bellPhase = 2 && !s.seq.bellClaimed then
    (s.modSeq (fun q => { q with bellPhase := 0, bellLast := some q.bellCur }))
  else s

/-- The line is still low at BARRIER_MS (R347). -/
def bellBarrierTimeout (s : Dev) : Dev :=
  if s.seq.bellPhase = 2 then
    let s := s.modSeq (fun q => { q with bellPhase := 0, bellClaimed := false, bellTimedOut := true })
    (((s.countReg Reg.SEQ_BELL_COUNT 16 16 1).latch Reg.SEQ_ERR 7).logStd LT.BELL_TIMEOUT s.seq.bellCur s.bellStatus)
  else s

/-- The line stays low (R349). -/
def bellLineFail (s : Dev) : Dev :=
  if !s.aonUp || s.bellRole = 0 then s
  else
    let s := (s.modSeq (fun q => { q with bellFailed := true, bellPhase := 0, bellClaimed := false })).clrReady Rdy.BELL
    ((s.latch Reg.SEQ_ERR 8).logStd LT.BELL_FAIL s.seq.bellCur s.bellStatus)

/-- The line has stayed high for 100 ms (R349). -/
def bellLineRecover (s : Dev) : Dev :=
  if s.seq.bellFailed then (s.modSeq (fun q => { q with bellFailed := false })).bellReady else s

/-- A charter load: lockouts and restart counts clear, targets return to NOM_MV, SEQ_BELL_CTL comes from TIMETABLES (R343,
R354). -/
def Dev.seqCharter (s : Dev) : Dev :=
  match s.charter with
  | none => s
  | some c =>
    let s := s.modSeq (fun q => { q with
      bellClaimed := false, bellPhase := 0
      rails := (List.range 24).map (fun n =>
        let r := q.rails.getD n Rail.reset
        { r with st := if r.st = .lockout then .off else r.st, restarts := 0,
                 target := if r.st = .off || r.st = .lockout then (c.rails.getD n RailRec.absent).nomMv else r.target }) })
    (s.setRegN Reg.SEQ_BELL_CTL (c.tt.bellRole + fieldAt 16 16 c.tt.barrierMs)).bellReady

end Sys2Proof.Machine
end

