-- ==== Sys2Proof/Machine/Batt.lean ====
section
/-!
DEFINITION. The battery estimator (chapter 15): samples and counting, the energy bound, calibration points, the learned state,
recognition and removal, and charging. Arithmetic is exact: charges are rational numbers of mAh.
-/
namespace Sys2Proof.Machine

/-- Change the estimator's state. -/
def Dev.modBatt (s : Dev) (f : BattSt → BattSt) : Dev := { s with batt := f s.batt }

/-- The BATTERY section in force. -/
def Dev.battCfg (s : Dev) : Option BattCfg := match s.charter with | some c => c.batt | none => none

/-- The selected pack record. -/
def Dev.packRec (s : Dev) : Option PackRec :=
  match s.battCfg, s.batt.rec_ with
  | some c, some k => c.recs[k]?
  | _, _ => none

/-- Cells in series: 2 for 2S1P (R355). -/
def PackRec.cells (p : PackRec) : Nat := if p.config = 1 then 2 else 1

/-- The code of a state (BATT_STATUS.STATE). -/
def BattState.code : BattState → Nat
  | .absent => 0 | .settling => 1 | .active => 2 | .unknown => 3 | .fault => 4

/-- The longest run of sample periods in which a conversion has not completed (R356). -/
def BattSt.convRun (b : BattSt) : Nat := b.convRuns.foldl max 0

/-- The bound is valid (R360). -/
def Dev.battValid (s : Dev) : Bool := s.batt.st = .absent || s.batt.st = .unknown || s.batt.st = .active

/-- BATT_Q (R372): Q rounded down, U rounded up. -/
def Dev.battQ (s : Dev) : Nat := s.batt.q.floor.toNat % 65536 + fieldAt 16 16 s.batt.u.ceil.toNat

/-- A record of Table 15-7: BATT_Q and a detail (Table 18-4). -/
def Dev.logBatt (s : Dev) (ty detail : Nat) : Dev := s.logStd ty s.battQ detail

/-- Q_full in whole mAh. -/
def Dev.qFullMah (s : Dev) : Nat := s.batt.qFull.floor.toNat

/-! ### Tables (R361) -/

/-- The temperatures of the resistance, reserve and voltage tables, in °C. -/
def packTemps : List Int := [-10, 0, 10, 25, 45, 60]

/-- Linear interpolation at x in a table of rising arguments; the last value applies above; none below the first. -/
def interp (x : Rat) : List (Rat × Rat) → Option Rat
  | [] => none
  | [(a, v)] => if a ≤ x then some v else none
  | (a, v) :: (b, w) :: t =>
    if x < a then none
    else if x < b then some (v + (w - v) * (x - a) / (b - a))
    else interp x ((b, w) :: t)

/-- A table of Table 15-2 at a temperature: above 60 °C the 60 °C column applies. Below −10 °C the spec gives no value: a free
one (assumption 11). -/
def Dev.tabAt (s : Dev) (tab : List Nat) (t : Rat) : Rat :=
  (interp t (packTemps.zip tab |>.map (fun p => ((p.1 : Rat), (p.2 : Rat))))).getD ((Config.freeValue s.freeCtr % 65536 : Nat) : Rat)

/-- The inverse of OCV[], in per cent: below OCV[0] the pack reads empty (R363). Above OCV[20] the spec gives no value: a free
one, at most 100 (assumption 11). -/
def Dev.socOf (s : Dev) (p : PackRec) (mv : Rat) : Rat :=
  let tab : List (Rat × Rat) := (List.range 21).map (fun i => (((p.ocv.getD i 0 : Nat) : Rat), ((5 * i : Nat) : Rat)))
  if mv ≤ ((p.ocv.getD 0 0 : Nat) : Rat) then 0
  else if ((p.ocv.getD 20 0 : Nat) : Rat) < mv then ((Config.freeValue s.freeCtr % 101 : Nat) : Rat)
  else (interp mv tab).getD 0

/-- The temperature in °C. -/
def Dev.battT (s : Dev) : Rat := (s.batt.temp : Rat) / 100

/-- ocv_lb of R361, per cell, in mV: the lowest resistance during discharge, the highest during charge. -/
def Dev.ocvLb (s : Dev) (p : PackRec) : Rat :=
  let r := if 0 < s.batt.cur then s.tabAt p.rLo s.battT else s.tabAt p.rHi s.battT
  ((s.batt.volt : Rat) + (s.batt.cur : Rat) * r / 1000000) / (p.cells : Rat)

/-- q_v of R361. -/
def Dev.qV (s : Dev) (p : PackRec) : Rat :=
  max (s.socOf p (s.ocvLb p) - (p.socvMargin : Rat) / 10) 0 / 100 * s.batt.qFull

/-- e_lb of R361 in J, and BIND. -/
def Dev.elbOf (s : Dev) (p : PackRec) : Nat × Nat :=
  let guard := s.battT - (p.tGuard : Rat)
  let tb := max guard (-10)
  let qc := s.batt.q - s.batt.u
  let qv := s.qV p
  let qlb := max (min qc qv) 0
  let qres : Rat := ((s.tabAt p.qRes tb).ceil : Rat)
  let vavg : Rat := ((s.tabAt p.vAvg tb).floor : Rat)
  if guard < -10 || qlb ≤ qres then (0, 2)
  else ((36 * (qlb - qres) * (p.cells : Rat) * vavg / 10000).floor.toNat, if qc ≤ qv then 0 else 1)

/-! ### Charging (R368) -/

/-- Every condition of R368 holds. -/
def Dev.chargeOk (s : Dev) : Bool :=
  match s.packRec with
  | none => false
  | some p =>
    s.batt.st = .active && (s.core.mode = .restore || s.core.mode = .service || s.core.mode = .maintenance) && s.core.inputGood &&
      decide (100 * p.tChgMin ≤ s.batt.temp) && decide (s.batt.temp ≤ 100 * p.tChgMax) && s.regF Reg.BATT_CTL 0 1 = 1 && s.batt.due

/-- A charger write waits or runs on PM. -/
def Dev.chargerBusy (s : Dev) : Bool :=
  let isCh (x : PmXfer) : Bool := match x with | .unit (.charger _) _ => true | _ => false
  s.twb.pm.any isCh || s.twb.pmRetry.any isCh

/-- Write CHG_EN_ON or CHG_EN_OFF where the charger does not follow the conditions yet. -/
def Dev.chargeJudge (s : Dev) : Dev :=
  let want := s.chargeOk
  if want = s.batt.charging || s.chargerBusy || s.batt.chgFailed then s else s.pmQueue (.charger want)

/-- Write CHG_EN_OFF at once: removal, a sense fault, and the first action of a crossing (R107, R359, R360). -/
def Dev.chargerOff (s : Dev) : Dev := if s.batt.charging && !s.chargerBusy then s.pmQueue (.charger false) else s

/-- A charger write ended on PM (R368). -/
def Dev.chargerDone (s : Dev) (on good : Bool) (code : Nat) : Dev :=
  if good then (s.modBatt (fun b => { b with charging := on })).chargeJudge
  else ((s.modBatt (fun b => { b with chgFailed := true })).latch Reg.BATT_ERR 5).logBatt LT.BATT_CHG_FAULT code

/-- One second after a failed charger write (R368). -/
def chargerRetry (s : Dev) : Dev :=
  if s.batt.chgFailed then
    let s := s.modBatt (fun b => { b with chgFailed := false })
    (if s.chargerBusy then s else s.pmQueue (.charger s.chargeOk))
  else s

/-- A charge becomes due (R368). -/
def Dev.chargeDue (s : Dev) : Dev :=
  let pct : Rat := (s.regF Reg.BATT_RECHARGE 0 7 : Rat)
  let perm : Rat := (s.regF Reg.BATT_RECHARGE 8 8 : Rat)
  if s.batt.st = .active && (decide (s.batt.q < pct / 100 * s.batt.qFull) || decide (perm / 1000 * s.batt.qFull < s.batt.u) || s.batt.empty ||
      s.batt.recal) then
    s.modBatt (fun b => { b with due := true })
  else s

/-! ### Calibration (R364, R365) -/

/-- A Q_full below EOL_MAH sets WORN, with one record (R365). -/
def Dev.wornJudge (s : Dev) (p : PackRec) : Dev :=
  if s.batt.qFull < (p.eol : Rat) then
    if s.batt.worn then s else (s.modBatt (fun b => { b with worn := true })).logBatt LT.BATT_WORN s.qFullMah
  else s.modBatt (fun b => { b with worn := false })

/-- Q_full is learned at a calibration point of kinds 1 to 3 with state of charge `soc` (R365). -/
def Dev.learn (s : Dev) (p : PackRec) (soc : Rat) : Dev :=
  match s.batt.ref with
  | none => s
  | some (soc0, dq, grown) =>
    let dsoc := soc - soc0
    let spans := if dq < 0 then -dq else dq
    if 2 * s.batt.qFull ≤ 5 * spans && 50 * grown ≤ s.batt.qFull && dsoc ≠ 0 && 0 < dq / dsoc then
      let qm := dq / dsoc
      let qf := min (if qm < s.batt.qFull then qm else s.batt.qFull + (qm - s.batt.qFull) / 4) (p.rated : Rat)
      let s := s.modBatt (fun b => { b with qFull := qf, learnCount := satAdd 65535 b.learnCount 1, learned := true, noPut := true })
      (s.logBatt LT.BATT_QFULL s.qFullMah).wornJudge p
    else s

/-- A calibration point of kinds 1 to 3 (Table 15-4). -/
def Dev.calibrate (s : Dev) (p : PackRec) (kind : Nat) (soc uFrac : Rat) : Dev :=
  let s := s.learn p soc
  let s := s.modBatt (fun b => { b with
    q := soc * b.qFull, u := min (uFrac * b.qFull) b.qFull, ref := some (soc, 0, 0), calKind := kind, calTick := s.ticks
    tapers := if kind = 1 then satAdd 65535 b.tapers 1 else b.tapers
    rests := if kind = 1 then b.rests else satAdd 65535 b.rests 1 })
  s.logBatt LT.BATT_CAL kind

/-- The margin as a fraction. -/
def PackRec.margin (p : PackRec) : Rat := (p.socvMargin : Rat) / 1000

/-- The cut-off point (Table 15-4). A crossing that runs from the pack stops there (R115): with
auxiliary power there it is abandoned (DEDUCED: assumption 106). -/
def Dev.cutOff (s : Dev) : Dev :=
  let s := if s.core.inputGood then s else s.note .packCut
  let s := s.modBatt (fun b => { b with q := 0, u := 0, empty := true, calKind := 4, calTick := s.ticks })
  ((s.latch Reg.BATT_ERR 3).logBatt LT.BATT_CAL 4).logBatt LT.BATT_EMPTY 4

/-- The charge-taper window has held (Table 15-4): Q is full and the charge ends. -/
def chargeTaper (s : Dev) : Dev :=
  match s.packRec with
  | none => s
  | some p =>
    if s.batt.st = .active && s.core.mode ≠ .save && s.batt.charging && p.cells * (p.vChg - 30) ≤ s.batt.volt &&
        s.batt.cur ≤ -1000 && -(1000 * (p.iTaper : Int)) ≤ s.batt.cur then
      let s := s.calibrate p 1 1 (1 / 100)
      let s := (s.modBatt (fun b => { b with empty := false, due := false, recal := false })).setRegF Reg.BATT_CTL 1 1 0
      s.chargeJudge
    else s

/-- The discharge-taper window has held. -/
def dischargeTaper (s : Dev) : Dev :=
  match s.packRec with
  | none => s
  | some p =>
    if s.batt.st = .active && s.core.mode ≠ .save && 1000 ≤ s.batt.cur && s.batt.cur ≤ 1000 * (p.iTaper : Int) &&
        s.batt.volt ≤ p.cells * (p.vCutoff + 100) then
      (s.calibrate p 2 (s.socOf p (s.ocvLb p) / 100) p.margin).drew
    else s

/-- The pack has rested for its window: the calibration of ACTIVE, and the end of SETTLING (Tables 15-3 and 15-4),
which comes in SAVE too (DEDUCED: assumption 117). -/
def restCalibration (s : Dev) : Dev :=
  match s.packRec with
  | none => s
  | some p =>
    let rest := -(1000 * (p.iRest : Int)) < s.batt.cur && s.batt.cur < 1000 * (p.iRest : Int)
    if rest && (s.batt.st = .settling || (s.batt.st = .active && s.core.mode ≠ .save)) then
      let s := (s.calibrate p 3 (s.socOf p ((s.batt.volt : Rat) / (p.cells : Rat)) / 100) p.margin).drew
      if s.batt.st = .settling then (s.modBatt (fun b => { b with st := .active })).evalAgain else s
    else s

/-- 2 s in SETTLING without that rest (Table 15-3). -/
def settlingTimeout (s : Dev) : Dev :=
  match s.packRec with
  | none => s
  | some p =>
    if s.batt.st = .settling then
      let q := s.qV p
      ((s.modBatt (fun b => { b with st := .active, q := q, u := 0 })).drew).evalAgain
    else s

/-! ### Recognition and removal (R358, R359) -/

/-- The presence conditions hold for the present readings (R358). -/
def packThere (idMv : Nat) (temp : Int) : Bool := decide (100 * idMv < 95 * idRef) && decide (-4000 ≤ temp) && decide (temp ≤ 10000)

/-- Presence has held and READY_CHARTER is set: a record is selected, or the pack is UNKNOWN (Table 15-3). -/
def Dev.packAct (s : Dev) : Dev :=
  if s.batt.st ≠ .absent || !s.batt.held || !s.batt.present || !s.rdy Rdy.CHARTER then s
  else
    let recs := match s.battCfg with | some c => c.recs | none => []
    match (List.range recs.length).find? (fun k =>
      match recs[k]? with | some p => decide (p.idMin ≤ s.batt.idMv) && decide (s.batt.idMv ≤ p.idMax) | none => false) with
    | some k =>
      let eol := match recs[k]? with | some p => p.eol | none => 0
      (s.modBatt (fun b => { b with
        st := .settling, rec_ := some k, q := 0, u := 0, qFull := (eol : Rat), learnCount := 0, throughput := 0, learned := false,
        worn := false, empty := false, noPut := false, ref := none, calKind := 0, tapers := 0, rests := 0, elb := 0,
        goneRun := 0, cutRun := 0, due := false })).evalAgain
    | none => (((s.modBatt (fun b => { b with st := .unknown, rec_ := none, elb := 0 })).latch Reg.BATT_ERR 1).logBatt LT.BATT_UNKNOWN 0).evalAgain

/-- Presence has held for its time. -/
def packHeld (s : Dev) : Dev :=
  if s.aonUp && s.batt.st = .absent && s.batt.present then (s.modBatt (fun b => { b with held := true })).packAct else s

/-- Removal (R359). -/
def Dev.packGone (s : Dev) : Dev :=
  let s := s.chargerOff
  let s := (s.latch Reg.BATT_ERR 0).logBatt LT.BATT_REMOVED 0
  (s.modBatt (fun b => { BattSt.reset with
    cur := b.cur, volt := b.volt, temp := b.temp, idMv := b.idMv, curSum := b.curSum, samples := b.samples, curAvg := b.curAvg,
    charging := b.charging, chgFailed := b.chgFailed, recal := b.recal })).evalAgain

/-- A sense fault (R356, Table 15-3). -/
def Dev.senseFault (s : Dev) : Dev :=
  match s.batt.st with
  | .settling | .active =>
    let s := (s.latch Reg.BATT_ERR 2).logBatt LT.BATT_SENSE_FAIL 0
    (s.chargerOff.modBatt (fun b => { b with st := .fault })).evalAgain
  | .unknown => (s.latch Reg.BATT_ERR 2).logBatt LT.BATT_SENSE_FAIL 0
  | _ => s

/-- Conversions have been valid for 1 s (Table 15-3). -/
def faultRecovered (s : Dev) : Dev :=
  if s.batt.st = .fault then
    (s.modBatt (fun b => { b with st := .settling, q := 0, u := 0, ref := none, convRuns := [0, 0, 0, 0], cutRun := 0 })).evalAgain
  else s

/-! ### Samples (R356, R362) -/

/-- A signed 32-bit field of the calibration row; no correction where the row is bad (R293). -/
def Dev.calInt (s : Dev) (off : Nat) : Int := if s.chtr.calValid then sint32 (leAt s.chtr.cal off 4) else 0

/-- mAh that a current in µA moves in one sample of 100 µs. -/
def sampleMah (i : Int) : Rat := (i : Rat) / 36000000000

/-- Counting and widening (R362). -/
def Dev.countCharge (s : Dev) (p : PackRec) : Dev :=
  let dq := sampleMah s.batt.cur
  let aq := if dq < 0 then -dq else dq
  let du := (p.gainErr : Rat) / 1000000 * aq + sampleMah p.offsetErr +
    (p.selfdis : Rat) / 10000 * s.batt.qFull / 86400 / 10000
  s.modBatt (fun b => { b with
    q := max 0 (min (b.q - dq) b.qFull)
    u := min (b.u + du) b.qFull
    throughput := b.throughput + max dq 0
    ref := b.ref.map (fun r => (r.1, r.2.1 - dq, r.2.2 + du)) })

/-- A crossing runs: from its first action to COMMIT (R114). -/
def Dev.crossing (s : Dev) : Bool :=
  s.xing.st = .quiesce || s.xing.st = .opened || s.xing.st = .carry || s.xing.st = .close

/-- The energy of a sample in which the pack discharges (R114): V × I is summed; `Dev.energySum` integrates the sums. -/
def Dev.meter (s : Dev) : Dev :=
  if s.crossing && 0 < s.batt.cur then
    { s with xing := { s.xing with energyRest := s.xing.energyRest + s.batt.volt * s.batt.cur.toNat } }
  else s

/-- A conversion (R356): the readings corrected by the calibration, those that were missed held; whether the pack is there. -/
def Dev.takeSample (s : Dev) (cur : Option Int) (volt : Option Nat) (temp : Option Int) (idMv : Option Nat) : Dev :=
  let missed := [cur.isNone, volt.isNone, temp.isNone, idMv.isNone]
  let i := (cur.map (fun r => r * (1000000 + s.calInt 36) / 1000000 - s.calInt 40)).getD s.batt.cur
  let t := (temp.map (fun x => x + s.calInt 44)).getD s.batt.temp
  let there := packThere (idMv.getD s.batt.idMv) t
  s.modBatt (fun b => { b with
    cur := i, volt := volt.getD b.volt, temp := t, idMv := idMv.getD b.idMv
    convRuns := (b.convRuns.zip missed).map (fun r => if r.2 then min 3 (r.1 + 1) else 0)
    curSum := b.curSum + i, samples := b.samples + 1
    present := there, held := b.held && there, goneRun := if there then 0 else min 3 (b.goneRun + 1) })

/-- One sample of the four inputs (R356). A conversion that has not completed is none; `cur` is I_raw in µA, `temp` the beta
equation's result in 0.01 °C. -/
def battSample (cur : Option Int) (volt : Option Nat) (temp : Option Int) (idMv : Option Nat) (s : Dev) : Dev :=
  if !s.aonUp then s
  else
    let missed := cur.isNone || volt.isNone || temp.isNone || idMv.isNone
    let s := (s.takeSample cur volt temp idMv).meter
    let there := s.batt.present
    if 3 ≤ s.batt.goneRun && s.batt.st ≠ .absent then s.packGone
    else
      match s.packRec with
      | none => if missed && s.batt.convRun = 3 && s.batt.st = .unknown then s.senseFault else s
      | some p =>
        let badV := there && (s.batt.volt < 2000 * p.cells || 4500 * p.cells < s.batt.volt)
        if (s.batt.st = .settling || s.batt.st = .active) && (s.batt.convRun = 3 || badV) then s.senseFault
        else if s.batt.st = .active then
          let s := s.countCharge p
          let run := if s.batt.volt < p.cells * p.vCutoff then min 4 (s.batt.cutRun + 1) else 0
          let s := s.modBatt (fun b => { b with cutRun := run })
          if run = 3 then s.cutOff else s
        else s

/-- The energy metered is integrated into whole mJ (R114, R356). -/
def Dev.energySum (s : Dev) : Dev :=
  { s with xing := { s.xing with
    energyMj := s.xing.energyMj + s.xing.energyRest / 10 ^ 10, energyRest := s.xing.energyRest % 10 ^ 10 } }

/-- The recompute of every 1 ms (R361, R368), with the meter's integration (R114). -/
def elbRecompute (s : Dev) : Dev :=
  if !s.aonUp then s
  else
    let s := s.energySum.modBatt (fun b => { b with
      curAvg := if b.samples = 0 then b.curAvg else b.curSum / b.samples, curSum := 0, samples := 0 })
    let s := match s.batt.st, s.packRec with
      | .active, some p =>
        let (e, bind) := s.elbOf p
        let lb := (s.ocvLb p).floor.toNat
        (s.modBatt (fun b => { b with elb := e, bind := bind, ocvLb := lb })).drew
      | .active, none => s.modBatt (fun b => { b with elb := 0, bind := 2 })
      | _, _ => s.modBatt (fun b => { b with elb := 0 })
    (s.chargeDue.chargeJudge).evalAgain

/-- A write of BATT_CTL (R368, R372): CHG_EN, and RECAL, which makes a charge due. -/
def Dev.battCtl (s : Dev) (src : Src) (val : Word) : Dev :=
  s.guarded src Reg.BATT_CTL (fun s =>
    let s := (s.setRegF Reg.BATT_CTL 0 1 (bitsOf val.toNat 0 1)).writeStatus src .ok
    let s := if val.getLsbD 1 then
        (s.modBatt (fun b => { b with recal := true, due := true })).setRegF Reg.BATT_CTL 1 1 1 else s
    s.chargeJudge)

/-- RECAL (R372). -/
def battRecal (src : Src) (val : Word) (s : Dev) : Dev := (s.battCtl src val)

/-! ### The learned state (R366, R367) -/

/-- Bytes 0 to 251 of the learned state, then the CRC (Table 15-5). -/
def Dev.learnedState (s : Dev) : Bytes :=
  let b := s.batt
  let body := leBytes 4 0x4C544142 ++ leBytes 2 1 ++ leBytes 2 256 ++ subBytes s.chtr.cal 8 16 ++ leBytes 2 b.idMv ++
    leBytes 1 (b.rec_.getD 0) ++ [0] ++ leBytes 2 s.qFullMah ++ leBytes 2 b.learnCount ++ leBytes 4 b.throughput.floor.toNat ++
    leBytes 4 s.log.cycles ++ leBytes 8 s.opSeconds ++ leBytes 2 b.q.floor.toNat ++ leBytes 2 b.u.ceil.toNat ++
    List.replicate 200 0
  body ++ leBytes 4 (crc32c body)

/-- KX_BATT_STATE_GET (R366). -/
def Dev.battGet (s : Dev) : St × Bytes := if s.batt.st = .active then (.ok, s.learnedState) else (.notReady, [])

/-- The first check of R367 that fails. -/
def Dev.putRefusal (s : Dev) (x : Bytes) : Option St :=
  let near (a b : Nat) : Bool := decide (a ≤ b + 50) && decide (b ≤ a + 50)
  if !(leAt x 0 4 = 0x4C544142 && leAt x 4 2 = 1 && leAt x 6 2 = 256 && leAt x 252 4 = crc32c (subBytes x 0 252)) then some .badParam
  else if s.batt.st ≠ .settling && s.batt.st ≠ .active then some .notReady
  else if !(subBytes x 8 16 = subBytes s.chtr.cal 8 16 && leAt x 26 1 = s.batt.rec_.getD 0 && near (leAt x 24 2) s.batt.idMv) then some .mismatch
  else if s.log.cycles < leAt x 36 4 || 16 < s.log.cycles - leAt x 36 4 then some .stale
  else if s.batt.noPut then some .busy
  else none

/-- KX_BATT_STATE_PUT (R367). -/
def Dev.battPut (s : Dev) (x : Bytes) : Dev × St :=
  match s.putRefusal x with
  | some st => ((s.latch Reg.BATT_ERR 4).logBatt LT.BATT_STATE_REJECTED st.code, st)
  | none =>
    match s.packRec with
    | none => ((s.latch Reg.BATT_ERR 4).logBatt LT.BATT_STATE_REJECTED St.notReady.code, .notReady)
    | some p =>
      let qf : Rat := max ((p.eol : Rat) / 2) (min ((leAt x 28 2 : Nat) : Rat) (p.rated : Rat))
      let s := s.modBatt (fun b =>
        let k := qf / b.qFull
        { b with q := b.q * k, u := b.u * k, qFull := qf, learnCount := leAt x 30 2, throughput := ((leAt x 32 4 : Nat) : Rat),
                 learned := true, noPut := true })
      let s := s.logBatt LT.BATT_STATE_RESTORED s.qFullMah
      (s.wornJudge p, .ok)

end Sys2Proof.Machine
end

