-- ==== Sys2Proof/Machine/Geom.lean ====
section
/-!
DEFINITION. The NAND geometry (chapter 11): unit addresses, regions, stripes and groups, the spare pools, endurance, and
xr_usable.
-/
namespace Sys2Proof.Machine

/-! ### Unit addresses (R249) and regions (R250) -/

/-- A LOC. -/
def mkLoc (ch die plane block page : Nat) : Nat := ch + 16 * die + 128 * plane + 512 * block + 2 ^ 21 * page

/-- The fields of a LOC. -/
def locCh (loc : Nat) : Nat := bitsOf loc 0 4
def locDie (loc : Nat) : Nat := bitsOf loc 4 3
def locPlane (loc : Nat) : Nat := bitsOf loc 7 2
def locBlock (loc : Nat) : Nat := bitsOf loc 9 12
def locPage (loc : Nat) : Nat := bitsOf loc 21 11

/-- The block position of a LOC: PAGE 0. -/
def locPos (loc : Nat) : Nat := loc % 2 ^ 21

/-- No profile. -/
def Profile.none : Profile :=
  { id := 0, toggle := false, rate := 0, diesPerCh := 0, planes := 0, blocks := 0, tlcPages := 0, pageBytes := 0, spare := 0,
    retryLevels := 0, progSuspend := false, trMaxUs := 0, tprogSlcUs := 0, tprogTlcUs := 0, tbersUs := 0, tsuspUs := 0,
    peTlc := 0, peSlc := 0, idMatch := [] }

/-- The profile in use. -/
def Dev.geo (s : Dev) : Profile := s.flsh.prof.getD Profile.none

/-- Wordlines of a block: SLC pages, and TLC pages by three. -/
def Dev.wordlines (s : Dev) : Nat := s.geo.tlcPages / 3

/-- XR_GIB (FLSH_XR_CAP, clamped). -/
def Dev.xrGib (s : Dev) : Nat := clampN 16 1024 (s.regF Reg.FLSH_XR_CAP 0 11)

/-- XR_BLOCKS (R250). -/
def Dev.xrBlocks (s : Dev) : Nat := ceilDiv (s.xrGib * 2 ^ 30) (15 * s.geo.diesPerCh * 4 * s.wordlines * 16384) + 2

/-- The first image block, and the first block after the image region (Table 11-4). -/
def Dev.imgFirst (s : Dev) : Nat := 4 + s.xrBlocks
def Dev.imgEnd (s : Dev) : Nat := s.geo.blocks - s.geo.spare

/-- A block is in the crossing region. -/
def Dev.isXr (s : Dev) (block : Nat) : Bool := decide (4 ≤ block) && decide (block < s.imgFirst)

/-! ### Dies -/

/-- A die without power. -/
def DieSt.reset : DieSt := { st := .off, cur := none, susp := none, queue := [], timeouts := 0, fails := [], resumed := none, lostAt := 0 }

/-- A die. -/
def Dev.die (s : Dev) (ch d : Nat) : DieSt := s.flsh.dies.getD (8 * ch + d) DieSt.reset

/-- Change a die. -/
def Dev.modDie (s : Dev) (ch d : Nat) (f : DieSt → DieSt) : Dev :=
  { s with flsh := { s.flsh with dies := s.flsh.dies.set (8 * ch + d) (f (s.die ch d)) } }

/-- Change the NAND controller's state. -/
def Dev.modFlsh (s : Dev) (f : FlshSt → FlshSt) : Dev := { s with flsh := f s.flsh }

/-- A die works: initialised, neither lost nor excluded. -/
def DieSt.works (d : DieSt) : Bool := d.st = .idle || d.st = .busy || d.st = .suspended

/-- A die of a channel works (R270). -/
def Dev.dieWorks (s : Dev) (ch d : Nat) : Bool := !s.flsh.chLost.contains ch && (s.die ch d).works

/-- Working dies on a channel, and in all (FLSH_STATUS.DIES, R116). -/
def Dev.chDies (s : Dev) (ch : Nat) : Nat := (List.range s.geo.diesPerCh).countP (s.dieWorks ch)
def Dev.workingDies (s : Dev) : Nat := (List.range 16).foldl (fun n ch => n + s.chDies ch) 0

/-! ### Stripes and groups (R251, R252) -/

/-- The block table gives a position no physical block (R265). -/
def Dev.noPhys (s : Dev) (pos : Nat) : Bool :=
  match lookupK pos s.flsh.blockTable with
  | some e => decide (e.1 = 0xFFF)
  | none => false

/-- The members of a stripe if it is written now (R251). -/
def Dev.stripeMembers (s : Dev) (d plane block : Nat) : List Nat :=
  (List.range 16).filter (fun c => s.dieWorks c d && !s.noPhys (mkLoc c d plane block 0))

/-- The parity channel (R251). -/
def parityCh (members : List Nat) (block page : Nat) : Nat :=
  ((List.range 16).map (fun i => (block + page + i) % 16)).find? members.contains |>.getD 0

/-- STRIPE_MASK. -/
def maskOf (members : List Nat) : Nat := members.foldl (fun m c => m + 2 ^ c) 0

/-- The data positions of a stripe, with its mask and parity channel. -/
def Dev.stripePos (s : Dev) (d plane block page : Nat) : List (Nat × Nat × Nat) :=
  let m := s.stripeMembers d plane block
  let p := parityCh m block page
  (m.filter (fun c => c ≠ p)).map (fun c => (mkLoc c d plane block page, maskOf m, p))

/-- The pages of a group: a TLC wordline's three in the image region (stream 0), else one. -/
def groupPages (stream page : Nat) : List Nat := if stream = 0 then [3 * page, 3 * page + 1, 3 * page + 2] else [page]

/-- The data positions of a group in order: PAGE, PLANE, ascending channel (R252). -/
def Dev.groupPos (s : Dev) (stream block d page : Nat) : List (Nat × Nat × Nat) :=
  (groupPages stream page).flatMap (fun pg => (List.range 4).flatMap (fun pl => s.stripePos d pl block pg))

/-- The channels that hold a share of a group. -/
def Dev.groupMembers (s : Dev) (block d : Nat) : List Nat :=
  (List.range 16).filter (fun c => (List.range 4).any (fun pl => (s.stripeMembers d pl block).contains c))

/-! ### Block rows -/

/-- The key of a block row: one logical block on one die row. -/
def rowKey (block d : Nat) : Nat := 8 * block + d

/-- A block row in its first state: erased, never erased before. -/
def Row.fresh : Row := { st := .erased, erases := 0, left := [] }

/-- A block row. -/
def Dev.row (s : Dev) (k : Nat) : Row := getD Row.fresh k s.flsh.rows

/-- Change a block row. -/
def Dev.modRow (s : Dev) (k : Nat) (f : Row → Row) : Dev :=
  s.modFlsh (fun x => { x with rows := putD Row.fresh k (f (getD Row.fresh k x.rows)) x.rows })

/-- Erased image block rows on a die row. -/
def Dev.erasedImgRows (s : Dev) (d : Nat) : Nat :=
  (s.imgEnd - s.imgFirst) -
    s.flsh.rows.countP (fun p => p.1 % 8 = d && s.imgFirst ≤ p.1 / 8 && p.1 / 8 < s.imgEnd && decide (p.2.st ≠ .erased))


/-- A block of the crossing region is erased on every die row. -/
def Dev.xrErased (s : Dev) (block : Nat) : Bool :=
  (List.range s.geo.diesPerCh).all (fun d => (s.row (rowKey block d)).st = .erased)

/-- Data bytes of one crossing block over every die row and plane, after parity, with the members that its stripes have. -/
def Dev.xrBlockBytes (s : Dev) (block : Nat) : Nat :=
  (List.range s.geo.diesPerCh).foldl (fun n d =>
    (List.range 4).foldl (fun n pl => n + ((s.stripeMembers d pl block).length - 1) * s.wordlines * 16384) n) 0

/-- Data bytes of the erased blocks of the crossing region, less the two that hold most: two block rows stay out of account, and
R258 does not say which where they differ. DESIGN CHOICE: assumption 101. -/
def Dev.xrErasedBytes (s : Dev) : Nat :=
  let bs := (((List.range s.xrBlocks).map (· + 4)).filter s.xrErased).map s.xrBlockBytes
  let m := bs.foldl max 0
  let bs := bs.erase m
  (bs.erase (bs.foldl max 0)).foldl (· + ·) 0

/-- Descriptors in a channel's queue (R259): those of its dies. -/
def Dev.chQueued (s : Dev) (ch : Nat) : Nat := (List.range 8).foldl (fun n d => n + (s.die ch d).queue.length) 0

/-- The descriptors of a die: in progress, suspended, queued, and waiting for an entry of the channel's queue. -/
def Dev.dieDescs (s : Dev) (ch d : Nat) : List Desc :=
  let c := s.die ch d
  c.cur.toList ++ c.susp.toList ++ c.queue ++ (s.flsh.waitQ.filter (fun x => x.1 = ch && x.2.1 = d)).map (fun x => x.2.2)

/-- Descriptors that have not started and fail a test leave the queues. -/
def Dev.keepDescs (s : Dev) (keep : DOp → Bool) : Dev :=
  s.modFlsh (fun x => { x with
    dies := x.dies.map (fun c => { c with queue := c.queue.filter (fun y => keep y.op) })
    waitQ := x.waitQ.filter (fun y => keep y.2.2.op) })

/-- H of R258: granule units in the crossing region that are not yet reclaimable. -/
def Dev.xrHeld (s : Dev) : Nat :=
  s.flsh.units.countP (fun p => 2 ^ 32 ≤ p.1 && p.2.kind = 1 && !s.flsh.reclaim.contains p.1)

/-- xr_usable (R258), in bytes. -/
def Dev.xrUsable (s : Dev) : Nat := min s.xrErasedBytes (s.xrGib * 2 ^ 30 - 16384 * s.xrHeld)

/-! ### Spare pools and endurance (R266, R269) -/

/-- The pool of a plane: SPARE blocks, and the system blocks' numbers on every plane but the system planes (Table 11-4). -/
def Dev.poolSize (s : Dev) (ch d plane : Nat) : Nat :=
  s.geo.spare + (if (ch = 0 || ch = 8) && d = 0 && plane = 0 then 0 else 4)

/-- The spare with a number in a plane's pool, as its physical block: the spare-pool blocks, then the blocks that join them. -/
def Dev.spareBlock (s : Dev) (n : Nat) : Nat := if n < s.geo.spare then s.geo.blocks - s.geo.spare + n else n - s.geo.spare

/-- The spares left in the pool of a plane: not taken yet, and not bad from the factory (R265). -/
def Dev.sparesLeft (s : Dev) (ch d plane : Nat) : List Nat :=
  let used := getD 0 (mkLoc ch d plane 0 0) s.flsh.spareUsed
  (List.range (s.poolSize ch d plane)).filter (fun n =>
    used ≤ n && (lookupK (mkLoc ch d plane (s.spareBlock n) 0) s.flsh.blockTable).isNone)

/-- Spares left in the pool of a plane. -/
def Dev.pool (s : Dev) (ch d plane : Nat) : Nat := (s.sparesLeft ch d plane).length

/-- The planes of working dies, as LOCs of block 0. -/
def Dev.workingPlanes (s : Dev) : List Nat :=
  (List.range 16).flatMap (fun ch => ((List.range s.geo.diesPerCh).filter (s.dieWorks ch)).flatMap (fun d =>
    (List.range 4).map (fun pl => mkLoc ch d pl 0 0)))

/-- The smallest pool and its plane (FLSH_SPARE). -/
def Dev.minPool (s : Dev) : Nat × Nat :=
  s.workingPlanes.foldl (fun m loc =>
    let n := s.pool (locCh loc) (locDie loc) (locPlane loc)
    if n < m.1 then (n, loc) else m) (255, 0)

/-- In per cent of the rated cycles, the largest average erase count of any die row's blocks in a range. -/
def Dev.life (s : Dev) (lo hi rated : Nat) : Nat :=
  (List.range s.geo.diesPerCh).foldl (fun m d =>
    let sum := (s.flsh.rows.filter (fun p => p.1 % 8 = d && lo ≤ p.1 / 8 && p.1 / 8 < hi)).foldl (fun n p => n + p.2.erases) 0
    max m (100 * sum / ((hi - lo) * rated))) 0

/-- LIFE_TLC and LIFE_SLC. -/
def Dev.lifeTlc (s : Dev) : Nat := s.life s.imgFirst s.imgEnd s.geo.peTlc
def Dev.lifeSlc (s : Dev) : Nat := s.life 4 s.imgFirst s.geo.peSlc

/-- The endurance level that Table 11-6 names now. -/
def Dev.enduranceNow (s : Dev) : Nat :=
  let pool := s.minPool.1
  let reserve := s.regF Reg.FLSH_SPARE 8 8
  if pool = 0 then 4
  else if pool ≤ reserve / 2 then 3
  else if pool ≤ reserve then 2
  else if 90 ≤ s.lifeTlc || 90 ≤ s.lifeSlc || pool ≤ 2 * reserve then 1 else 0

/-- The level rises where Table 11-6 says so; it never falls (R269). -/
def Dev.endurance (s : Dev) : Dev :=
  let l := s.enduranceNow
  if l ≤ s.flsh.level then s
  else ((s.modFlsh (fun x => { x with level := l })).latch Reg.FLSH_ERR 11).logStd LT.NAND_ENDURANCE s.minPool.2 l

/-- health_cap in GiB (Table 11-6). -/
def Dev.healthCap (s : Dev) : Nat :=
  match s.flsh.level with
  | 0 => 1024 | 1 => 1024 | 2 => 64 | 3 => 8 | _ => 0

/-- The effective daily wear budget in GiB (R269). -/
def Dev.dailyGib (s : Dev) : Nat :=
  let b := max 64 (s.regF Reg.FERY_WEAR_BUDGET 0 16)
  match s.flsh.level with
  | 0 => b | 1 => b | 2 => max 64 (b / 2) | 3 => max 64 (b / 4) | _ => 64

/-- The next spare of a position's plane, by its number, or none where the pool is empty (R266). -/
def Dev.nextSpare (s : Dev) (pos : Nat) : Option Nat := (s.sparesLeft (locCh pos) (locDie pos) (locPlane pos)).head?

/-- A position is a spare's own. -/
def Dev.isSpare (s : Dev) (pos : Nat) : Bool :=
  let b := locBlock pos
  let sys := (locCh pos = 0 || locCh pos = 8) && locDie pos = 0 && locPlane pos = 0
  (decide (s.imgEnd ≤ b) && decide (b < s.geo.blocks)) || (decide (b < 4) && !sys)

end Sys2Proof.Machine
end

