-- ==== Sys2Proof/Machine/Budget.lean ====
section
/-!
DEFINITION. The dirty budget, admission and the wear balance (chapter 2, R89), and the acknowledgement of held writes.
-/
namespace Sys2Proof.Machine

/-- Change FERY's state. -/
def Dev.modFery (s : Dev) (f : FerySt → FerySt) : Dev := { s with fery := f s.fery }

/-! ### DevLoad and acknowledgements (R27, R36, R42) -/

/-- DevLoad (Table 2-4): by stage, and while B is 0 by the share of the 1,024 pinned slots in use. -/
def Dev.devload (s : Dev) : Nat :=
  if s.fery.stage = 5 && s.fery.b = 0 then
    let n := s.fery.pinned.length
    if n < 256 then 0 else if n < 512 then 1 else if 10 * n < 9216 then 2 else 3
  else min s.fery.stage 3

/-- The RwD credit pool (Table 2-4, R154): `full` is the pool of Table 7-3. -/
def Dev.rwdPool (s : Dev) (full : Nat) : Nat :=
  match s.fery.stage with
  | 4 => min 256 full
  | 5 => min (min 256 full) (1024 - s.fery.pinned.length)
  | _ => full

/-- Complete a write to the host: with an NDR Cmp, or, of the poison commands, with the completion of the command (R171). -/
def Dev.ackWrite (s : Dev) (r : MemReq) : Dev :=
  match r.op with
  | .inject => s.postSt (.host r.ld) 0x4301 .ok []
  | .silent => s
  | .clear => s.postSt (.host r.ld) 0x4302 .ok []
  | _ =>
    let s := s.emit (.ndr r.ld r.tag s.devload)
    { s with hlnk := { s.hlnk with rwdOut := s.hlnk.rwdOut - 1 } }

/-- Acknowledge the held writes that a test picks, in arrival order; none after the first action of a crossing (R36). -/
def Dev.ackHeld (s : Dev) (p : HeldWrite → Bool) : Dev :=
  let go := s.hlnk.held.filter p
  let s := { s with hlnk := { s.hlnk with held := s.hlnk.held.filter (fun h => !p h) } }
  go.foldl (fun s h => s.ackWrite h.req) s

/-- Writes received before a Phase 2 request and not acknowledged. -/
def Dev.gpfHeld (s : Dev) (n : Nat) : Nat :=
  s.hlnk.held.countP (fun h => decide (h.req.seq < n)) + s.hlnk.wait.countP (fun r => decide (r.op ≠ .read) && decide (r.seq < n))

/-- The oldest GPF Phase 2 completes; HLNK_GPF takes its duration in µs. -/
def Dev.gpfDone (s : Dev) (start : Nat) (partialFlush : Bool) : Dev :=
  ({ s with hlnk := { s.hlnk with gpf := s.hlnk.gpf.tail } }.setRegF Reg.HLNK_GPF 0 16 (min 65535 ((s.ticks - start) / 25))).emit
    (.gpfPhase2Done partialFlush)

/-- The pending GPF Phase 2 requests, oldest first: each completes once every write received before it has been acknowledged
(R32). A later one covers the writes of the earlier ones. -/
def Dev.gpfDrain : List (Nat × Nat) → Dev → Dev
  | [], s => s
  | (t, n) :: l, s => if s.gpfHeld n = 0 then Dev.gpfDrain l (s.gpfDone t false) else s

/-- The pending GPF Phase 2 requests are looked at again. -/
def Dev.gpfCheck (s : Dev) : Dev := Dev.gpfDrain s.hlnk.gpf s

/-! ### The wear balance (R51, R89) -/

/-- One day's wear budget in bytes. -/
def Dev.dailyBytes (s : Dev) : Nat := s.dailyGib * 2 ^ 30

/-- The floor of W, in bytes (FERY_WEAR_OVERDRAFT). -/
def Dev.wearFloor (s : Dev) : Int := -((s.dailyBytes * min 100 (s.regF Reg.FERY_WEAR_OVERDRAFT 0 7) / 100 : Nat) : Int)

/-- Record W at its floor each time it reaches it (R51). -/
def Dev.wearMark (s : Dev) : Dev :=
  let at_ : Bool := decide (s.fery.wear ≤ s.wearFloor)
  let s' := s.modFery (fun f => { f with atFloor := at_ })
  if at_ && !s.fery.atFloor then (s'.latch Reg.FERY_BUDGET_EVENTS 5).logStd LT.WEAR_FLOOR 0 (s.d / 2 ^ 20) else s'

/-- Debit one granule: a debit that would take W below the floor leaves it there (R89). -/
def Dev.debit (s : Dev) : Dev :=
  (s.modFery (fun f => { f with
    wear := max (min s.wearFloor f.wear) (f.wear - 16384), wearTotal := (f.wearTotal + 16384) % 2 ^ 64 })).wearMark

/-- W is credited every 1 ms with a day's budget ÷ 86,400,000, and capped at one day's budget (R89); each second FERY_RATE
takes the commits of the second that ends (DESIGN CHOICE: assumption 12). -/
def wearCredit (s : Dev) : Dev :=
  if s.fery.eng = .off then s
  else
    let n := s.dailyBytes + s.fery.wearRem
    let s := s.modFery (fun f => { f with
      wear := min (s.dailyBytes : Int) (f.wear + ((n / 86400000 : Nat) : Int)), wearRem := n % 86400000
      creditMs := (f.creditMs + 1) % 1000 })
    let s := s.wearMark
    if s.fery.creditMs = 0 then
      let s := s.setRegN Reg.FERY_RATE
        (min 65535 (s.fery.rateNow / 1000000) + fieldAt 16 16 (min 65535 (s.fery.foldNow / 1000000)))
      let s := s.setRegN Reg.XING_RESTORE_RATE (min 65535 (s.land.rateNow / 1000000))
      { (s.modFery (fun f => { f with rateNow := 0, foldNow := 0 })) with land := { s.land with rateNow := 0 } }
    else s

/-! ### Admission stages (R42, R43) -/

/-- The threshold of a stage, in per cent. -/
def Dev.stageThr (s : Dev) (n : Nat) : Nat := s.regF Reg.FERY_ADMIT_THR (8 * (n - 1)) 8

/-- The stage that D and B enter upward (Table 2-4). -/
def Dev.stageUp (s : Dev) : Nat :=
  let d := s.d
  let b := s.fery.b
  if b < d + G then 5
  else if s.stageThr 4 * b ≤ 100 * d then 4
  else if s.stageThr 3 * b ≤ 100 * d then 3
  else if s.stageThr 2 * b ≤ 100 * d then 2
  else if s.stageThr 1 * b ≤ 100 * d then 1 else 0

/-- The stage after a fall: a stage is left only 2 points below the threshold that entered it (R43). -/
def Dev.stageDown (s : Dev) : Nat → Nat
  | 0 => 0
  | n + 1 => if 100 * s.d ≤ (s.stageThr (n + 1) - 2) * s.fery.b then s.stageDown n else n + 1

/-- The stage now (R42, R43). -/
def Dev.stageNow (s : Dev) : Nat :=
  let up := s.stageUp
  let cur := s.fery.stage
  if cur ≤ up then up else if cur = 5 then max up (s.stageDown 4) else s.stageDown cur

/-- PINNED granules whose copy is not captured become DIRTY while D + G ≤ B, in the order in which they became PINNED, and
their held writes are acknowledged (R48). -/
def Dev.promoteList : List Pinned → Dev → Dev
  | [], s => s
  | p :: t, s =>
    if p.captured.isNone && decide (s.d + G ≤ s.fery.b) then
      let s := s.setSt p.g .dirty
      let s := s.modFery (fun f => { f with pinned := f.pinned.filter (fun q => q.g ≠ p.g) })
      Dev.promoteList t (s.ackHeld (fun h => h.g = p.g))
    else Dev.promoteList t s

/-- D or B changed: promotion (R48), the stage (R42), and the events of R40 and FERY_BUDGET_EVENTS. -/
def Dev.restage (s : Dev) : Dev :=
  if s.fery.eng = .off && s.core.mode ≠ .restore && s.core.mode ≠ .service then s
  else
    let n := s.fery.pinned.length
    let s := if s.core.mode = .save then s else Dev.promoteList s.fery.pinned s
    let s := if s.fery.pinned.length < n then (s.gpfCheck).note .retry else s
    let st := s.stageNow
    let s := if st = 5 && s.fery.stage ≠ 5 then s.latch Reg.FERY_BUDGET_EVENTS 3 else s
    let s := if st ≠ s.fery.stage then s.note .retry else s
    let above : Bool := decide (s.fery.b < s.d)
    let breach : Bool := decide (s.fery.limHard < s.d)
    let s := if above && !s.fery.exceeded then s.latch Reg.FERY_BUDGET_EVENTS 1 else s
    let s := if breach && !s.fery.breach then
        (s.latch Reg.FERY_BUDGET_EVENTS 2).logStd LT.BUDGET_BREACH 0 (s.d / 2 ^ 20) else s
    s.modFery (fun f => { f with stage := st, exceeded := above, breach := breach })

/-! ### The budget (R38, R39) -/

/-- map_reserve (Table 2-3). -/
def Dev.mapReserve (s : Dev) : Nat := s.installed / 2048 + 16 * 2 ^ 20

/-- lim_energy of R38, in bytes. -/
def Dev.limEnergyOf (s : Dev) (elb : Nat) (invalid : Bool) : Nat :=
  let fixed := s.regF Reg.FERY_ENERGY_FIXED 0 16
  let derate := clampN 500 950 (s.regF Reg.FERY_DERATE 0 10)
  if invalid || elb * derate ≤ fixed * 1000 then 0
  else (elb * derate - fixed * 1000) * 65536 / s.fery.k * G

/-- lim_hard of R38, in bytes. -/
def Dev.limHardOf (s : Dev) (elb : Nat) : Nat :=
  (elb - s.regF Reg.FERY_ENERGY_FIXED 0 16) * 1000 * 65536 / s.fery.k * G

/-- lim_region of R38, in bytes. -/
def Dev.limRegionOf (s : Dev) : Nat := (s.xrUsable - s.mapReserve) / G * G

/-- lim_cfg of R38, in bytes. -/
def Dev.limCfgOf (s : Dev) : Nat :=
  min (min (min (min 1024 (s.regF Reg.FERY_CFG_MAX 0 11)) (min 1024 (s.regF Reg.FERY_HOST_CAP 0 11))) s.healthCap * 2 ^ 30)
    (s.installed - 2 ^ 30)

/-- B is forced to zero by the mode or by READY_PERSIST (R38). -/
def Dev.bForced (s : Dev) : Bool :=
  !s.rdy Rdy.PERSIST || s.core.mode = .standby || s.core.mode = .maintenance || s.core.mode = .recovery ||
    s.core.trans = some .maintDrain

/-- B is computed anew (R38 to R40, R52). In SAVE, B and b_arm keep the values of the first action. Without main power nothing is
computed: the registers of FERY start at their reset values when it is raised (R54, R468). -/
def Dev.recompute (s : Dev) : Dev :=
  if !s.mainUp || s.core.mode ≠ .restore && s.core.mode ≠ .service && s.core.mode ≠ .maintenance && s.core.mode ≠ .save then s
  else
    let elb := s.batt.elb
    let invalid := !s.battValid
    let le := s.limEnergyOf elb invalid
    let lr := s.limRegionOf
    let lc := s.limCfgOf
    let s := s.modFery (fun f => { f with
      limEnergy := le, limHard := s.limHardOf elb, limRegion := lr, limCfg := lc, eInput := elb, eInvalid := invalid })
    if s.core.mode = .save then s
    else
      let arm := min le (min lr lc)
      let b := if s.bForced then 0 else arm
      let bind := if s.bForced then 3 else if le = arm then 0 else if lr = arm then 1 else 2
      let s := if b = 0 && s.fery.b ≠ 0 then
          (s.latch Reg.FERY_BUDGET_EVENTS 0).logStd LT.BUDGET_ZERO 0 (s.d / 2 ^ 20) else s
      (s.modFery (fun f => { f with b := b, bArm := arm, bind := bind })).restage

/-- k is learned at COMMIT from what the crossing measured (R41): the energy drawn in mJ and the granules carried. -/
def Dev.learnK (s : Dev) (energyMj granules : Nat) : Dev :=
  let fixed := 1000 * s.regF Reg.FERY_ENERGY_FIXED 0 16
  let meas := (energyMj - fixed) * 65536 / granules
  let k := s.fery.k
  let seed := clampN 1000 20000 (s.regF Reg.FERY_ENERGY_SEED 0 16)
  let k' := min 65535 <| max ((seed + 1) / 2) (if k ≤ meas then meas else k - (k - meas) / 8)
  let s := s.modFery (fun f => { f with k := k', kUpdates := min 255 (f.kUpdates + 1) })
  (s.latch Reg.FERY_BUDGET_EVENTS 4).logStd LT.ENERGY_K_UPDATE 0 k'

end Sys2Proof.Machine
end

