-- ==== Sys2Proof/Machine/Store.lean ====
section
/-!
DEFINITION. The image store (chapter 11): die queues, groups and their placement, the journal and erases, reclaiming,
retirement, and lost dies.
-/
namespace Sys2Proof.Machine

/-! ### Die queues (R83, R130, R259) -/

/-- Enter a queue behind every descriptor of its own or a higher precedence. -/
def pushQueue (x : Desc) : List Desc → List Desc
  | [] => [x]
  | y :: t => if x.prio < y.prio then x :: y :: t else y :: pushQueue x t

/-- Enter a die's queue. -/
def Dev.enterDesc (s : Dev) (ch d : Nat) (x : Desc) : Dev := s.modDie ch d (fun c => { c with queue := pushQueue x c.queue })

/-- Wait for an entry behind every descriptor of the same or a higher precedence. -/
def waitDesc (x : Nat × Nat × Desc) : List (Nat × Nat × Desc) → List (Nat × Nat × Desc)
  | [] => [x]
  | y :: t => if x.2.2.prio < y.2.2.prio then x :: y :: t else y :: waitDesc x t

/-- A descriptor is sent to a channel: it enters its die's queue, or waits while the 128 entries of the channel's queue are in
use (R259). -/
def Dev.pushDesc (s : Dev) (ch d : Nat) (x : Desc) : Dev :=
  if s.chQueued ch < 128 then s.enterDesc ch d x
  else s.modFlsh (fun f => { f with waitQ := waitDesc (ch, d, x) f.waitQ })

/-- Descriptors that waited take the entries that are free. -/
def Dev.admitDescs (s : Dev) : Dev :=
  s.flsh.waitQ.foldl (fun s x =>
    if s.chQueued x.1 < 128 then
      (s.modFlsh (fun f => { f with waitQ := f.waitQ.erase x })).enterDesc x.1 x.2.1 x.2.2
    else s) s

/-- The place of a class's descriptors in the precedence of R130: 0 is a demand fetch, 1 a reissue, 4 a background restore.
DESIGN CHOICE: relocation, then erases, come last (assumption 13). -/
def Cls.prio : Cls → Nat
  | .thru => 2 | .mapGranule => 3 | .checkpoint => 3 | .background => 5 | .fold => 6 | .relocGranule => 7 | .relocMap => 7
  | _ => 1

/-- The place of a copy's descriptors: a reissue comes first among the ferry classes (Table 4-1, R83). -/
def Copy.prio (c : Copy) : Nat := if c.reissued then 1 else c.cls.prio

/-- A descriptor satisfies a test: in progress, suspended, queued or waiting for an entry. -/
def Dev.anyDesc (s : Dev) (p : DOp → Bool) : Bool :=
  s.flsh.dies.any (fun c => c.queue.any (fun x => p x.op) || c.cur.any (fun x => p x.op) || c.susp.any (fun x => p x.op)) ||
    s.flsh.waitQ.any (fun x => p x.2.2.op)

/-- The other members of a unit's stripe (R261). -/
def peersOf (u : Option NUnit) (loc : Nat) : List Nat :=
  let mask := match u with | some u => u.mask | none => 0xFFFF
  (List.range 16).filter (fun c => mask.testBit c && decide (c ≠ locCh loc))

/-- The same position on another channel. -/
def locOn (loc c : Nat) : Nat := loc - locCh loc + c

/-- Read a unit for a requester. -/
def Dev.readFor (s : Dev) (loc : Nat) (xr : Bool) (who : ReadFor) (prio : Nat) : Dev :=
  s.pushDesc (locCh loc) (locDie loc) { op := .read loc xr who, prio := prio }

/-! ### Copies -/

/-- A copy of the outstanding-copy table, or of a crossing. -/
def Dev.copy? (s : Dev) (id : Nat) : Option Copy := s.fery.copies.find? (fun c => c.id = id)

/-- Change a copy. -/
def Dev.modCopy (s : Dev) (id : Nat) (f : Copy → Copy) : Dev :=
  s.modFery (fun x => { x with copies := x.copies.map (fun c => if c.id = id then f c else c) })

/-- Remove a copy. -/
def Dev.dropCopy (s : Dev) (id : Nat) : Dev :=
  s.modFery (fun x => { x with copies := x.copies.filter (fun c => c.id ≠ id) })

/-- KIND of a copy's unit (Table 11-3). -/
def Cls.kind : Cls → Nat
  | .mapGranule => 2 | .relocMap => 2 | .xMap => 2 | .checkpoint => 6 | .xIndex => 3 | .xDir => 4 | .xPoison => 5
  | .opening => 0x0A | .commitRec => 0x0B | _ => 1

/-- A copy of a crossing. -/
def Cls.isX : Cls → Bool
  | .xGranule => true | .xMap => true | .xIndex => true | .xDir => true | .xPoison => true | .opening => true
  | .commitRec => true | _ => false

/-- The requester of a copy's DRAM accesses (R211). -/
def Cls.who (c : Cls) : Nat := if c.isX then Who.crossing else Who.ferry

/-- The stream of a copy: the image region, or a stream of a crossing (R256); none for a record. -/
def Cls.stream : Cls → Option Nat
  | .xGranule => some 1 | .xMap => some 2 | .xIndex => some 2 | .xDir => some 2 | .xPoison => some 2
  | .opening => none | .commitRec => none | _ => some 0

/-! ### Groups and placement (R252, R254 to R256) -/

/-- A group on the image frontier, as a number. -/
def frontCode (block d w : Nat) : Nat := 2 ^ 14 * block + 2 ^ 11 * d + w

/-- Whether a frontier group may be written: its row is not closed or undefined (R264). -/
def Dev.frontOk (s : Dev) (code : Nat) : Bool :=
  let st := (s.row (rowKey (code / 2 ^ 14) (bitsOf code 11 3))).st
  (st = .erased || st = .opened) && decide (2 ≤ (s.groupMembers (code / 2 ^ 14) (bitsOf code 11 3)).length)

/-- Open a group. -/
def Dev.openGroup (s : Dev) (stream block d page : Nat) : Dev :=
  let g : Group :=
    { id := s.flsh.nextGroup, stream := stream, block := block, row := d, page := page
      pos := s.groupPos stream block d page, copies := [], closing := false, padded := false, launched := false
      left := [], failed := [] }
  let s := s.modFlsh (fun x => { x with groups := x.groups ++ [g], nextGroup := x.nextGroup + 1 })
  s.modRow (rowKey block d) (fun r => { r with st := if page + 1 = s.wordlines then .full else .opened })

/-- The next image group of the frontier list, written in list order (R255). -/
def Dev.openImage (s : Dev) : Option Dev :=
  match s.flsh.frontier.find? s.frontOk with
  | none => none
  | some code =>
    let rest := (s.flsh.frontier.dropWhile (fun c => c ≠ code)).tail
    let s := s.modFlsh (fun x => { x with frontier := rest, frontWritten := x.frontWritten ++ [code] })
    some (s.openGroup 0 (code / 2 ^ 14) (bitsOf code 11 3) (bitsOf code 0 11))

/-- The lowest erased block of the crossing region that no stream fills or has reserved (R256). DESIGN CHOICE: which erased
block a stream takes (assumption 13). -/
def Dev.nextXBlock (s : Dev) (taken : List Nat) : Option Nat :=
  ((List.range s.xrBlocks).map (· + 4)).find? (fun b =>
    s.xrErased b && !taken.contains b && !s.flsh.xpos.any (fun p => p.2.1 = b || p.2.2.2 = some b))

/-- A stream moves to a block, and reserves its next one (R256). -/
def Dev.takeX (s : Dev) (stream b : Nat) : Dev :=
  s.modFlsh (fun x => { x with xpos := insertK stream (b, 0, s.nextXBlock [b]) (eraseK stream x.xpos) })

/-- The next group of a crossing stream: PAGE, then die row, then the block that it has reserved (R256); a die row with fewer
than two members holds none. -/
def Dev.openX (s : Dev) (stream : Nat) : Nat → Option Dev
  | 0 => none
  | fuel + 1 =>
    let dies := s.geo.diesPerCh
    match lookupK stream s.flsh.xpos with
    | none =>
      match s.nextXBlock [] with
      | none => none
      | some b => Dev.openX (s.takeX stream b) stream fuel
    | some (b, i, next) =>
      if s.wordlines * dies ≤ i then
        match next with
        | some n => Dev.openX (s.takeX stream n) stream fuel
        | none => none
      else
        let s := s.modFlsh (fun x => { x with xpos := insertK stream (b, i + 1, next) x.xpos })
        if (s.groupMembers b (i % dies)).length < 2 then Dev.openX s stream fuel
        else some (s.openGroup stream b (i % dies) (i / dies))

/-- The group that takes the next copy of a stream. -/
def Dev.roomIn (s : Dev) (stream : Nat) : Option Group :=
  s.flsh.groups.find? (fun g => g.stream = stream && !g.launched && !g.padded && decide (g.copies.length < g.pos.length))

/-- The position that the next unit of a stream takes: the device knows every unit's successor when it writes the unit (R256). -/
def Dev.nextPos (s : Dev) (stream : Nat) : Option Nat :=
  let free (s : Dev) : Option Nat := (s.roomIn stream).bind (fun g => (g.pos[g.copies.length]?).map (fun p => p.1))
  match free s with
  | some l => some l
  | none => (if stream = 0 then s.openImage else s.openX stream 4096).bind free

/-- A unit of a run that another follows. -/
def Copy.chained (c : Copy) : Bool :=
  (c.cls = .xIndex || c.cls = .xDir || c.cls = .xPoison || c.cls = .checkpoint) && !c.last

/-- Place one copy, and queue its seal (R306); a unit of a run names the position of the next (NEXT_LOC). -/
def Dev.placeIn (s : Dev) (c : Copy) (g : Group) : Dev :=
  match g.pos[g.copies.length]? with
  | none => s
  | some (loc, _) =>
    let s := s.modFlsh (fun x => { x with groups := x.groups.map (fun y => if y.id = g.id then { y with copies := y.copies ++ [c.id] } else y) })
    let next := if c.chained then s.nextPos g.stream else none
    let s := s.modCopy c.id (fun c => { c with loc := some loc, next := next })
    if c.stage = .waitRead then s else s.cipherPush (.copy c.id) true 0

/-- Place one copy where a position is free. -/
def Dev.placeCopy (s : Dev) (c : Copy) : Dev :=
  match c.cls.stream with
  | none => s
  | some st =>
    match s.roomIn st with
    | some g => s.placeIn c g
    | none =>
      match (if st = 0 then s.openImage else s.openX st 4096) with
      | none => s
      | some s =>
        match s.roomIn st with
        | some g => s.placeIn c g
        | none => s

/-- Copies still without a position are placed in capture order (R254). -/
def Dev.placeAll (s : Dev) : Dev :=
  (s.fery.copies.filter (fun c => c.loc.isNone)).foldl (fun s c => s.placeCopy c) s

/-- A crossing needs a unit and has none erased left (Table 5-8). -/
def Dev.xFull (s : Dev) : Bool := s.fery.copies.any (fun c => c.cls.isX && c.cls.stream.isSome && c.loc.isNone)

/-- A copy of a group that is laid out again: it has another position or another stripe, so it is sealed again under a new write
sequence (R304, R308: SELF_LOC, STRIPE_MASK and PARITY_CH are authenticated); with no position left it waits for one. -/
def Dev.moveCopy (s : Dev) (stream id : Nat) (pos : Option (Nat × Nat × Nat)) : Dev :=
  let s := s.cipherDrop (fun w => match w with | .copy i => decide (i = id) | _ => false)
  let next := match s.copy? id with | some c => if c.chained then s.nextPos stream else none | none => none
  let s := (s.modFery (fun f => { f with wseq := f.wseq + 1 })).modCopy id (fun c => { c with
    loc := pos.map (fun p => p.1), next := next, wseq := s.fery.wseq + 1
    stage := if c.stage = .waitRead then .waitRead else .waitLane })
  match pos, s.copy? id with
  | some _, some c => if c.stage = .waitRead then s else s.cipherPush (.copy id) true 0
  | _, _ => s

/-- Lay a group out again with the members that its stripes have now (R251). -/
def Dev.relayout (s : Dev) (g : Group) (pos : List (Nat × Nat × Nat)) : Dev :=
  let s := s.modFlsh (fun x => { x with groups := (x.groups.map (fun y =>
    if y.id = g.id then { y with pos := pos, copies := y.copies.take pos.length } else y)).filter (fun y => y.pos ≠ []) })
  (List.range g.copies.length).foldl (fun s i =>
    if pos[i]? = g.pos[i]? then s else s.moveCopy g.stream (g.copies.getD i 0) pos[i]?) s

/-- Launch a group that is full or padded once its copies are sealed (R254). Its stripes have the members of this moment: one
whose members have changed since it was opened is laid out again first (R251). -/
def Dev.launch (s : Dev) (g : Group) : Dev :=
  let cs := g.copies.filterMap s.copy?
  if g.launched || cs.any (fun c => decide (c.stage ≠ .sealed)) || !(g.padded || decide (g.copies.length = g.pos.length)) then s
  else
    let pos := s.groupPos g.stream g.block g.row g.page
    if pos ≠ g.pos then s.relayout g pos
    else
      let mask := g.pos.foldl (fun m p => m ||| p.2.1) 0
      let mem := (List.range 16).filter (fun c => mask.testBit c)
      let prio := cs.foldl (fun m c => min m c.prio) 7
      let s := s.modFlsh (fun x => { x with groups := x.groups.map (fun y =>
        if y.id = g.id then { y with launched := true, left := mem, failed := [] } else y) })
      let s := if g.copies.length < g.pos.length then
          (s.countReg Reg.FLSH_COUNT_RETIRE 16 16 1).latch Reg.FLSH_ERR 12 else s
      mem.foldl (fun s c => s.pushDesc c g.row { op := .program g.id, prio := prio }) s

/-- Launch every group that is ready. -/
def Dev.launchAll (s : Dev) : Dev := s.flsh.groups.foldl (fun s g => s.launch g) s

/-- Where a copy's staging slot lies (Table 4-2). -/
def Dev.stagingAt (s : Dev) (slot : Nat) : Nat := s.reservedAt (Res.staging + 16384 * slot)

/-- A seal ended: the ciphertext stands in the copy's staging slot (R84). -/
def Dev.copySealed (s : Dev) (id : Nat) : Dev :=
  let s := match s.copy? id with
    | some c => s.enqueueUnit (s.stagingAt c.slot) true c.cls.who
    | none => s
  (s.modCopy id (fun c => { c with stage := .sealed })).launchAll

/-- Close the open groups of a stream with pads (R254, R256). -/
def Dev.padStream (s : Dev) (stream : Nat) : Dev :=
  (s.modFlsh (fun x => { x with groups := x.groups.map (fun g =>
    if g.stream = stream && !g.launched then { g with padded := true } else g) })).launchAll

/-- The pads and parity units that a programmed group leaves on the channels whose share passed (R248, R251). -/
def Dev.fillers (s : Dev) (g : Group) : List (Nat × NUnit) :=
  let seq := if g.stream = 0 then 0 else s.xing.crossSeq
  let u (kind : Nat) (p : Payload) (mask par : Nat) : NUnit :=
    { kind := kind, idx := 0, gen := 0, wseq := 0, epoch := 0, poison := [], payload := p, next := none, mask := mask, parity := par,
      crossSeq := seq }
  let key (loc : Nat) : Nat := unitKey loc (decide (g.stream ≠ 0))
  let pads := (g.pos.drop g.copies.length).map (fun p => (key p.1, u 7 .pad p.2.1 p.2.2))
  let par := (g.pos.map (fun p => (p.1 - locCh p.1 + p.2.2, p.2))).eraseDups.map (fun p => (key p.1, u 0 .parity p.2.1 p.2.2))
  (pads ++ par).filter (fun p => !g.failed.contains (locCh p.1))

/-- A unit that is a pad or a parity unit: it holds no copy. -/
def NUnit.filler (u : NUnit) : Bool := u.kind = 7 || decide (u.payload = .parity)

/-- The unit that a programmed copy leaves in NAND. -/
def Dev.unitOf (s : Dev) (c : Copy) (g : Group) : Nat × NUnit :=
  let loc := c.loc.getD 0
  let p := (g.pos.find? (fun p => p.1 = loc)).getD (0, 0, 0)
  (unitKey loc (decide (g.stream ≠ 0)),
   { kind := c.cls.kind, idx := c.idx, gen := if c.cls.kind = 1 then (c.g + 1) % 4096 else 0, wseq := c.wseq, epoch := c.epoch,
     poison := c.poison, payload := c.payload, next := c.next, mask := p.2.1, parity := p.2.2,
     crossSeq := if g.stream = 0 then 0 else s.xing.crossSeq })

/-- A unit stands in NAND. -/
def Dev.putUnit (s : Dev) (u : Nat × NUnit) : Dev := s.modFlsh (fun x => { x with units := insertK u.1 u.2 x.units })

/-! ### Reclaiming (R75) -/

/-- Units become reclaimable. -/
def Dev.reclaim (s : Dev) (keys : List Nat) : Dev :=
  s.modFlsh (fun x => { x with
    reclaim := keys.foldl (fun l k => if (lookupK k x.units).isSome then insertN k l else l) x.reclaim
    sup := x.sup.filter (fun p => !keys.contains p.key) })

/-- A copy is superseded: it waits for R75. -/
def Dev.supersede (s : Dev) (key map : Nat) : Dev :=
  if s.flsh.sup.any (fun p => p.key = key) || s.flsh.reclaim.contains key || (lookupK key s.flsh.units).isNone then s
  else s.modFlsh (fun x => { x with sup := x.sup ++ [{ key := key, map := map }] })

/-- The map granule that a directory names. -/
def Dev.mapUnit (s : Dev) (dir : List (Nat × DirEntry)) (m : Nat) : Option NUnit :=
  match lookupK m dir with
  | some e => lookupK (unitKey e.loc e.xr) s.flsh.units
  | none => none

/-- The unit at a key is newer than another unit: its write sequence is higher (R77 compares write sequences, never
generations). -/
def Dev.newerAt (s : Dev) (key : Nat) (old : NUnit) : Bool :=
  match lookupK key s.flsh.units with
  | some u => decide (old.wseq < u.wseq)
  | none => false

/-- A directory, in a committed checkpoint or commit record, records a newer LOC for a superseded copy (R75). -/
def Dev.records (s : Dev) (dir : List (Nat × DirEntry)) (p : Superseded) : Bool :=
  match lookupK p.key s.flsh.units with
  | none => true
  | some old =>
    if 2 ^ 20 ≤ p.map then
      match lookupK (p.map - 2 ^ 20) dir with
      | some e => s.newerAt (unitKey e.loc e.xr) old
      | none => false
    else
      match s.mapUnit dir p.map with
      | some u =>
        match u.payload with
        | .mapGranule es =>
          let e := getD (GEntry.blank .clean) old.idx es
          (match e.loc with | some l => s.newerAt (unitKey l e.xr) old | none => false)
        | _ => false
      | none => false

/-- A committed directory makes superseded copies reclaimable (R75). -/
def Dev.reclaimUnder (s : Dev) (dir : List (Nat × DirEntry)) : Dev :=
  s.reclaim ((s.flsh.sup.filter (s.records dir)).map (fun p => p.key))

/-- The block row of a unit key. -/
def keyRow (k : Nat) : Nat := rowKey (locBlock (k % 2 ^ 32)) (locDie k)

/-- A block row may be erased: undefined, or full or closed with every unit reclaimable and no program outstanding (R258,
R263). -/
def Dev.rowReclaimable (s : Dev) (k : Nat) : Bool :=
  let r := s.row k
  r.st = .undefinedRow ||
    ((r.st = .full || r.st = .closed) && !s.flsh.groups.any (fun g => rowKey g.block g.row = k) &&
      s.flsh.units.all (fun p => decide (keyRow p.1 ≠ k) || p.2.filler || s.flsh.reclaim.contains p.1))

/-! ### The journal and erases (R257, R258, R263) -/

/-- The effect of one entry of a journal page on the entries in force, as (OP, ADDR): 1 ERASE_INTENT, 2 ERASE_DONE, 3 CLOSED,
4 CKPT (R263). -/
def journalEntry (l : List (Nat × Nat)) (e : Nat × Nat) : List (Nat × Nat) :=
  match e.1 with
  | 2 => l.filter (fun j => j ≠ (1, e.2) && j ≠ (3, e.2))
  | 4 => l.filter (fun j => j.1 ≠ 4) ++ [e]
  | _ => l.filter (fun j => j ≠ e) ++ [e]

/-- The journal entries in force, oldest first. -/
def Dev.journal (s : Dev) : List (Nat × Nat) := s.flsh.journalPages.foldl (fun l p => p.2.foldl journalEntry l) []

/-- The blocks of a row, as journal addresses. -/
def Dev.rowBlocks (s : Dev) (k : Nat) : List Nat :=
  (s.groupMembers (k / 8) (k % 8)).flatMap (fun c => (List.range 4).map (fun pl => mkLoc c (k % 8) pl (k / 8) 0))

/-- Erases may be issued in this mode (Table 11-11). -/
def Dev.mayErase (s : Dev) : Bool :=
  s.flsh.st = 2 && (s.core.mode = .restore || s.core.mode = .service || s.core.mode = .maintenance)

/-- The positions of a system block, on channels 0 and 8 (R257). -/
def sysPos (blk : Nat) : List Nat := [mkLoc 0 0 0 blk 0, mkLoc 8 0 0 blk 0]

/-- A system block holds no page, and no erase of it is still to end: a record block (0, 1) or a journal block (2, 3). -/
def Dev.sysBlank (s : Dev) (blk : Nat) : Bool :=
  !s.flsh.records.any (fun r => r.1 / 2048 % 2 = blk) && !s.flsh.journalPages.any (fun p => p.1 / 2048 = blk) &&
    !(sysPos blk).any (fun a => (lookupK a s.flsh.blockErase).isSome && !s.flsh.journalNext.contains (2, a))

/-- Once the block in use is half full, the other record or journal block is to be erased (R257). -/
def Dev.sysErase (s : Dev) (page other : Nat) : Dev :=
  if 2 * page < s.wordlines || s.sysBlank other then s
  else
    (sysPos other).foldl (fun s a =>
      if (lookupK a s.flsh.blockErase).isSome || !s.dieWorks (locCh a) 0 then s
      else s.modFlsh (fun x => { x with blockErase := insertK a (false, false) x.blockErase })) s

/-- The journal page that is written next: its block and page, and the entries that it repeats. When a journal block is full, the
first page of the other repeats every open intent and every CLOSED entry in force (R263). -/
def Dev.journalTurn (s : Dev) : Option (Nat × Nat × List (Nat × Nat)) :=
  let x := s.flsh
  if x.journalPage < s.wordlines then some (x.journalBlock, x.journalPage, [])
  else if s.sysBlank (5 - x.journalBlock) then some (5 - x.journalBlock, 0, s.journal.filter (fun j => j.1 = 1 || j.1 = 3))
  else none

/-- A journal page is written on channels 0 and 8: each of its two units waits for its seal (R257, R263, R304). -/
def Dev.journalWrite (s : Dev) (es : List (Nat × Nat)) : Dev :=
  let up := [0, 8].filter (fun c => s.dieWorks c 0)
  let s := s.modFlsh (fun x => { x with
    journalFly := es, journalBusy := !up.isEmpty, journalLeft := up.length, journalOk := false })
  up.foldl (fun s c => s.cipherPush (.journal (decide (c = 8))) true 0) s

/-- As many rows, in order, as a number of entries holds the blocks of. -/
def Dev.rowsFit (s : Dev) : Nat → List Nat → List Nat
  | _, [] => []
  | room, k :: t =>
    let n := (s.rowBlocks k).length
    if n ≤ room then k :: Dev.rowsFit s (room - n) t else []

/-- Program the next journal page where something waits for it: entries, and the intents of blocks to erase, up to 2,048 entries
(R263). -/
def Dev.journalStep (s : Dev) : Dev :=
  if s.flsh.journalBusy || !s.mayErase || !(s.dieWorks 0 0 || s.dieWorks 8 0) then s
  else
    let s := (s.sysErase s.flsh.recordPage (1 - s.flsh.recordBlock)).sysErase s.flsh.journalPage (5 - s.flsh.journalBlock)
    match s.journalTurn with
    | none => s
    | some (blk, page, rep) =>
      let old := rep ++ s.flsh.journalNext
      let ones := ((s.flsh.blockErase.filter (fun p => !p.2.1)).map (fun p => p.1)).take (2048 - old.length)
      let rows := s.rowsFit (2048 - old.length - ones.length) ((s.flsh.rows.map (fun p => p.1)).filter s.rowReclaimable)
      let es := old.take 2048 ++ (ones ++ rows.flatMap s.rowBlocks).map (fun a => (1, a))
      if s.flsh.journalNext.isEmpty && ones.isEmpty && rows.isEmpty then s
      else
        let s := s.modFlsh (fun x => { x with
          journalNext := old.drop 2048, journalBlock := blk, journalPage := page
          blockErase := ones.foldl (fun l a => insertK a (true, (getD (false, false) a l).2) l) x.blockErase })
        (rows.foldl (fun s k => s.modRow k (fun r => { r with st := .erasing, left := [] })) s).journalWrite es

/-- The rows that entries name. -/
def rowsOf (op : Nat) (es : List (Nat × Nat)) : List Nat :=
  ((es.filter (fun e => e.1 = op)).map (fun e => rowKey (locBlock e.2) (locDie e.2))).eraseDups

/-- Issue the erases of a row to its dies, once their intents are in the journal. -/
def Dev.issueErase (s : Dev) (k : Nat) : Dev :=
  let r := s.row k
  if r.st ≠ .erasing || r.left ≠ [] then s
  else if !s.mayErase then s.modRow k (fun r => { r with st := .undefinedRow })
  else
    let mem := s.groupMembers (k / 8) (k % 8)
    let s := s.modRow k (fun r => { r with left := mem })
    mem.foldl (fun s c => s.pushDesc c (k % 8) { op := .erase k, prio := 8 }) s

/-- Issue the erase of a single block. -/
def Dev.issueOne (s : Dev) (a : Nat) : Dev :=
  match lookupK a s.flsh.blockErase with
  | some (true, u) =>
    if s.mayErase then s.pushDesc (locCh a) (locDie a) { op := .eraseOne a, prio := 8 }
    else s.modFlsh (fun x => { x with blockErase := insertK a (false, u || s.journal.contains (1, a)) x.blockErase })
  | _ => s

/-- A row whose blocks are all erased and journalled is erased, and its units are gone (R258, R263). -/
def Dev.rowErased (s : Dev) (k : Nat) : Dev :=
  let r := s.row k
  if r.st ≠ .erasing || r.left ≠ [] || (s.rowBlocks k).any (fun a => s.journal.contains (1, a)) then s
  else
    let s := s.modRow k (fun r => { r with st := .erased, left := [] })
    s.modFlsh (fun x => { x with
      units := x.units.filter (fun p => decide (keyRow p.1 ≠ k))
      reclaim := x.reclaim.filter (fun a => decide (keyRow a ≠ k))
      sup := x.sup.filter (fun p => decide (keyRow p.key ≠ k)) })

/-- The journal page in flight is in NAND: its entries come into force, and erases follow their intents. The CKPT entries are
answered. -/
def Dev.journalInForce (s : Dev) : Dev × List (Nat × Nat) :=
  let x := s.flsh
  let es := x.journalFly
  let s := s.modFlsh (fun x => { x with
    journalPages := x.journalPages ++ [(2048 * x.journalBlock + x.journalPage, es)]
    journalPage := x.journalPage + 1, journalBusy := false, journalOk := false, journalFly := []
    blockErase := x.blockErase.filter (fun p => !es.contains (2, p.1)) })
  let s := (rowsOf 2 es).foldl Dev.rowErased s
  let s := (rowsOf 1 es).foldl Dev.issueErase s
  let s := (es.filter (fun e => e.1 = 1)).foldl (fun s e => s.issueOne e.2) s
  (s.endurance.evalAgain, es.filter (fun e => e.1 = 4))

/-- One program of the journal page ended; when both have, the page counts if a copy passed. A page that failed on both channels
is written again on the next page. -/
def Dev.journalDone (s : Dev) (pass : Bool) : Dev × List (Nat × Nat) :=
  let s := s.modFlsh (fun x => { x with journalLeft := x.journalLeft - 1, journalOk := x.journalOk || pass })
  if s.flsh.journalLeft ≠ 0 then (s, [])
  else if s.flsh.journalOk then s.journalInForce
  else
    (s.modFlsh (fun x => { x with
      journalPage := x.journalPage + 1, journalBusy := false, journalNext := x.journalFly ++ x.journalNext, journalFly := [] }), [])

/-- A sealed journal page is programmed. -/
def Dev.journalProgram (s : Dev) (second : Bool) : Dev :=
  s.pushDesc (if second then 8 else 0) 0 { op := .journal second, prio := 3 }

/-- One erase of a row ends (R263): ERASE_DONE entries for its blocks wait for the next journal page. A channel whose erase did
not pass is erased again where its blocks, or the spares that now serve their positions, can be; the spec does not say how such a
row goes on. DESIGN CHOICE: assumption 102. -/
def Dev.rowShareErased (s : Dev) (ch d k : Nat) (pass gone : Bool) : Dev :=
  let s :=
    if pass then
      (s.modRow k (fun r => { r with left := r.left.erase ch })).modFlsh (fun x => { x with
        journalNext := x.journalNext ++ (List.range 4).map (fun pl => (2, mkLoc ch d pl (k / 8) 0)) })
    else if gone || !(s.groupMembers (k / 8) d).contains ch then s.modRow k (fun r => { r with left := r.left.erase ch })
    else s.pushDesc ch d { op := .erase k, prio := 8 }
  if (s.row k).st = .erasing && (s.row k).left.isEmpty then
    ((s.modRow k (fun r => { r with erases := r.erases + 1 })).rowErased k).journalStep
  else s

/-- The erase of a single block ends. -/
def Dev.blockErased (s : Dev) (a : Nat) (pass gone : Bool) : Dev :=
  if pass then
    let ch := locCh a
    let blk := locBlock a
    (s.modFlsh (fun x => { x with
      records := x.records.filter (fun r => !(decide (blk < 2) && r.1 / 4096 = ch && r.1 / 2048 % 2 = blk))
      journalPages := x.journalPages.filter (fun p => p.1 / 2048 ≠ blk)
      units := x.units.filter (fun p => locPos (p.1 % 2 ^ 32) ≠ a)
      journalNext := x.journalNext ++ [(2, a)] })).journalStep
  else if gone then s.modFlsh (fun x => { x with blockErase := eraseK a x.blockErase })
  else s.pushDesc (locCh a) (locDie a) { op := .eraseOne a, prio := 8 }

/-- The stripe of a unit on a lost die is read for the redundancy rebuild (R261, R270); with a member that cannot be read it is
unrebuildable, and nothing is read. -/
def Dev.rebuildStart (s : Dev) (u : Nat × NUnit) : Dev :=
  let loc := u.1 % 2 ^ 32
  let ps := peersOf (some u.2) loc
  if ps.any (fun c => !s.dieWorks c (locDie loc)) || ps.isEmpty then
    s.modFlsh (fun x => { x with rebuilt := insertN u.1 x.rebuilt })
  else
    let s := s.modFlsh (fun x => { x with rebuilds := insertK u.1 (ps.length, true) x.rebuilds })
    ps.foldl (fun s c => s.readFor (locOn loc c) (decide (2 ^ 32 ≤ u.1)) (.rebuild u.1) 7) s

/-- CORE_FW_NAND_CMD shows the completion, and GO clears. -/
def Dev.fwNandEnd (s : Dev) (cmpl : Nat) (st : St) : Dev :=
  let s := (s.setRegF Reg.CORE_FW_NAND_CMD 3 1 0).setRegF Reg.CORE_FW_NAND_CMD 4 8 cmpl
  s.setRegF Reg.CORE_FW_NAND_CMD 16 16 st.code

/-! ### Retirement and relocation (R266 to R268) -/

/-- A unit is live: a granule or a map granule that is not reclaimable (R268). -/
def Dev.liveUnit (s : Dev) (p : Nat × NUnit) : Bool := (p.2.kind = 1 || p.2.kind = 2) && !s.flsh.reclaim.contains p.1

/-- Record an error at a LOC (FLSH_ERR_LOC). -/
def Dev.flshErr (s : Dev) (bit loc : Nat) : Dev := (s.latch Reg.FLSH_ERR bit).setRegN Reg.FLSH_ERR_LOC loc

/-- An entry of the block table, as PR0 holds it (R265). -/
def tableBytes (e : Nat × (Nat × Nat)) : Bytes :=
  let b := leBytes 4 e.1 ++ leBytes 2 e.2.1 ++ leBytes 1 e.2.2
  b ++ [BitVec.ofNat 8 (crc8 b)]

/-- Write the block table to PR0 (R265, R294): every logical block that holds an entry. -/
def Dev.writeTable (s : Dev) : Dev :=
  let es := s.flsh.blockTable
  (List.range (ceilDiv es.length 504)).foldl (fun s i =>
    s.prWrite 0 i (putPayload [] 0 (((es.drop (504 * i)).take 504).flatMap tableBytes))) s

/-- The next spare of a plane takes the place of a block, or none; a spare that is itself bad gets no place (R265, R266). -/
def Dev.substitute (s : Dev) (pos reason : Nat) : Dev :=
  let n := if s.isSpare pos then none else s.nextSpare pos
  let pl := pos % 512
  s.modFlsh (fun x => { x with
    blockTable := insertK pos ((n.map s.spareBlock).getD 0xFFF, reason) x.blockTable
    spareUsed := match n with | some n => insertK pl (n + 1) x.spareUsed | none => x.spareUsed })

/-- Retire a block (R266). -/
def Dev.retire (s : Dev) (pos reason : Nat) : Dev :=
  let s := (s.substitute pos reason).modFlsh (fun x => { x with marked := x.marked.filter (fun m => m.1 ≠ pos) })
  ((s.writeTable.flshErr 5 pos).logStd LT.NAND_RETIRE pos reason).endurance

/-- At first start every factory bad block is substituted (R265); spares that are bad come first, so that none of them takes a
place. -/
def Dev.factoryBlocks (s : Dev) (bad : List Nat) : Dev :=
  if bad.isEmpty then s
  else (((bad.filter s.isSpare) ++ (bad.filter (fun p => !s.isSpare p))).foldl (fun s p => s.substitute p 1) s).writeTable

/-- A block position holds a unit that is not reclaimable yet, so that it may not be retired (R75, R266): a live unit, or one of a
checkpoint or of a crossing's runs, which goes with its successor. Of a system block, a page: it retires at its next erase. -/
def Dev.holdsLive (s : Dev) (pos : Nat) : Bool :=
  s.flsh.units.any (fun p => locPos (p.1 % 2 ^ 32) = pos && !p.2.filler && !s.flsh.reclaim.contains p.1) ||
    ((sysPos (locBlock pos)).contains pos && decide (locBlock pos < 4) && !s.sysBlank (locBlock pos))

/-- Marked blocks without a live unit retire (R266). -/
def Dev.retireIdle (s : Dev) : Dev :=
  s.flsh.marked.foldl (fun s m => if s.holdsLive m.1 then s else s.retire m.1 m.2) s

/-- Mark a block for retirement (R266). -/
def Dev.markBlock (s : Dev) (loc reason : Nat) : Dev :=
  let pos := locPos loc
  if s.flsh.marked.any (fun m => m.1 = pos) then s
  else (s.modFlsh (fun x => { x with marked := x.marked ++ [(pos, reason)] })).retireIdle

/-- Live units of the stripes of a group's pages are exposed to a second fault (R267). -/
def Dev.expose (s : Dev) (p : Nat × NUnit → Bool) : Dev :=
  s.modFlsh (fun x => { x with
    exposed := (x.units.filter (fun u => s.liveUnit u && p u)).foldl (fun l u => insertN u.1 l) x.exposed })

/-! ### Lost dies and channels (R270) -/

/-- FLSH_STATUS.STATE is FAILED: fewer than 15 channels have a working die in every die row (R271). DEDUCED: assumption 103. -/
def Dev.flshFailed (s : Dev) : Bool :=
  decide (((List.range 16).countP (fun c => (List.range s.geo.diesPerCh).all (s.dieWorks c))) < 15)

/-- A die's descriptors leave it (R270). -/
def Dev.dropDescs (s : Dev) (ch d : Nat) : Dev :=
  s.modFlsh (fun x => { x with waitQ := x.waitQ.filter (fun y => !(y.1 = ch && y.2.1 = d)) })

/-- A die is lost: it leaves new stripes, its queue is returned to be completed DIE_GONE, and the stripes that held it are
exposed (R270). -/
def Dev.loseDie (s : Dev) (ch d status : Nat) : Dev × List Desc :=
  let gone := s.dieDescs ch d
  let s := (s.modDie ch d (fun _ => { DieSt.reset with st := .lost, lostAt := s.ticks })).dropDescs ch d
  let loc := mkLoc ch d 0 0 0
  let s := (s.latch Reg.FLSH_ERR 6).logStd LT.NAND_DIE_LOST loc status
  (s.expose (fun u => locDie u.1 = d && u.2.mask.testBit ch), gone)

/-- A channel is lost: as the loss of each of its dies (R270). -/
def Dev.loseChannel (s : Dev) (ch status : Nat) : Dev × List Desc :=
  if s.flsh.chLost.contains ch then (s, [])
  else
    let s := s.modFlsh (fun x => { x with chLost := insertN ch x.chLost })
    let s := (s.latch Reg.FLSH_ERR 7).logStd LT.NAND_CH_LOST (mkLoc ch 0 0 0 0) status
    (List.range s.geo.diesPerCh).foldl (fun p d =>
      let s := (p.1.modDie ch d (fun c => { DieSt.reset with st := .lost, lostAt := c.lostAt })).dropDescs ch d
      (s.expose (fun u => locDie u.1 = d && u.2.mask.testBit ch), p.2 ++ p.1.dieDescs ch d)) (s, [])

/-! ### The frontier (R74, R255) -/

/-- Image blocks that a new frontier may take on a die row, in order. DESIGN CHOICE: the lowest first (assumption 13). -/
def Dev.freeImage (s : Dev) (d : Nat) (busy : List Nat) : List Nat :=
  ((List.range (s.imgEnd - s.imgFirst)).map (· + s.imgFirst)).filter (fun b =>
    (s.row (rowKey b d)).st = .erased && !busy.contains (rowKey b d))

/-- The next wordline of a die row to list: of the block it is listing, or of the next free block. -/
def Dev.nextWordline (s : Dev) (d : Nat) (busy : List Nat) : Option (Nat × Nat) :=
  match lookupK d s.flsh.imgAlloc with
  | some (b, w) => if w < s.wordlines then some (b, w) else ((s.freeImage d busy).head?).map (fun b => (b, 0))
  | none => ((s.freeImage d busy).head?).map (fun b => (b, 0))

/-- List `n` more groups for the next checkpoint, the die rows in turn (R255). -/
def Dev.allocFront (s : Dev) (d : Nat) : Nat → Dev
  | 0 => s
  | n + 1 =>
    let busy := (s.flsh.frontier ++ s.flsh.frontWritten ++ s.flsh.frontPend).map (fun c => rowKey (c / 2 ^ 14) (bitsOf c 11 3))
    match s.nextWordline d busy with
    | none => Dev.allocFront s ((d + 1) % max 1 s.geo.diesPerCh) n
    | some (b, w) =>
      Dev.allocFront (s.modFlsh (fun x => { x with
        imgAlloc := insertK d (b, w + 1) x.imgAlloc, frontPend := x.frontPend ++ [frontCode b d w] }))
        ((d + 1) % max 1 s.geo.diesPerCh) n

end Sys2Proof.Machine
end

