-- ==== Sys2Proof/Machine/Ferry.lean ====
section
/-!
DEFINITION. The ferry engine (chapter 4): captures, commits and failures of copies, sweeps, folds, relocation, checkpoints of
the map (R74), and the engine's states.
-/
namespace Sys2Proof.Machine

/-! ### Settings and gates (R87, R90) -/

/-- FERY_STATUS.PRIORITY. -/
def Dev.feryPriority (s : Dev) : Nat := if s.urgent then 2 else if s.fery.stage = 0 then 0 else 1

/-- The quiet threshold (Table 4-3). -/
def Dev.quiet (s : Dev) : Nat :=
  if s.urgent then 0 else s.regF Reg.FERY_QUIET (4 * s.fery.stage) 4

/-- W stays at or above the floor after one more debit. -/
def Dev.aboveFloor (s : Dev) : Bool := decide (s.wearFloor ≤ s.fery.wear - 16384)

/-- The wear gate of background ferry (Table 4-4). -/
def Dev.bgGate (s : Dev) : Bool :=
  decide (s.fery.b < s.d) || (if 3 ≤ s.fery.stage then s.aboveFloor else decide (16384 ≤ s.fery.wear))

/-- The floor gate, of map granules, checkpoints and through-ferry (Table 4-4). -/
def Dev.floorGate (s : Dev) : Bool := s.aboveFloor || decide (s.fery.b < s.d)

/-- The gate of through-ferry, open also while a GPF Phase 2 is pending (R32). -/
def Dev.thruGate (s : Dev) : Bool := s.floorGate || !s.hlnk.gpf.isEmpty

/-- The gate of a class. -/
def Dev.gate (s : Dev) : Cls → Bool
  | .thru => s.thruGate
  | .mapGranule => s.floorGate
  | .checkpoint => s.floorGate
  | .background => s.bgGate
  | _ => true

/-- Copies of the ferry classes. -/
def Dev.ferryCopies (s : Dev) : List Copy := s.fery.copies.filter (fun c => !c.cls.isX)

/-- A copy holds a mover until it is sealed (R82). -/
def Copy.moving (c : Copy) : Bool := c.stage ≠ .sealed

/-- A restore holds a mover until its reads are issued (R130): a read of the granule still stands in a die queue. DEDUCED:
assumption 89. -/
def Dev.restoreMoving (s : Dev) (g : Nat) : Bool :=
  let reads (o : DOp) : Bool := match o with
    | .read _ _ (.restore h) => decide (h = g)
    | .read _ _ (.restorePeer h) => decide (h = g)
    | _ => false
  s.flsh.dies.any (fun d => d.queue.any (fun x => reads x.op)) || s.flsh.waitQ.any (fun x => reads x.2.2.op)

/-- Movers that background restore holds, and that demand fetches hold. -/
def Dev.bgMovers (s : Dev) : Nat := s.land.table.countP (fun r => !r.demand && s.restoreMoving r.g)
def Dev.demandMovers (s : Dev) : Nat := s.land.table.countP (fun r => r.demand && s.restoreMoving r.g)

/-- Movers that copies hold, and the busy movers (FERY_STATUS.MOVERS_BUSY). -/
def Dev.copyMovers (s : Dev) : Nat := s.fery.copies.countP Copy.moving
def Dev.moversBusy (s : Dev) : Nat := s.copyMovers + s.bgMovers + s.demandMovers

/-- Movers that the ferry classes may hold (Table 4-9, R130, R142): 8 while a restore goes on in RESTORE or SERVICE, else 64. -/
def Dev.ferryMovers (s : Dev) : Nat :=
  if !s.rdy Rdy.RESTORED && (s.core.mode = .restore || s.core.mode = .service) then 8 else 64

/-- A mover is free for a class: 8 are kept for through-ferry (R82). While a restore goes on, the ferry classes share the 8
that Table 4-9 leaves them. DEDUCED: assumption 89. -/
def Dev.moverFree (s : Dev) (cls : Cls) : Bool :=
  let others := s.ferryCopies.countP (fun c => decide (c.cls ≠ .thru) && c.moving)
  decide (s.copyMovers < s.ferryMovers) && decide (s.moversBusy < 64) &&
    (cls = .thru || s.ferryMovers = 8 || decide (others < 56))

/-- A class has an outstanding entry and a mover free: 1,024 entries are kept for through-ferry (R82). -/
def Dev.hasRoom (s : Dev) (cls : Cls) (n : Nat) : Bool :=
  let others := s.ferryCopies.countP (fun c => decide (c.cls ≠ .thru))
  (if cls = .thru then decide (s.ferryCopies.length + n ≤ 4096) else decide (others + n ≤ 3072)) && s.moverFree cls

/-- A capture whose class has no outstanding entry waits (R82). -/
def Dev.noRoom (s : Dev) (cls : Cls) (n : Nat) : Dev :=
  let others := s.ferryCopies.countP (fun c => decide (c.cls ≠ .thru))
  if (if cls = .thru then decide (4096 < s.ferryCopies.length + n) else decide (3072 < others + n)) then
    s.latch Reg.FERY_ERR 4
  else s

/-! ### Captures -/

/-- The lowest staging slot that no copy owns (R84). DESIGN CHOICE: which free slot a copy takes (assumption 90). -/
def Dev.freeStaging (s : Dev) : Nat := lowestFree (s.fery.copies.map (fun c => c.slot))

/-- A copy joins the table with a staging slot (R82, R84); its position and its seal follow. A granule or a map granule takes the
next write sequence at its capture (R61, R62); another unit draws it when it is sealed (R308). -/
def Dev.addCopy (s : Dev) (cls : Cls) (idx g : Nat) (old : Option Nat) (poison : List Nat) (payload : Payload) : Dev :=
  let seq := if cls.kind = 1 || cls.kind = 2 then s.fery.wseq + 1 else s.fery.wseq
  let c : Copy := { id := s.fery.nextCopy + 1, cls := cls, idx := idx, g := g, oldLoc := old, wseq := seq, last := true,
                    epoch := 0, poison := poison, payload := payload, loc := none, next := none, stage := .waitLane,
                    refused := false, slot := s.freeStaging, reissued := false, mapChange := cls = .mapGranule || cls = .xMap }
  s.modFery (fun f => { f with copies := f.copies ++ [c], nextCopy := f.nextCopy + 1, wseq := seq })

/-- The identity of the newest copy. -/
def Dev.lastCopy (s : Dev) : Nat := s.fery.nextCopy

/-- The lines of a granule on FAILED subchannels read as uncorrectable (R220): what follows is left to the end of the step. -/
def Dev.noteFailed (s : Dev) (g : Nat) : Dev := if (s.failedLines g).isEmpty then s else s.note (.captured s.lastCopy)

/-- A copy of a granule from DRAM (R62): GEN g is read, and the data and poison lines as DRAM holds them. The granule is read
whole in the step of its capture, so the copy never holds a write that arrives while the capture goes on; Table 3-4 leaves
open whether it does. DESIGN CHOICE: assumption 86. -/
def Dev.granuleCopy (s : Dev) (cls : Cls) (g : Nat) : Dev :=
  let e := s.entry g
  let s := s.addCopy cls g e.gen ((e.loc).map (fun l => unitKey l e.xr)) (s.granulePoison g) (.granule (s.granuleData g))
  (s.enqueueUnit (G * g) false cls.who).noteFailed g

/-- The persistable entries of a map granule that are not blank (R61). -/
def Dev.mapEntries (s : Dev) (m : Nat) : List (Nat × GEntry) :=
  ((s.gmap.entries.filter (fun p => p.1 / 2048 = m)).map (fun p => (p.1, p.2.persist))).filter
    (fun p => decide (p.2 ≠ GEntry.blank .clean))

/-- A copy of a map granule from the entry table: a snapshot (R66), after which it is clean but for later changes (R72). -/
def Dev.mapCopy (s : Dev) (cls : Cls) (m : Nat) : Dev :=
  let changed := s.gmap.mapDirty.any (fun p => p.1 = m)
  let since := ((s.gmap.mapDirty.find? (fun p => p.1 = m)).map (fun p => p.2)).getD s.fery.wseq
  let s := s.addCopy cls m since ((lookupK m s.gmap.dir).map (fun d => unitKey d.loc d.xr)) [] (.mapGranule (s.mapEntries m))
  let s := (s.modCopy s.lastCopy (fun c => { c with mapChange := changed })).enqueueUnit (s.reservedAt (16384 * m)) false cls.who
  let s := { s with gmap := { s.gmap with mapDirty := s.gmap.mapDirty.filter (fun p => p.1 ≠ m) } }
  if cls = .relocMap then s else s.debit

/-- A damaged entry found at an access is repaired (R79). A granule that was PINNED is then DIRTY: its slot frees, and with
READY_PERSIST set its held writes are acknowledged, as Table 2-2 has them on a DIRTY granule (DEDUCED: assumption 14). -/
def Dev.fixEntry (s : Dev) (damaged : Bool) (g : Nat) : Dev :=
  if !damaged then s
  else
    let s := s.repairEntry g
    if s.fery.pinned.any (fun p => p.g = g) then
      let s := s.modFery (fun f => { f with pinned := f.pinned.filter (fun p => p.g ≠ g) })
      if s.rdy Rdy.PERSIST then (s.ackHeld (fun (h : HeldWrite) => h.g = g)).restage else s.restage
    else s.restage

/-- Held writes of a granule that a capture now carries (R36, R47). -/
def Dev.carryHeld (s : Dev) (g : Nat) : Dev :=
  { s with hlnk := { s.hlnk with
    held := s.hlnk.held.map (fun (h : HeldWrite) => if h.g = g && h.copy.isNone then { h with copy := some s.lastCopy } else h) } }

/-- Capture a DIRTY granule (Table 2-2): FERRYING, then the copy. -/
def Dev.captureDirty (s : Dev) (g : Nat) : Dev :=
  let s := ((s.setSt g .ferrying).granuleCopy .background g).debit
  (s.carryHeld g).placeAll

/-- Capture a PINNED granule (Table 2-2). -/
def Dev.capturePinned (s : Dev) (g : Nat) : Dev :=
  let s := (s.granuleCopy .thru g).debit
  let s := s.modFery (fun f => { f with
    pinned := f.pinned.map (fun p => if p.g = g then { p with captured := some s.lastCopy, due := false, first := false } else p) })
  (s.carryHeld g).placeAll

/-- The engine captures (Table 4-5). -/
def Dev.capturing (s : Dev) : Bool := s.fery.eng = .run || s.fery.eng = .drain

/-- A clean refetch of the granule runs: its captures from DRAM wait (R217). -/
def Dev.refetching (s : Dev) (g : Nat) : Bool := s.dctl.refetches.any (fun r => r.g = g)

/-- Folds run (R94). While the engine drains none starts: Table 4-5 gives DRAIN the settings of a drain and does not name
folds. DESIGN CHOICE: assumption 91. -/
def Dev.foldsRun (s : Dev) : Bool :=
  s.fery.eng = .run && s.rdy Rdy.RESTORED && s.core.mode = .service && s.regF Reg.FERY_CTL 0 1 = 1

/-- A failed copy may be captured again now: its gate is open (R90), a fold runs only where folds run (R94), and no clean
refetch of its granule runs (R217). -/
def Dev.reissuable (s : Dev) (c : Copy) : Bool :=
  s.gate c.cls && !s.refetching c.idx && (decide (c.cls ≠ .fold) || s.foldsRun)

/-- The failed copy to reissue next: a through-ferry copy before any other (R91), then in the order in which they failed; one
whose gate is closed blocks no other (R90). -/
def Dev.pickReissue (s : Dev) : Option Copy :=
  if !s.capturing then none
  else
    match s.fery.reissue.find? (fun c => c.cls = .thru && s.reissuable c) with
    | some c => some c
    | none => s.fery.reissue.find? s.reissuable

/-- The PINNED granule to capture next, of those whose moment has come: one whose copy was refused first (Table 2-2), then in
the order in which they became PINNED (R91). -/
def Dev.pickPinned (s : Dev) : Option Pinned :=
  if !s.capturing || !s.thruGate then none
  else
    match s.fery.pinned.find? (fun p => p.captured.isNone && p.due && p.first) with
    | some p => some p
    | none => s.fery.pinned.find? (fun p => p.captured.isNone && p.due)

/-- Capture the PINNED granules whose moment has come, while no reissue is ready and a mover and an entry are free (R82, R91);
an access whose cache set has 16 busy ways waits (R68). -/
def Dev.thruGo : Nat → Dev → Dev
  | 0, s => s
  | n + 1, s =>
    match s.pickPinned with
    | none => s
    | some p =>
      if s.pickReissue.isSome then s
      else if !s.hasRoom .thru 1 then s.noRoom .thru 1
      else
        match s.cacheAccess p.g with
        | none => s
        | some s => Dev.thruGo n (s.capturePinned p.g)

/-- The window of a PINNED granule ends (R47): it is captured in its turn (R91). -/
def thruFerryCapture (g : BitVec 26) (damaged : Bool) (s : Dev) : Dev :=
  let n := g.toNat
  if !s.fery.pinned.any (fun p => p.g = n && p.captured.isNone) then s
  else
    let s := s.fixEntry damaged n
    let s := s.modFery (fun f => { f with
      pinned := f.pinned.map (fun p => if p.g = n && p.captured.isNone then { p with due := true } else p) })
    s.thruGo 1024

/-! ### Checkpoints (R74, Table 3-5) -/

/-- The write sequences of the changes that no committed map granule holds. -/
def Dev.uncommitted (s : Dev) : List Nat :=
  s.gmap.mapDirty.map (fun p => p.2) ++
    (s.fery.copies.filter (fun c => (c.cls = .mapGranule || c.cls = .relocMap) && c.mapChange)).map (fun c => c.g)

/-- The write sequence of the oldest such change. -/
def Dev.oldestChange (s : Dev) : Nat := s.uncommitted.foldl min (s.fery.wseq + 1)

/-- ROLL_START: the write sequence of the oldest such change. A granule copy in flight counts: the change that its commit makes
is as old as its capture, and roll-forward must find it (R64). -/
def Dev.rollStart (s : Dev) : Nat :=
  ((s.fery.copies.filter (fun c => !c.refused && c.cls.kind = 1 && !c.cls.isX)).map (fun c => c.wseq)).foldl min s.oldestChange

/-- The write sequences of an image group's units. -/
def Dev.groupWseqs (s : Dev) (code : Nat) : List Nat :=
  ((s.flsh.units.filter (fun p => !p.2.filler && p.1 < 2 ^ 32 && locBlock p.1 = code / 2 ^ 14 && locDie p.1 = bitsOf code 11 3 &&
    locPage p.1 / 3 = bitsOf code 0 11)).map (fun p => p.2.wseq))

/-- An image group still being filled or programmed. -/
def Dev.groupOpen (s : Dev) (code : Nat) : Bool :=
  s.flsh.groups.any (fun g => g.stream = 0 && frontCode g.block g.row g.page = code)

/-- No uncommitted change is older than 3,072 stripes, 256 groups, back (R74), nor older than the mark (R143). -/
def Dev.ckptReady (s : Dev) : Bool :=
  let w := s.flsh.frontWritten
  let bound := if w.length ≤ 256 then 0 else ((s.groupWseqs (w.getD (w.length - 256) 0)).foldl min (s.fery.wseq + 1))
  decide (max bound s.gmap.ckptMark ≤ s.oldestChange)

/-- The groups that a frontier list reaches into: its 4,096 stripes (R74) are 341 groups of 12, and four stripes of the
next. -/
abbrev frontGroups : Nat := 342

/-- Extend the list to its length: the written groups from the one that holds ROLL_START on, those not yet written, and new
ones. -/
def Dev.listFront (s : Dev) : Dev × List Nat :=
  let roll := s.rollStart
  let kept := s.flsh.frontWritten.dropWhile (fun c => !s.groupOpen c && (s.groupWseqs c).all (fun w => decide (w < roll)))
  let have_ := kept ++ s.flsh.frontier.filter s.frontOk ++ s.flsh.frontPend.filter s.frontOk
  let d := match have_.getLast? with | some c => (bitsOf c 11 3 + 1) % max 1 s.geo.diesPerCh | none => 0
  let n := s.flsh.frontPend.length
  let s := s.allocFront d (frontGroups - have_.length)
  (s, have_ ++ s.flsh.frontPend.drop n)

/-- Units of a checkpoint: Table 3-5's bytes. -/
def Dev.ckptUnits (s : Dev) : Nat :=
  ceilDiv (64 + 8 * s.mapGranules + 4 * poisonSpan s.gmap.poisonList + 4 * 4096 + 4) 16384

/-- Capture a checkpoint. -/
def Dev.captureCkpt (s : Dev) : Dev :=
  let roll := s.rollStart
  let n := s.ckptUnits
  let (s, front) := s.listFront
  let s := { s with gmap := { s.gmap with ckptWanted := false, ckptMark := 0, mapCommitted := false } }
  let s := s.enqueueLines (s.reservedAt Res.dir) (ceilDiv (8 * s.mapGranules) 64) false Who.ferry
  let s := s.enqueueLines (s.reservedAt Res.poison) (ceilDiv (4 * poisonSpan s.gmap.poisonList) 64) false Who.ferry
  let s := s.addCopy .checkpoint 0 0 none []
    (.checkpoint (s.gmap.ckptSeq + 1) roll s.ciph.epoch s.gmap.dir s.gmap.poisonList front)
  let s := (List.range (n - 1)).foldl (fun s i => s.addCopy .checkpoint (i + 1) 0 none [] .cont) s
  let f := fun (c : Copy) => if c.cls = .checkpoint then { c with last := decide (c.idx + 1 = n) } else c
  (s.modFery (fun x => { x with copies := x.copies.map f })).placeAll

/-- A checkpoint is on its way. -/
def Dev.ckptBusy (s : Dev) : Bool := s.gmap.ckptLoc.isSome || s.fery.copies.any (fun c => c.cls = .checkpoint)

/-- Ask for a checkpoint that covers every map granule dirty now (R95, R143), or an ordinary one. -/
def Dev.wantCkpt (s : Dev) (all : Bool) : Dev :=
  { s with gmap := { s.gmap with
    ckptWanted := true, ckptMark := if all then s.fery.wseq + 1 else s.gmap.ckptMark } }

/-- When 1,024 listed stripes, 85 groups and the four stripes of the group listed in part, remain unwritten, a checkpoint is
wanted (R74). -/
def Dev.frontLow (s : Dev) : Dev :=
  if s.flsh.frontier.length ≤ 85 && !s.ckptBusy && s.gmap.phase = .live then s.wantCkpt false else s

/-- The checkpoint interval expires (R74). -/
def checkpointInterval (s : Dev) : Dev :=
  if s.gmap.phase = .live && s.gmap.mapCommitted && !s.ckptBusy then (s.wantCkpt false) else s

/-- Every unit of a checkpoint is verified: its CKPT entry is to be programmed (R255). -/
def Dev.ckptVerified (s : Dev) : Dev :=
  match s.flsh.units.find? (fun p => match p.2.payload with
    | .checkpoint q _ _ _ _ _ => decide (q = s.gmap.ckptSeq + 1) && decide (p.1 < 2 ^ 32)
    | _ => false) with
  | some (loc, _) =>
    let s := { s with gmap := { s.gmap with ckptLoc := some loc } }
    (s.modFlsh (fun x => { x with journalNext := x.journalNext ++ [(4, loc)] })).journalStep
  | none => s

/-- The CKPT entry is programmed: the checkpoint is committed (R74, R75, R255). -/
def Dev.ckptCommit (s : Dev) (loc : Nat) : Dev :=
  match lookupK loc s.flsh.units with
  | some u =>
    match u.payload with
    | .checkpoint seq _ _ dir slots _ =>
      let s := { s with gmap := { s.gmap with
        ckptSeq := seq, ckptLoc := none, poisonChanged := slotDiff slots s.gmap.poisonList } }
      let roll := s.rollStart
      let s := s.modFlsh (fun x => { x with
        frontier := x.frontier ++ x.frontPend.dropLast, frontPend := x.frontPend.getLast?.toList
        frontWritten := x.frontWritten.dropWhile (fun c => !s.groupOpen c && (s.groupWseqs c).all (fun w => decide (w < roll))) })
      let s := s.reclaimUnder dir
      let old := (s.flsh.units.filter (fun p => p.2.kind = 6 && decide (p.2.wseq < u.wseq))).map (fun p => p.1)
      ((s.reclaim old).placeAll.journalStep.evalAgain).note .drainCheck
    | _ => s
  | none => s

/-! ### Commits (R63 to R65, R72) -/

/-- The map granule is clean. -/
def Dev.mapClean (s : Dev) (m : Nat) : Bool :=
  !s.gmap.mapDirty.any (fun p => p.1 = m) && !s.mapChanging.contains m

/-- A map granule that a commit changed: the change is as old as the copy (R74). -/
def Dev.markAt (s : Dev) (m w : Nat) : Dev :=
  { s with gmap := { s.gmap with mapDirty := s.gmap.mapDirty.map (fun p => if p.1 = m then (m, min p.2 w) else p) } }

/-- A copy is refused: unreferenced in NAND, and reclaimable at once (R63, R75). -/
def Dev.refuseCopy (s : Dev) (c : Copy) (u : Nat × NUnit) : Dev :=
  let s := ((s.putUnit u).reclaim [u.1]).latch Reg.GMAP_ERR 3
  (s.countReg Reg.GMAP_ERR_COUNT 16 16 1).dropCopy c.id

/-- The granule of a refused or failed copy returns to where it was (Table 2-2). A PINNED granule keeps its place in the order;
after a refusal its new copy is due at once, ahead of other through-ferry captures. -/
def Dev.uncapture (s : Dev) (c : Copy) (refused : Bool) : Dev :=
  let s := { s with hlnk := { s.hlnk with
    held := s.hlnk.held.map (fun (h : HeldWrite) => if h.copy = some c.id then { h with copy := none } else h) } }
  match (s.entry c.idx).st with
  | .ferrying => if c.cls = .background then s.setSt c.idx .dirty else s
  | .redirty => if c.cls = .background then s.setSt c.idx .dirty else s
  | _ => s.modFery (fun f => { f with
      pinned := f.pinned.map (fun p =>
        if p.captured = some c.id then { p with captured := none, due := refused, first := refused } else p) })

/-- The conditions of a commit: R63 gives background and through-ferry copies one set of conditions; folds have those of R94,
relocations those of R268. -/
def Dev.mayCommit (s : Dev) (c : Copy) : Bool :=
  let e := s.entry c.idx
  !c.refused && decide (e.gen = c.g) &&
    (match c.cls with
     | .background | .thru => e.st = .ferrying || e.st = .redirty || e.st = .pinned
     | .fold => e.xr && (e.st = .clean || e.st = .dirty)
     | _ => (e.loc.map (fun l => unitKey l e.xr)) = c.oldLoc && (e.st = .clean || e.st = .dirty))

/-- STATE after a commit (Table 2-2). -/
def Dev.committedSt (s : Dev) (c : Copy) : GState :=
  if c.cls = .background || c.cls = .thru then
    match (s.entry c.idx).st with
    | .redirty => .dirty
    | .pinned => if s.hlnk.held.any (fun h => h.g = c.idx && decide (h.copy ≠ some c.id)) then .pinned else .clean
    | _ => .clean
  else (s.entry c.idx).st

/-- The slot of a PINNED granule after a commit: freed, or a fresh window (R47). -/
def Dev.pinnedAfter (s : Dev) (c : Copy) : Dev :=
  if (s.entry c.idx).st = .pinned then
    s.modFery (fun f => { f with pinned := f.pinned.map (fun p =>
      if p.g = c.idx then { p with captured := none, due := false, first := false, since := s.ticks } else p) })
  else s.modFery (fun f => { f with pinned := f.pinned.filter (fun p => p.g ≠ c.idx) })

/-- Commit a granule copy (R63): LOC, REGION 0, GEN + 1, POISON and STATE; the old copy is superseded. -/
def Dev.commitCopy (s : Dev) (c : Copy) (u : Nat × NUnit) : Dev :=
  let e := s.entry c.idx
  let old := e.loc.map (fun l => unitKey l e.xr)
  let s := s.putUnit u
  let s := s.setEntry c.idx { e with
    st := s.committedSt c, loc := some (u.1 % 2 ^ 32), xr := false, gen := (c.g + 1) % 4096, poison := decide (c.poison ≠ []) }
  let s := s.markAt (c.idx / 2048) c.wseq
  let s := match old with | some k => s.supersede k (c.idx / 2048) | none => s
  let s := (s.pinnedAfter c).dropCopy c.id
  let fold := c.cls = .fold
  let s := s.modFery (fun f => { f with
    commits := (f.commits + 1) % 2 ^ 64
    rateNow := if c.cls = .background || c.cls = .thru then f.rateNow + 16384 else f.rateNow
    foldNow := if fold then f.foldNow + 16384 else f.foldNow
    failStreak := eraseK c.idx f.failStreak
    drainOnce := if c.cls = .background then f.drainOnce.erase c.idx else f.drainOnce })
  let s := (s.cacheDirty c.idx).ackHeld (fun (h : HeldWrite) => h.copy = some c.id)
  (((s.restage.gpfCheck).retireIdle.note .drainCheck).note .retry).evalAgain

/-- A granule copy's last unit is verified (R63, R72): it commits, is refused, or waits, for the cap of R72 or for a way of the
map cache (R68). -/
def Dev.granuleDone (s : Dev) (c : Copy) (u : Nat × NUnit) : Dev :=
  if !s.mayCommit c then
    let s := s.refuseCopy c u
    if c.refused then s else ((s.uncapture c true).restage.note .drainCheck).note .retry
  else if s.mapClean (c.idx / 2048) && decide (s.capEff ≤ s.mapDirtyCount) then
    (s.putUnit u).modFlsh (fun x => { x with commitWait := x.commitWait ++ [c.id] })
  else
    match s.cacheAccess c.idx with
    | none => (s.putUnit u).modFlsh (fun x => { x with commitWait := x.commitWait ++ [c.id] })
    | some s => s.commitCopy c u

/-- Commits that wait for the cap of R72 are tried again, oldest first. -/
def Dev.retryCommits (s : Dev) : Dev :=
  let ws := s.flsh.commitWait
  ws.foldl (fun s id =>
    match s.copy? id with
    | some c =>
      match c.loc with
      | some l =>
        match lookupK l s.flsh.units with
        | some u => s.granuleDone c (l, u)
        | none => s
      | none => s
    | none => s) (s.modFlsh (fun x => { x with commitWait := [] }))

/-- A map-granule copy is verified (R72): the directory names it, and the copy it replaces is superseded. -/
def Dev.mapDone (s : Dev) (c : Copy) (u : Nat × NUnit) : Dev :=
  if c.refused then s.refuseCopy c u
  else
    let old := lookupK c.idx s.gmap.dir
    let s := (s.putUnit u).dropCopy c.id
    let s := { s with gmap := { s.gmap with
      dir := insertK c.idx { loc := u.1 % 2 ^ 32, xr := false } s.gmap.dir, mapCommitted := true } }
    let s := match old with | some d => s.supersede (unitKey d.loc d.xr) (2 ^ 20 + c.idx) | none => s
    let s := s.modFery (fun f => { f with commits := (f.commits + 1) % 2 ^ 64 })
    (s.retryCommits.retireIdle.evalAgain).note .drainCheck

/-- A unit of a checkpoint is verified. -/
def Dev.ckptUnitDone (s : Dev) (c : Copy) (u : Nat × NUnit) : Dev :=
  let s := (s.putUnit u).dropCopy c.id
  if c.refused then s.reclaim [u.1]
  else
    let s := s.modFery (fun f => { f with commits := (f.commits + 1) % 2 ^ 64 })
    if s.fery.copies.any (fun x => x.cls = .checkpoint) then s else s.ckptVerified

/-- A copy of a ferry class is programmed and verified. -/
def Dev.ferryDone (s : Dev) (c : Copy) (u : Nat × NUnit) : Dev :=
  match c.cls with
  | .mapGranule => s.mapDone c u
  | .relocMap => s.mapDone c u
  | .checkpoint => s.ckptUnitDone c u
  | _ => s.granuleDone c u

/-- A map granule whose copy failed or was refused is dirty again, where that copy carried a change (R72). -/
def Dev.mapAgain (s : Dev) (c : Copy) : Dev :=
  if c.mapChange then
    { s with gmap := { s.gmap with mapDirty := (c.idx, c.g) :: s.gmap.mapDirty.filter (fun p => p.1 ≠ c.idx) } }
  else s

/-- A copy of a ferry class failed (R92): abandoned, recorded and to be reissued; a background granule that fails four times in
a row is parked. The granule index of LT_FERRY_COPY_FAIL for a map granule or a checkpoint is not stated: it is 0. DESIGN
CHOICE: assumption 92. -/
def Dev.ferryFailed (s : Dev) (c : Copy) : Dev :=
  let s := s.dropCopy c.id
  if c.refused then s
  else
    let s := (s.latch Reg.FERY_ERR 0).countReg Reg.FERY_ERR_COUNT 0 16 1
    match c.cls with
    | .mapGranule => (s.mapAgain c).logStd LT.FERRY_COPY_FAIL 0 0
    | .relocMap => (s.mapAgain c).logStd LT.FERRY_COPY_FAIL 0 0
    | .checkpoint =>
      let s := s.modFery (fun f => { f with copies := f.copies.map (fun x => if x.cls = .checkpoint then { x with refused := true } else x) })
      { s with gmap := { s.gmap with ckptWanted := true } }.logStd LT.FERRY_COPY_FAIL 0 0
    | _ =>
      let s := s.uncapture c false
      let n := if c.cls = .background then getD 0 c.idx s.fery.failStreak + 1 else 0
      if n = 4 then
        let s := s.modFery (fun f => { f with parked := insertN c.idx f.parked, failStreak := eraseK c.idx f.failStreak })
        ((s.latch Reg.FERY_ERR 2).logStd LT.FERRY_COPY_FAIL c.idx 1).restage
      else
        let s := s.modFery (fun f => { f with
          reissue := f.reissue ++ [c], failStreak := if c.cls = .background then insertK c.idx n f.failStreak else f.failStreak })
        (s.logStd LT.FERRY_COPY_FAIL c.idx 0).restage

/-- One second after its parking a granule may be a candidate again (R92). -/
def ferryParkExpiry (g : BitVec 26) (s : Dev) : Dev :=
  (s.modFery (fun f => { f with parked := f.parked.erase g.toNat }))

/-! ### Folds and relocation (R94, R268) -/

/-- Capture a CLEAN granule of the crossing region, which is debited, or of a victim block row, which is not (R268). -/
def Dev.captureClean (s : Dev) (cls : Cls) (g : Nat) : Dev :=
  let s := s.granuleCopy cls g
  (if cls = .fold then s.debit else s).placeAll


/-- An index record names a granule to fold. -/
def Dev.foldable (s : Dev) (r : IndexRec) : Bool :=
  let e := s.entry r.g
  e.xr && e.loc = some r.loc && e.st = .clean

/-- The next entry from a granule on whose REGION is 1. -/
def Dev.nextXr (s : Dev) (g : Nat) : Option (Nat × GEntry) :=
  s.gmap.entries.find? (fun p => g ≤ p.1 && p.2.xr)

/-- The walk of folds advances to the next record to fold, which it takes (R94). -/
def Dev.foldNext (s : Dev) : Dev × Option Nat :=
  match s.fery.fold with
  | .index rs =>
    match rs.dropWhile (fun r => !s.foldable r) with
    | r :: rest => (s.modFery (fun f => { f with fold := .index rest }), some r.g)
    | [] =>
      (s.modFery (fun f => { f with fold := if 0 < s.xrHeld && !f.foldTableDone then .table 0 else .none }), none)
  | .table g =>
    match s.nextXr g with
    | some (n, e) => (s.modFery (fun f => { f with fold := .table (n + 1) }), if e.st = .clean then some n else none)
    | none => (s.modFery (fun f => { f with fold := .none, foldTableDone := true }), none)
  | .none => (s, none)

/-- A candidate passes the checks at capture (R86), or was queued by DRAIN_ONCE (R103). -/
def Dev.candOk (s : Dev) (g : Nat) : Bool :=
  let e := s.entry g
  e.st = .dirty && !s.fery.parked.contains g && (decide (s.quiet ≤ e.age) || s.fery.drainOnce.contains g)

/-- The oldest dirty map granule that no copy carries already (R72). -/
def Dev.mapNext (s : Dev) : Option Nat :=
  (s.gmap.mapDirty.find? (fun p => !s.mapInFlight.contains p.1)).map (fun p => p.1)

/-- A map granule is to be captured; the engine writes map granules in IDLE for the checkpoint that ends a drain (R95). -/
def Dev.mapReady (s : Dev) : Bool :=
  (s.capturing || (s.fery.eng = .idle && s.gmap.ckptWanted)) && s.floorGate && s.mapNext.isSome

/-- A checkpoint is to be captured (R74). -/
def Dev.ckptGo (s : Dev) : Bool :=
  (s.capturing || (s.fery.eng = .idle && s.gmap.ckptWanted)) && s.floorGate && s.gmap.ckptWanted && !s.ckptBusy && s.ckptReady

/-- A background candidate is to be captured (R86, R90). -/
def Dev.bgReady (s : Dev) : Bool :=
  s.capturing && s.bgGate && (s.fery.cand.any (fun c => s.candOk c.1) || s.fery.drainOnce.any s.candOk)

/-- A class above the map's in Table 4-1 has work ready (R82): a reissue, or a PINNED granule whose moment has come. -/
def Dev.thruReady (s : Dev) : Bool := s.pickReissue.isSome || s.pickPinned.isSome

/-- A class above folds in Table 4-1 has work ready (R82). -/
def Dev.aboveFold (s : Dev) : Bool := s.thruReady || s.mapReady || s.ckptGo || s.bgReady

/-- The walk captures the next fold (R94), where no class above it has work ready (R82). -/
def foldCapture (damaged : Bool) (s : Dev) : Dev :=
  if !s.foldsRun || s.aboveFold then s
  else if !s.hasRoom .fold 1 then (s.noRoom .fold 1)
  else
    match s.foldNext with
    | (s', none) => s'
    | (s', some g) =>
      if s.refetching g then s else
      match (s'.fixEntry damaged g).cacheAccess g with
      | none => s
      | some s => if (s.entry g).xr && (s.entry g).st = .clean then (s.captureClean .fold g) else s

/-- The entry or the directory still names a unit, and the granule is CLEAN (R268). -/
def Dev.relocatable (s : Dev) (u : Nat × NUnit) : Bool :=
  if u.2.kind = 1 then
    let e := s.entry u.2.idx
    e.st = .clean && !s.dctl.refetches.any (fun r => r.g = u.2.idx) && e.loc.map (fun l => unitKey l e.xr) = some u.1
  else (lookupK u.2.idx s.gmap.dir).map (fun d => unitKey d.loc d.xr) = some u.1 && !s.mapInFlight.contains u.2.idx

/-- A copy is on its way for this unit. -/
def Dev.beingMoved (s : Dev) (k : Nat) : Bool := s.fery.copies.any (fun c => c.oldLoc = some k)

/-- Image block rows that relocation may empty, on die rows with fewer than FLSH_GC.LOW erased: the one with the fewest live
units first (R268). -/
def Dev.gcVictim (s : Dev) : Option Nat :=
  let low := max 1 (s.regF Reg.FLSH_GC 0 8)
  let rows := s.flsh.rows.filter (fun p => (p.2.st = .full || p.2.st = .closed) && s.imgFirst ≤ p.1 / 8 &&
    decide (s.erasedImgRows (p.1 % 8) < low))
  let live (k : Nat) : Nat := s.flsh.units.countP (fun u => keyRow u.1 = k && s.liveUnit u)
  (rows.foldl (fun best p =>
    let n := live p.1
    match best with
    | some (m, _) => if 0 < n && n < m then some (n, p.1) else best
    | none => if 0 < n then some (n, p.1) else none) none).map (fun p => p.2)

/-- The unit that relocation moves next: of a stripe without redundancy, of a marked block, or of a victim row. -/
def Dev.relocNext (s : Dev) : Option (Nat × NUnit) :=
  let go (p : Nat × NUnit) : Bool :=
    s.liveUnit p && s.relocatable p && !s.beingMoved p.1 && (lookupK p.1 s.flsh.rebuilds).isNone
  match s.flsh.units.find? (fun p => s.flsh.exposed.contains p.1 && go p) with
  | some u => some u
  | none =>
    match s.flsh.units.find? (fun p => s.flsh.marked.any (fun m => m.1 = locPos (p.1 % 2 ^ 32)) && go p) with
    | some u => some u
    | none =>
      match s.gcVictim with
      | some k => s.flsh.units.find? (fun p => keyRow p.1 = k && go p)
      | none => none

/-- Relocation runs (Table 11-11). -/
def Dev.relocRuns (s : Dev) : Bool :=
  s.rdy Rdy.RESTORED && (s.core.mode = .service || s.core.mode = .maintenance) &&
    !(s.fery.eng = .halted || s.fery.eng = .off || s.fery.eng = .lent)

/-- Relocation copies a live unit (R267, R268, R270); one on a lost die is rebuilt from its stripe first (R261). -/
def relocationCapture (damaged : Bool) (s : Dev) : Dev :=
  if !s.relocRuns then s
  else
    match s.relocNext with
    | none => s
    | some u =>
      if !s.dieWorks (locCh u.1) (locDie u.1) && !s.flsh.rebuilt.contains u.1 then s.rebuildStart u
      else if !s.hasRoom .relocGranule 1 then (s.noRoom .relocGranule 1)
      else if u.2.kind = 1 then
        match (s.fixEntry damaged u.2.idx).cacheAccess u.2.idx with
        | none => s
        | some s => if s.relocatable u then (s.captureClean .relocGranule u.2.idx) else s
      else (s.mapCopy .relocMap u.2.idx).placeAll

/-! ### Choosing granules (R85, R86) -/


/-- The candidate that a mover takes: the highest AGE, and among equals the first queued (R86). -/
def bestCand (l : List (Nat × Nat)) : Option (Nat × Nat) :=
  l.foldl (fun b c => match b with | some x => if x.2 < c.2 then some c else b | none => some c) none

/-- Take candidates until one passes; those that fail are dropped. -/
def Dev.takeCand (s : Dev) : Nat → Dev × Option Nat
  | 0 => (s, none)
  | n + 1 =>
    match bestCand s.fery.cand with
    | none =>
      match s.fery.drainOnce.find? s.candOk with
      | some g => (s, some g)
      | none => (s, none)
    | some c =>
      let s := s.modFery (fun f => { f with cand := f.cand.erase c })
      if s.candOk c.1 then (s, some c.1) else Dev.takeCand s n

/-- Queue a candidate (R86). -/
def queueCand (l : List (Nat × Nat)) (g age : Nat) : List (Nat × Nat) :=
  if l.any (fun c => c.1 = g) then l.map (fun c => if c.1 = g then (g, age) else c)
  else if l.length < 8192 then l ++ [(g, age)]
  else
    let low := l.foldl (fun m c => min m c.2) 16
    if low < age then
      match l.reverse.find? (fun c => c.2 = low) with
      | some c => (l.reverse.erase c).reverse ++ [(g, age)]
      | none => l
    else l

/-- A pass starts untimed at URGENT or higher with few candidates (R86). -/
def Dev.untimedPass (s : Dev) : Dev :=
  if s.urgent && s.fery.cand.length < 1024 && s.fery.sweep.isNone && s.capturing then
    s.modFery (fun f => { f with sweep := some (s.ticks, false) })
  else s

/-- A mover takes a map granule, a checkpoint or a candidate, in the order of Table 4-1 (R82, R86, R90), where no reissue and
no PINNED granule is ready. A candidate whose cache set has 16 busy ways waits in its queue (R68). -/
def ferryCapture (damaged : Bool) (s : Dev) : Dev :=
  if s.thruReady then s
  else if s.mapReady then
    if !s.hasRoom .mapGranule 1 then (s.noRoom .mapGranule 1) else (s.mapCopy .mapGranule (s.mapNext.getD 0)).placeAll
  else if s.ckptGo then
    if !s.hasRoom .checkpoint s.ckptUnits then (s.noRoom .checkpoint s.ckptUnits) else s.captureCkpt
  else if !s.capturing || !s.bgGate then s
  else if !s.hasRoom .background 1 then (s.noRoom .background 1)
  else
    match s.takeCand 8193 with
    | (s, none) => s.untimedPass
    | (s', some g) =>
      match (s'.fixEntry damaged g).cacheAccess g with
      | none => s.fixEntry damaged g
      | some s => if s.candOk g then (s.captureDirty g).untimedPass else s.untimedPass

/-- Capture a failed copy again, as its class has it, where its granule still stands as that class needs. -/
def Dev.recapture (s : Dev) (c : Copy) : Dev :=
  let e := s.entry c.idx
  match c.cls with
  | .background => if e.st = .dirty && !s.fery.parked.contains c.idx then (s.captureDirty c.idx) else s
  | .thru =>
    if e.st = .pinned && s.fery.pinned.any (fun p => p.g = c.idx && p.captured.isNone) then (s.capturePinned c.idx) else s
  | _ => if e.st = .clean && e.loc.map (fun l => unitKey l e.xr) = c.oldLoc then (s.captureClean c.cls c.idx) else s

/-- A copy that failed is reissued, once every unit operation of the failed copy has returned (R91, R92). Its new copy has the
rank of a reissue (R83). -/
def ferryReissue (damaged : Bool) (s : Dev) : Dev :=
  match s.pickReissue with
  | none => s
  | some c =>
    if !s.hasRoom c.cls 1 then (s.noRoom c.cls 1)
    else
      match (s.fixEntry damaged c.idx).cacheAccess c.idx with
      | none => s
      | some s =>
        let n := s.fery.nextCopy
        let s := (s.modFery (fun f => { f with reissue := f.reissue.erase c })).recapture c
        if s.fery.nextCopy = n then s else s.modCopy (n + 1) (fun x => { x with reissued := true })

/-- The sweep period expires (R85). A timed pass that still runs delays its successor and sets SWEEP_LATE; an untimed pass only
delays it. While the engine is LENT no pass starts, and the one that ran has ended with the crossing's first action: R85 does
not say whether passes go on then. DESIGN CHOICE: assumption 93. -/
def sweepPassStart (s : Dev) : Dev :=
  if s.fery.eng = .off || s.fery.eng = .lent then s
  else
    match s.fery.sweep with
    | some (_, timed) =>
      let s := s.modFery (fun f => { f with sweepDue := true })
      if timed then s.latch Reg.FERY_ERR 5 else s
    | none => (s.modFery (fun f => { f with sweep := some (s.ticks, true) }))

/-- One line of a pass: AGE of its DIRTY entries on a timed pass, its candidates, and its summary bit (R85, R86). -/
def Dev.sweepLine (s : Dev) (timed : Bool) (damaged : List (BitVec 26)) (line : Nat) : Dev :=
  let gs := (List.range 8).map (fun i => 8 * line + i)
  let s := gs.foldl (fun s g =>
    let s := s.fixEntry (damaged.any (fun x => x.toNat = g)) g
    let e := s.entry g
    if e.st = .dirty then
      let age := if timed then min 15 (e.age + 1) else e.age
      let s := s.setEntry g { e with age := age }
      if s.quiet ≤ age && !s.fery.parked.contains g then
        s.modFery (fun f => { f with cand := queueCand f.cand g age })
      else s
    else s) s
  if gs.any (fun g => (s.entry g).st.counted) then s
  else s.modFery (fun f => { f with summary := f.summary.erase line })

/-- A pass ends: every line whose summary bit is set has been visited in ascending order (R85, R86). `damaged` are the granules
whose entries the pass found damaged (R60). -/
def sweepPassEnd (damaged : List (BitVec 26)) (s : Dev) : Dev :=
  match s.fery.sweep with
  | none => s
  | some (start, timed) =>
    let s := s.fery.summary.foldl (fun s l => s.sweepLine timed damaged l) s
    let s := s.modFery (fun f => { f with sweep := none })
    let s := if timed then
        let ms := min 65535 (ceilDiv (s.ticks - start) 25000)
        let s := s.modFery (fun f => { f with sweepPasses := (f.sweepPasses + 1) % 65536 })
        s.setRegF Reg.FERY_SWEEP_STATUS 0 16 ms
      else s
    if s.fery.sweepDue then (s.modFery (fun f => { f with sweepDue := false, sweep := some (s.ticks, true) }))
    else s.untimedPass

/-- A write of FERY_CTL.DRAIN_ONCE (R103): every granule that is DIRTY now. -/
def ferryDrainOnce (src : Src) (s : Dev) : Dev :=
  (s.guarded src Reg.FERY_CTL (fun s =>
    let l := (s.gmap.entries.filter (fun p => p.2.st = .dirty)).map (fun p => p.1)
    (s.modFery (fun f => { f with drainOnce := l })).writeStatus src .ok))

/-! ### Group close (R254) -/

/-- What one kind of filler does for a free position: it fills it, it has work that waits for a mover, an entry or a cache way,
or it has none. -/
inductive Fill where
  | filled (s : Dev)
  | waits
  | nothing

/-- A DIRTY granule of any AGE: of the candidate queue first, then the lowest (R254). -/
def Dev.anyDirty (s : Dev) : Option Nat :=
  (s.fery.cand.map (fun c => c.1) ++ (s.gmap.entries.filter (fun p => p.2.st = .dirty)).map (fun p => p.1)).find?
    (fun g => (s.entry g).st = .dirty && !s.fery.parked.contains g)

/-- Fill one free position of a group with a background candidate of any AGE under its gate. -/
def Dev.fillOne (s : Dev) (damaged : List (BitVec 26)) : Fill :=
  if !s.capturing || !s.bgGate then .nothing
  else
    match s.anyDirty with
    | none => .nothing
    | some g =>
      if !s.hasRoom .background 1 then .waits
      else
        match (s.fixEntry (damaged.any (fun x => x.toNat = g)) g).cacheAccess g with
        | none => .waits
        | some s => .filled ((s.modFery (fun f => { f with cand := f.cand.filter (fun c => c.1 ≠ g) })).captureDirty g)

/-- The fold that fills a position; a granule that a clean refetch holds is not folded now (R217). -/
def Dev.fillFold (s : Dev) (damaged : List (BitVec 26)) : Fill :=
  if !s.foldsRun then .nothing
  else
    match s.foldNext with
    | (_, none) => .nothing
    | (s', some g) =>
      if s.refetching g then .nothing
      else if !s.hasRoom .fold 1 then .waits
      else
        match (s'.fixEntry (damaged.any (fun x => x.toNat = g)) g).cacheAccess g with
        | none => .waits
        | some s => if (s.entry g).xr && (s.entry g).st = .clean then .filled (s.captureClean .fold g) else .filled s

/-- The relocation that fills a position. -/
def Dev.fillReloc (s : Dev) : Fill :=
  if !s.relocRuns || s.relocNext.isNone then .nothing
  else if !s.hasRoom .relocGranule 1 then .waits
  else
    let s' := relocationCapture false s
    if s'.fery.copies.length = s.fery.copies.length then .nothing else .filled s'

/-- The order of the fillers (R254). -/
def Dev.fillNext (s : Dev) (damaged : List (BitVec 26)) : Fill :=
  match s.fillOne damaged with
  | .nothing => match s.fillFold damaged with | .nothing => s.fillReloc | x => x
  | x => x

/-- Fill a group's free positions; what no filler takes is filled with pads. -/
def Dev.fillGroup (damaged : List (BitVec 26)) (id : Nat) : Nat → Dev → Dev
  | 0, s => s
  | n + 1, s =>
    let open_ := s.flsh.groups.any (fun g => g.id = id && decide (g.copies.length < g.pos.length))
    if !open_ then s
    else
      match s.fillNext damaged with
      | .filled s => Dev.fillGroup damaged id n s
      | .waits => s
      | .nothing =>
        s.modFlsh (fun x => { x with groups := x.groups.map (fun y => if y.id = id then { y with padded := true } else y) })

/-- Groups whose close time is over are filled as far as movers allow, and launched when they are full (R254). -/
def Dev.fillClosing (s : Dev) (damaged : List (BitVec 26)) : Dev :=
  let gs := s.flsh.groups.filter (fun g => g.closing && !g.launched && !g.padded)
  if gs.isEmpty || s.fery.eng = .lent then s
  else (gs.foldl (fun s g => Dev.fillGroup damaged g.id (2 * g.pos.length) s) s).launchAll

/-- CLOSE_US after its first unit an image group is filled and launched (R254). -/
def groupCloseTimeout (damaged : List (BitVec 26)) (s : Dev) : Dev :=
  match s.flsh.groups.find? (fun g => g.stream = 0 && !g.launched && !g.padded && !g.closing && g.copies ≠ []) with
  | none => s
  | some g =>
    (s.modFlsh (fun x => { x with groups := x.groups.map (fun y => if y.id = g.id then { y with closing := true } else y) })).fillClosing damaged

/-! ### Engine states (Table 4-5) -/

/-- OFF to RUN: the sweeper starts and READY_FERRY sets. -/
def Dev.ferryStart (s : Dev) : Dev :=
  if s.fery.eng ≠ .off then s
  else ((s.modFery (fun f => { f with eng := .run, cand := [], sweep := some (s.ticks, true) })).setReady Rdy.FERRY).restage

/-- The epoch cannot be advanced (R98). -/
def Dev.ferryHalt (s : Dev) : Dev :=
  match s.fery.eng with
  | .run => ((s.modFery (fun f => { f with eng := .halted })).clrReady Rdy.FERRY |>.latch Reg.FERY_ERR 3).logStd LT.FERRY_HALT 0 0
  | .idle => ((s.modFery (fun f => { f with eng := .halted })).clrReady Rdy.FERRY |>.latch Reg.FERY_ERR 3).logStd LT.FERRY_HALT 0 0
  | .drain =>
    ((s.modFery (fun f => { f with eng := .halted, drainPending := true })).clrReady Rdy.FERRY |>.latch Reg.FERY_ERR 3).logStd LT.FERRY_HALT 0 0
  | _ => s

/-- READY_CIPHER sets in HALTED. -/
def Dev.ferryResume (s : Dev) : Dev :=
  if s.fery.eng ≠ .halted then s
  else if s.fery.drainPending || s.core.mode = .maintenance then
    s.modFery (fun f => { f with eng := .drain, drainPending := false })
  else if s.core.mode = .restore || s.core.mode = .service then
    (s.modFery (fun f => { f with eng := .run })).setReady Rdy.FERRY
  else s

/-- MAINT_ENTER is accepted. -/
def Dev.ferryDrain (s : Dev) : Dev :=
  match s.fery.eng with
  | .run => s.modFery (fun f => { f with eng := .drain })
  | .halted => s.modFery (fun f => { f with drainPending := true })
  | _ => s

/-- MAINT_EXIT, or the transition to MAINTENANCE is cancelled (R12). -/
def Dev.ferryUndrain (s : Dev) : Dev :=
  match s.fery.eng with
  | .drain => (s.modFery (fun f => { f with eng := .run })).setReady Rdy.FERRY
  | .idle => (s.modFery (fun f => { f with eng := .run })).setReady Rdy.FERRY
  | .halted => s.modFery (fun f => { f with drainPending := false })
  | _ => s

/-- A drain ends with D = 0 and no PINNED granule: a checkpoint, and IDLE. -/
def Dev.drainEnd (s : Dev) : Dev :=
  if s.fery.eng = .drain && s.dirtyGranules = 0 && s.fery.pinned.isEmpty then
    ((s.modFery (fun f => { f with eng := .idle })).clrReady Rdy.FERRY).wantCkpt true
  else s

/-- D > 0 in MAINTENANCE takes the engine from IDLE to DRAIN (R96), and so does a write that arrives there on an earlier credit and
is through-ferried (R158; DEDUCED: assumption 48). -/
def Dev.idleDrain (s : Dev) : Dev :=
  if s.fery.eng = .idle && s.core.mode = .maintenance && (decide (0 < s.dirtyGranules) || !s.fery.pinned.isEmpty) then
    s.modFery (fun f => { f with eng := .drain })
  else s

/-- Channels whose share of a group is in progress or suspended. -/
def Dev.startedShares (s : Dev) (g : Group) : List Nat :=
  let has_ (x : Option Desc) : Bool := match x with | some y => decide (y.op = DOp.program g.id) | none => false
  g.left.filter (fun c => has_ (s.die c g.row).cur || has_ (s.die c g.row).susp)

/-- Some program of an image group has started. -/
def Dev.groupBegun (s : Dev) (g : Group) : Bool :=
  g.launched && (s.startedShares g ≠ [] || decide (g.left.length + g.failed.length < (g.pos.map (fun p => locCh p.1)).eraseDups.length))

/-- A group as R97 leaves it: shares that have not started have failed. -/
def Dev.cutGroup (s : Dev) (g : Group) : Group :=
  { g with left := s.startedShares g, failed := g.failed ++ g.left.filter (fun c => !(s.startedShares g).contains c) }

/-- What R97 withdraws: groups none of whose programs has started leave their positions to the frontier; shares that have not
started leave the groups that have; copies go with their groups, and those that stay are refused. -/
def Dev.ferryWithdraw (s : Dev) : Dev :=
  let waiting := s.flsh.commitWait.filterMap (fun id => (s.copy? id).bind (fun c => c.loc))
  let s := (s.reclaim waiting).countReg Reg.GMAP_ERR_COUNT 16 16 waiting.length
  let s := if waiting.isEmpty then s else s.latch Reg.GMAP_ERR 3
  let img := s.flsh.groups.filter (fun (g : Group) => decide (g.stream = 0))
  let other := s.flsh.groups.filter (fun (g : Group) => decide (g.stream ≠ 0))
  let stay := img.filter s.groupBegun
  let back := img.filter (fun g => !s.groupBegun g)
  let keep := stay.flatMap (fun g => g.copies)
  let ids := ((s.fery.copies.filter (fun (c : Copy) => !c.cls.isX && !keep.contains c.id)).map (fun c => c.id))
  let maps := (s.fery.copies.filter (fun (c : Copy) => (c.cls = .mapGranule || c.cls = .relocMap) && c.mapChange)).map
    (fun c => (c.idx, c.g))
  let codes := back.map (fun g => frontCode g.block g.row g.page)
  let cut := stay.map s.cutGroup
  let s := s.cipherDrop (fun w => match w with | .copy id => ids.contains id | _ => false)
  let dirty := maps.foldl (fun (l : List (Nat × Nat)) p => if l.any (fun q => q.1 = p.1) then l else p :: l) s.gmap.mapDirty
  let s := { s with gmap := { s.gmap with ckptWanted := false, ckptMark := 0, ckptLoc := none, mapDirty := dirty } }
  let s := s.modFlsh (fun x => { x with
    groups := other ++ cut
    frontier := codes ++ x.frontier
    frontWritten := x.frontWritten.filter (fun c => !codes.contains c)
    commitWait := [] })
  let s := back.foldl (fun s g => s.modRow (rowKey g.block g.row) (fun r => { r with st := .opened })) s
  let s := s.keepDescs (fun o => match o with | .program _ => false | _ => true)
  let left := s.fery.copies.filter (fun (c : Copy) => c.cls.isX || keep.contains c.id)
  s.modFery (fun f => { f with copies := left.map (fun (c : Copy) => { c with refused := true }), reissue := [] })

/-- The first action of a crossing (Table 4-5, R97). -/
def Dev.ferryLend (s : Dev) : Dev :=
  if s.fery.eng = .off then s.ferryWithdraw
  else (s.ferryWithdraw.modFery (fun f => { f with eng := .lent, drainPending := false, sweep := none, sweepDue := false })).clrReady Rdy.FERRY

/-- The down-timetable starts. -/
def Dev.ferryOff (s : Dev) : Dev :=
  let s := s.clrReady Rdy.FERRY
  s.modFery (fun f => { FerySt.reset with
    wseq := f.wseq, nextCopy := f.nextCopy, wear := f.wear, wearTotal := f.wearTotal, commits := f.commits, k := f.k,
    kUpdates := f.kUpdates, kFromRecord := f.kFromRecord })

end Sys2Proof.Machine
end

