-- ==== Sys2Proof/Machine/Xing.lean ====
section
/-!
DEFINITION. The crossing (chapter 5): arming, the first action, the save of R110, its records and faults, and the warm landing.
-/
namespace Sys2Proof.Machine

/-- Change XING's save half. -/
def Dev.modXing (s : Dev) (f : XingSt → XingSt) : Dev := { s with xing := f s.xing }

/-- Change XING's restore half. -/
def Dev.modLand (s : Dev) (f : LandSt → LandSt) : Dev := { s with land := f s.land }

/-- Change the map's state. -/
def Dev.modGmap (s : Dev) (f : GmapSt → GmapSt) : Dev := { s with gmap := f s.gmap }

/-- The code of a crossing state (XING_STATUS.STATE). -/
def XState.code : XState → Nat
  | .disarmed => 0 | .armed => 1 | .quiesce => 2 | .opened => 3 | .carry => 4 | .close => 5 | .committed => 6 | .abandoned => 7

/-! ### Arming (R106, Table 5-2) -/

/-- XING_ARM.COND. -/
def Dev.armCond (s : Dev) : Nat :=
  b2n (s.rdy Rdy.MAP) + 2 * b2n (s.rdy Rdy.NAND) + 4 * b2n (s.rdy Rdy.CIPHER) + 8 * b2n s.battValid +
    16 * b2n (decide (s.mapReserve ≤ s.xrUsable)) + 32 * b2n s.keysOk +
    64 * b2n (decide (s.mapDirtyCount ≤ s.capEffAt s.fery.bArm)) +
    128 * b2n (s.core.mode = .restore || s.core.mode = .service || s.core.mode = .maintenance)

/-- Writes held because READY_PERSIST was clear are acknowledged when it sets (R36): those on granules counted in D. -/
def Dev.ackPersist (s : Dev) : Dev := (s.ackHeld (fun (h : HeldWrite) => (s.entry h.g).st.counted)).gpfCheck

/-- DISARMED to ARMED and back (Table 5-7, R143). -/
def Dev.armEval (s : Dev) : Dev :=
  match s.xing.st with
  | .disarmed =>
    if s.armCond = 255 && s.land.sessionOpen then
      (((s.modXing (fun x => { x with st := .armed })).setReady Rdy.PERSIST).recompute).ackPersist
    else s
  | .armed =>
    if s.armCond = 255 then s
    else ((s.modXing (fun x => { x with st := .disarmed })).clrReady Rdy.PERSIST).recompute
  | _ => s

/-! ### The record numbers (R119) -/

/-- CROSS_SEQ of a record's bytes. -/
def recSeq (p : Payload) : Nat :=
  match p with
  | .opening b => leAt b 8 8
  | .commitRec b => leAt b 8 8
  | _ => 0

/-- A record's bytes hold its TAG, its FORMAT and its trailing CRC-32C (R119). -/
def recWhole (b : Bytes) (tag n : Nat) : Bool :=
  decide (leAt b 0 4 = tag) && decide (leAt b 4 2 = 1) && decide (leAt b (n - 4) 4 = crc32c (subBytes b 0 (n - 4)))

/-- The copy of a record is valid, as far as its bytes say (R119). -/
def recGood (p : Payload) : Bool :=
  match p with
  | .opening b => recWhole b 0x58434F50 64
  | .commitRec b => recWhole b 0x5843434D 256
  | _ => false

/-- The valid copies of records, those on dies that can be read. -/
def Dev.validRecs (s : Dev) : List (Nat × Payload) := s.flsh.records.filter (fun r => recGood r.2 && s.dieWorks (r.1 / 4096) 0)

/-- The CROSS_SEQ that the next crossing uses: one more than the highest among valid records (R119). -/
def Dev.nextCross (s : Dev) : Nat := s.validRecs.foldl (fun m r => max m (recSeq r.2)) 0 + 1

/-! ### The first action (R107 to R109, R112) -/

/-- An erase. -/
def Desc.isErase (x : Desc) : Bool := match x.op with | .erase _ => true | .eraseOne _ => true | .fwErase _ => true | _ => false

/-- An operation of firmware. -/
def Desc.isFw (x : Desc) : Bool :=
  match x.op with | .read _ _ .firmware => true | .fwProgram _ _ _ => true | .fwErase _ => true | _ => false

/-- The erase that a die runs or has suspended. -/
def DieSt.erase? (d : DieSt) : Option Desc := (d.cur.toList ++ d.susp.toList).find? Desc.isErase

/-- A die at the first action: an erase is suspended, and the reset ends it for good, with a read that ran over it (R112, R262). -/
def DieSt.atCrossing (d : DieSt) : DieSt := if d.erase?.isSome then { d with st := .idle, cur := none, susp := none } else d

/-- A die programs the journal page on its way. -/
def DieSt.journalling (d : DieSt) : Bool :=
  (d.cur.toList ++ d.susp.toList).any (fun x => match x.op with | .journal _ => true | _ => false)

/-- The journal at the first action: a page whose program runs goes to its end; one that has not started is withdrawn, with its
intents and CKPT entries, whose erases and checkpoint do not follow. -/
def Dev.journalCut (s : Dev) : Dev :=
  let begun := s.flsh.dies.countP DieSt.journalling
  let rest (l : List (Nat × Nat)) : List (Nat × Nat) := l.filter (fun e => e.1 = 2 || e.1 = 3)
  let s := s.cipherDrop (fun w => match w with | .journal _ => true | _ => false)
  if begun = 0 && !s.flsh.journalOk then
    s.modFlsh (fun x => { x with
      journalBusy := false, journalLeft := 0, journalNext := rest (x.journalFly ++ x.journalNext), journalFly := [] })
  else
    let s := s.modFlsh (fun x => { x with journalNext := rest x.journalNext, journalLeft := begun })
    if begun = 0 then s.journalInForce.1 else s

/-- What an interrupted erase of firmware leaves: its block is undefined (R112). -/
def Dev.fwEraseCut (s : Dev) (x : Desc) : Dev :=
  match x.op with
  | .fwErase loc => s.modFlsh (fun f => { f with blockErase := insertK (locPos loc) (false, true) f.blockErase })
  | _ => s

/-- Blocks as an interrupted erase leaves them: undefined with an intent in the journal, else untouched; blocks whose intents are
on the page that is being programmed follow that page. -/
def Dev.blocksCut (s : Dev) : Dev :=
  let open_ (a : Nat) : Bool := s.journal.contains (1, a)
  let fly (a : Nat) : Bool := s.flsh.journalFly.contains (1, a)
  let s := (s.flsh.rows.filter (fun p => p.2.st = .erasing && !(s.rowBlocks p.1).any fly)).foldl (fun s p =>
    s.modRow p.1 (fun r => { r with st := if (s.rowBlocks p.1).any open_ then .undefinedRow else .closed, left := [] })) s
  s.modFlsh (fun x => { x with
    blockErase := x.blockErase.map (fun p => if p.2.1 && !fly p.1 then (p.1, (false, p.2.2 || open_ p.1)) else p) })

/-- Every erase in progress ends, and its block is undefined; what has not started is withdrawn, but for programs (R97, R108,
R109, R112). A withdrawn operation of firmware ends WITHDRAWN; the spec gives no status for an erase of firmware that the reset
ends: a free value (assumption 107). -/
def Dev.eraseCut (s : Dev) : Dev :=
  let cut := s.flsh.dies.filterMap DieSt.erase?
  let waiting := (s.flsh.dies.flatMap (fun d => d.queue) ++ s.flsh.waitQ.map (fun x => x.2.2)).filter Desc.isFw
  let s := s.modFlsh (fun x => { x with dies := x.dies.map DieSt.atCrossing })
  let s := s.keepDescs (fun o => match o with | .program _ => true | _ => false)
  let s := (cut.foldl Dev.fwEraseCut s).journalCut.blocksCut
  if cut.any Desc.isFw then (s.fwNandEnd (Config.freeValue s.freeCtr % 256) .ok).drew
  else if waiting.isEmpty then s else s.fwNandEnd 0x30 .ok

/-- T0 of Table 5-1, given the filter that has passed since the pin edge (R9, R14). -/
def crossT0 (ticks cause : Nat) : Nat := ticks - (if cause = 1 then 5 else if cause = 2 then 10 else 0)

/-- The first action of a crossing (R107), with its cause and the mode it started from. -/
def Dev.firstAction (s : Dev) (cause : Nat) (batteryFed : Bool) : Dev :=
  let d := s.dirtyGranules
  let carry := (s.gmap.entries.filter (fun p => p.2.st.counted)).map (fun p => p.1)
  let s := s.modXing (fun _ => { XingSt.reset with
    st := .quiesce, cause := cause, t0 := crossT0 s.ticks cause, tFirst := s.ticks
    allBattery := batteryFed, breach := decide (s.fery.limHard < G * d), modeFrom := s.core.mode.code, dQuiesce := d
    bGran := s.fery.b / G, eLbQuiesce := s.batt.elb, toCarry := carry, remain := d, crossSeq := s.nextCross })
  let s := ((s.clrReady Rdy.HOSTMEM).clrReady Rdy.LINK).clrReady Rdy.PERSIST
  let s := { s with hlnk := { s.hlnk with wait := [], held := [], gpf := [], reqOut := 0, rwdOut := 0, reqGranted := 0, rwdGranted := 0 } }
  let s := s.ferryLend.eraseCut
  let s := s.cipherDrop (fun w => match w with | .restore _ => true | .refetch _ => true | _ => false)
  let fetching := (s.gmap.entries.filter (fun p => p.2.st = .fetching)).map (fun p => p.1)
  let s := fetching.foldl (fun s g => s.setSt g .unrestored) s
  let s := s.modLand (fun l => { l with
    table := [], demandWait := [], st := if l.st = .restoring then .suspended else l.st })
  let s := { s with dctl := { s.dctl with refetches := [] } }
  let s := s.modFery (fun f => { f with pinned := [] })
  let s := s.modFlsh (fun x => { x with xpos := [] })
  s.modGmap (fun m => { m with phase := .saving })

/-! ### Records (R120, R121) -/

/-- The opening record (Table 5-5). -/
def Dev.openingBytes (s : Dev) : Bytes :=
  let x := s.xing
  let b := leBytes 4 0x58434F50 ++ leBytes 2 1 ++ leBytes 2 64 ++ leBytes 8 x.crossSeq ++ leBytes 8 x.ckptSeq ++
    leBytes 1 x.cause ++ leBytes 1 x.modeFrom ++ leBytes 1 (b2n x.breach) ++ [0] ++ leBytes 4 x.dQuiesce ++
    leBytes 4 x.bGran ++ leBytes 4 s.ciph.epoch ++ leBytes 4 x.eLbQuiesce ++ leBytes 8 s.opSeconds ++
    leBytes 4 s.log.cycles ++ leBytes 4 0
  b ++ leBytes 4 (crc32c b)

/-- The first unit of a run of a crossing: the newest, where a directory was written again. -/
def Dev.runStart (s : Dev) (kind q : Nat) : Option (Nat × NUnit) :=
  (s.flsh.units.filter (fun p => 2 ^ 32 ≤ p.1 && p.2.kind = kind && p.2.crossSeq = q && p.2.idx = 0)).foldl
    (fun (m : Option (Nat × NUnit)) p => match m with | some x => if x.2.wseq < p.2.wseq then some p else m | none => some p) none

/-- The LOC of the first unit of a run. A run without a unit reads 0xFFFF_FFFF, which names none (R249): the spec gives no value
there. DESIGN CHOICE: assumption 108. -/
def Dev.runFirst (s : Dev) (kind : Nat) : Nat :=
  match s.runStart kind s.xing.crossSeq with
  | some (k, _) => k - 2 ^ 32
  | none => 0xFFFFFFFF

/-- Directory units: 8 bytes for each map granule. -/
def Dev.dirUnits (s : Dev) : Nat := ceilDiv (8 * s.mapGranules) 16384

/-- The commit record (Table 5-6), as everything stands at COMMIT. With an empty carry set WSEQ_FIRST and WSEQ_LAST are 0: the
spec gives no value there. DESIGN CHOICE: assumption 108. -/
def Dev.commitBytes (s : Dev) : Bytes :=
  let x := s.xing
  let flags := b2n s.core.inputReturned + 2 * b2n s.core.onPending + 4 * b2n s.core.recovPending + 8 * b2n x.breach +
    16 * b2n x.channelLost + 32 * b2n x.kLearned + 64 * b2n (s.core.fwState = 3)
  let b := leBytes 4 0x5843434D ++ leBytes 2 1 ++ leBytes 2 256 ++ leBytes 8 x.crossSeq ++ leBytes 8 x.ckptSeq ++
    leBytes 8 x.wseqFirst ++ leBytes 8 x.wseqLast ++ leBytes 1 x.cause ++ leBytes 1 flags ++
    leBytes 1 (if x.channelLost then x.lostChannel else 0xFF) ++ leBytes 1 x.excluded.length ++ leBytes 4 s.ciph.epoch ++
    leBytes 4 x.carried ++ leBytes 4 x.poisonedLines ++ leBytes 4 (s.runFirst 3) ++ leBytes 4 x.idxUnits ++
    leBytes 4 (s.runFirst 4) ++ leBytes 4 s.dirUnits ++ leBytes 4 (s.runFirst 5) ++
    leBytes 4 s.gmap.poisonChanged.length ++ leBytes 4 x.mapWritten ++ leBytes 2 s.fery.k ++ [0, 0] ++
    leBytes 4 x.energyMj ++ leBytes 4 x.eLbQuiesce ++ leBytes 4 ((s.ticks - x.tFirst) / 25) ++ leBytes 4 x.bGran ++
    leBytes 8 (twos64 s.fery.wear) ++ leBytes 8 s.opSeconds ++ leBytes 4 s.log.cycles ++ List.replicate 128 0
  b ++ leBytes 4 (crc32c b)

/-! ### The save (R110, R111) -/

/-- Abandon (R125): every NAND write stops. -/
def Dev.abandon (s : Dev) : Dev :=
  let s := s.modXing (fun x => { x with st := .abandoned })
  let s := s.modFery (fun f => { f with copies := [] })
  let s := s.cipherDrop (fun w => match w with | .copy _ => true | _ => false)
  ((s.keepDescs (fun _ => false)).modFlsh (fun x => { x with groups := [] })).note .abandoned

/-- So many free pages of the record block; when it has fewer, the other block is used, which must be blank (R257). An opening
record wants two, for the commit record takes the page after it. DESIGN CHOICE: assumption 105. -/
def Dev.recordRoom (s : Dev) (need : Nat) : Option Dev :=
  if s.flsh.recordPage + need ≤ s.wordlines then some s
  else if s.sysBlank (1 - s.flsh.recordBlock) then
    some (s.modFlsh (fun x => { x with recordBlock := 1 - x.recordBlock, recordPage := 0 }))
  else none

/-- A record's two copies, for channels 0 and 8, are queued for their seals; their bytes are those of the moment (the commit
record's are set when it is verified). With no page for them, or no die, the crossing is abandoned. DESIGN CHOICE: assumption
105. -/
def Dev.queueRecord (s : Dev) (cls : Cls) (p : Payload) : Dev :=
  if !(s.dieWorks 0 0 || s.dieWorks 8 0) then s.abandon
  else
    match s.recordRoom (if cls = .opening then 2 else 1) with
    | none => s.abandon
    | some s =>
      [0, 1].foldl (fun s i =>
        let s := s.addCopy cls i 0 none [] p
        s.cipherPush (.copy s.lastCopy) true 0) (s.modXing (fun x => { x with recordOk := false }))

/-- The directory as the crossing's map granules make it, those still being programmed included. -/
def Dev.crossDir (s : Dev) : List (Nat × DirEntry) :=
  s.fery.copies.foldl (fun d c =>
    match c.loc with
    | some l => if c.cls = .xMap then insertK c.idx { loc := l, xr := true } d else d
    | none => d) s.gmap.dir

/-- The carry set's granules that are not yet verified, the lowest first. -/
def Dev.lowUnverified (s : Dev) : Nat :=
  ((s.fery.copies.filter (fun c => c.cls = .xGranule)).map (fun c => c.idx)).foldl min
    (match s.xing.toCarry with | g :: _ => g | [] => 2 ^ 26)

/-- Queue an index unit of the first records (R110 step 4). -/
def Dev.indexUnit (s : Dev) (last : Bool) : Dev :=
  let rs := s.xing.idxPending.take 2048
  let s := s.addCopy .xIndex s.xing.idxUnits 0 none [] (.index rs)
  let s := s.modCopy s.lastCopy (fun c => { c with last := last })
  s.modXing (fun x => { x with idxPending := x.idxPending.drop 2048, idxUnits := x.idxUnits + 1 })

/-- Granules of the carry set are still to be captured or verified. -/
def Dev.carrying (s : Dev) : Bool := !s.xing.toCarry.isEmpty || s.fery.copies.any (fun c => c.cls = .xGranule)

/-- Full index units whose granules are all verified. -/
def Dev.indexReady (s : Dev) : Nat → Dev
  | 0 => s
  | n + 1 =>
    if 2048 ≤ (s.xing.idxPending.takeWhile (fun r => decide (r.g < s.lowUnverified))).length then
      Dev.indexReady (s.indexUnit (!s.carrying && decide (s.xing.idxPending.length = 2048))) n
    else s

/-- The rest of the index: full units, and the last, partly filled one (R110 step 5). -/
def Dev.indexRest (s : Dev) : Nat → Dev
  | 0 => s
  | n + 1 => if s.xing.idxPending.isEmpty then s else Dev.indexRest (s.indexUnit (decide (s.xing.idxPending.length ≤ 2048))) n

/-- The directory is written whole (R110 step 5). -/
def Dev.dirCapture (s : Dev) : Dev :=
  let n := s.dirUnits
  let s := s.addCopy .xDir 0 0 none [] (.dir s.crossDir)
  let s := s.modCopy s.lastCopy (fun c => { c with last := decide (n ≤ 1) })
  (List.range (n - 1)).foldl (fun s i =>
    let s := s.addCopy .xDir (i + 1) 0 none [] .cont
    s.modCopy s.lastCopy (fun c => { c with last := decide (i + 2 = n) })) s

/-- The changed slots of the poison list are written (R76, R110 step 5). -/
def Dev.poisonCapture (s : Dev) : Dev :=
  let slots := s.gmap.poisonChanged.map (fun k => (k, lookupK k s.gmap.poisonList))
  let n := ceilDiv slots.length 4096
  (List.range n).foldl (fun s i =>
    let s := s.addCopy .xPoison i 0 none [] (.poison ((slots.drop (4096 * i)).take 4096))
    s.modCopy s.lastCopy (fun c => { c with last := decide (i + 1 = n) })) s

/-- Step 5 of R110: the last index unit, the directory and the changed poison slots; then both streams are closed with pads. -/
def Dev.closeCapture (s : Dev) : Dev :=
  let s := (s.indexRest (s.xing.idxPending.length / 2048 + 1)).placeAll
  let s := s.dirCapture.poisonCapture.modXing (fun x => { x with closeQueued := true })
  (s.placeAll.padStream 1).padStream 2

/-- The dirty map granules still to capture are captured while a staging slot is free: the 8,192 slots of the copy and landing
staging areas (R110 step 3). -/
def Dev.mapGo (s : Dev) : Nat → Dev
  | 0 => s
  | n + 1 =>
    match s.xing.toMap with
    | [] => s
    | m :: rest =>
      if 8192 ≤ s.fery.copies.length then s
      else Dev.mapGo ((s.mapCopy .xMap m).modXing (fun x => { x with toMap := rest })) n

/-- The save goes on as far as it can: OPEN, CARRY, CLOSE, and the commit record (Table 5-7). -/
def Dev.crossStep (s : Dev) : Dev :=
  let s := (s.mapGo s.xing.toMap.length).placeAll
  if s.xFull then s.abandon
  else
    let s := if s.xing.st = .opened && s.xing.toMap.isEmpty then s.modXing (fun x => { x with st := .carry }) else s
    let s := if s.xing.st = .carry then (s.indexReady (s.xing.idxPending.length / 2048 + 1)).placeAll else s
    let s := if s.xing.st = .carry && !s.carrying then s.modXing (fun x => { x with st := .close }) else s
    let s := if s.xing.st = .carry && s.xing.toCarry.isEmpty then s.padStream 1 else s
    let s := if s.xing.st = .close && !s.xing.closeQueued then s.closeCapture else s
    let s := if s.xing.st = .close then (s.padStream 1).padStream 2 else s
    if s.xFull then s.abandon
    else if s.xing.st = .close && s.xing.openVerified && !s.xing.commitQueued && !s.fery.copies.any (fun c => c.cls.isX) then
      (s.modXing (fun x => { x with commitQueued := true })).queueRecord .commitRec (.commitRec s.commitBytes)
    else s

/-- The host is quiesced: the opening record is queued (R108, R110). XING_QUIESCE_T's 16-bit counts stop at 65,535: the spec does
not say what they show beyond. DESIGN CHOICE: assumption 109. -/
def hostQuiesced (s : Dev) : Dev :=
  if s.xing.st = .disarmed || s.xing.st = .armed || s.xing.st = .committed || s.xing.st = .abandoned || s.xing.quiesced then s
  else
    let t := min 65535 (s.ticks - s.xing.t0)
    let s := s.setRegN Reg.XING_QUIESCE_T (t + fieldAt 16 16 t)
    let s := s.modXing (fun x => { x with quiesced := true, ckptSeq := s.gmap.ckptSeq })
    (s.queueRecord .opening (.opening s.openingBytes))

/-- The map-cache flush ends: every dirty map granule is captured in ascending order (R65 rule 6, R110 step 3). -/
def crossingMapFlushed (s : Dev) : Dev :=
  if s.xing.st ≠ .quiesce || s.xing.flushed then s
  else
    let s := s.cacheFlush
    let ms := (s.gmap.mapDirty.map (fun p => p.1)).foldl (fun l m => insertN m l) []
    (s.modXing (fun x => { x with flushed := true, st := .opened, toMap := ms, mapWritten := ms.length })).crossStep

/-- Insert a number in ascending order (a granule that joins the carry set). -/
def Dev.joinCarry (s : Dev) (g : Nat) : Dev :=
  if s.xing.toCarry.contains g then s
  else s.modXing (fun x => { x with toCarry := insertN g x.toCarry, remain := x.remain + 1 })

/-- A damaged entry that the carry walk meets: repaired under R79, taken as DIRTY and carried, whatever its STATE was (Table
5-8). The walk reads the lines whose summary bit is set (R110), each once. -/
def Dev.carryRepair (s : Dev) (g : Nat) : Dev :=
  if g < s.xing.walk || !s.fery.summary.contains (g / 8) || s.hostGranules ≤ g then s
  else (((s.repairEntry g).setSt g .dirty).latch Reg.XING_ERR 6).joinCarry g

/-- A mover captures the next granule of the carry set (R110 step 4, R111). `damaged` are the granules whose entries the walk has
found damaged on its way. -/
def carryCapture (damaged : List (BitVec 26)) (s : Dev) : Dev :=
  if s.xing.st ≠ .carry || 64 ≤ s.moversBusy || 8192 ≤ s.fery.copies.length then s
  else
    let s := damaged.foldl (fun s g => s.carryRepair g.toNat) s
    match s.xing.toCarry with
    | [] => s
    | g :: rest =>
      let s := (s.granuleCopy .xGranule g).debit
      let s := s.modXing (fun x => { x with
        toCarry := rest, walk := g + 1
        wseqFirst := if x.wseqFirst = 0 then s.fery.wseq else x.wseqFirst, wseqLast := s.fery.wseq })
      s.crossStep

/-- Insert an index record by granule. -/
def insertRec (r : IndexRec) : List IndexRec → List IndexRec
  | [] => [r]
  | a :: t => if r.g < a.g then r :: a :: t else a :: insertRec r t

/-- A carried granule is programmed and verified (R111). -/
def Dev.carryDone (s : Dev) (c : Copy) (u : Nat × NUnit) : Dev :=
  let e := s.entry c.idx
  let old := e.loc.map (fun l => unitKey l e.xr)
  let s := (s.putUnit u).dropCopy c.id
  let pois := decide (c.poison ≠ [])
  let s := s.setEntry c.idx { e with st := .clean, loc := some (u.1 % 2 ^ 32), xr := true, gen := (c.g + 1) % 4096, poison := pois }
  let s := match old with | some k => s.supersede k (c.idx / 2048) | none => s
  let r : IndexRec := { loc := u.1 % 2 ^ 32, g := c.idx, poison := pois }
  s.modXing (fun x => { x with
    remain := x.remain - 1, carried := x.carried + 1, idxPending := insertRec r x.idxPending, idxAll := insertRec r x.idxAll })

/-- A unit of a crossing is programmed and verified. -/
def Dev.crossDone (s : Dev) (c : Copy) (u : Nat × NUnit) : Dev :=
  let s := match c.cls with
    | .xGranule => s.carryDone c u
    | .xMap =>
      let old := lookupK c.idx s.gmap.dir
      let s := ((s.putUnit u).dropCopy c.id).modGmap (fun m => { m with dir := insertK c.idx { loc := u.1 % 2 ^ 32, xr := true } m.dir })
      (match old with | some d => s.supersede (unitKey d.loc d.xr) (2 ^ 20 + c.idx) | none => s)
    | _ => (s.putUnit u).dropCopy c.id
  s.crossStep

/-- A unit of a crossing failed: it is reissued at the next position of its stream under a new write sequence (Table 5-8,
R308). A map granule that moves after the directory was written has the directory written again, whole. -/
def Dev.crossFailed (s : Dev) (c : Copy) : Dev :=
  let s := s.latch Reg.XING_ERR 0
  let s := s.dropCopy c.id
  let s := s.modFery (fun f => { f with
    copies := f.copies ++ [{ c with
      id := f.nextCopy + 1, wseq := f.wseq + 1, loc := none, next := none, stage := .waitLane, reissued := true }]
    nextCopy := f.nextCopy + 1, wseq := f.wseq + 1 })
  let s := if c.cls = .xGranule then s.modXing (fun x => { x with wseqLast := max x.wseqLast s.fery.wseq }) else s
  let s := if c.cls = .xMap && s.xing.closeQueued then s.placeAll.dirCapture else s
  s.crossStep

/-- One failed share on a die in a crossing: after the third the die is excluded (Table 5-8, Table 11-7). -/
def Dev.crossDieFail (s : Dev) (ch d : Nat) : Dev × List Desc :=
  let k := 8 * ch + d
  let n := getD 0 k s.xing.dieFails + 1
  let s := s.modXing (fun x => { x with dieFails := insertK k n x.dieFails })
  if n = 3 then
    let gone := s.dieDescs ch d
    let s := (s.modDie ch d (fun _ => { DieSt.reset with st := .excluded })).dropDescs ch d
    ((s.modXing (fun x => { x with excluded := x.excluded ++ [k] })).latch Reg.XING_ERR 1, gone)
  else (s, [])

/-! ### COMMIT and after (R41, R126, R128) -/

/-- What a commit record leaves in the XING_LAST registers (R128). -/
def Dev.lastFrom (s : Dev) (b : Bytes) (warm : Bool) : Dev :=
  let flags := leAt b 41 1
  let s := (s.setRegN Reg.XING_LAST_SEQ_LO (leAt b 8 4)).setRegN Reg.XING_LAST_SEQ_HI (leAt b 12 4)
  let s := s.setRegN Reg.XING_LAST (leAt b 40 1 % 8 + 8 + fieldAt 4 1 flags + fieldAt 5 1 (flags / 32) + fieldAt 6 1 (flags / 16) +
    fieldAt 7 1 (b2n warm) + fieldAt 8 8 (leAt b 43 1))
  let s := (s.setRegN Reg.XING_LAST_DURATION (leAt b 96 4)).setRegN Reg.XING_LAST_CARRIED (leAt b 48 4)
  (s.setRegN Reg.XING_LAST_ENERGY (leAt b 88 4)).setRegN Reg.XING_LAST_POISONED (leAt b 52 4)


/-- The copies of this crossing's commit record get their bytes of COMMIT. -/
def Dev.sealCommit (s : Dev) (b : Bytes) : Dev :=
  s.modFlsh (fun x => { x with records := x.records.map (fun r =>
    match r.2 with
    | .commitRec c => if leAt c 8 8 = s.xing.crossSeq then (r.1, .commitRec b) else r
    | _ => r) })

/-- The commit record is verified: COMMIT (R110, R41). -/
def Dev.crossCommit (s : Dev) : Dev :=
  let s := s.energySum
  let s := if s.xing.allBattery && !s.core.inputReturned && 524288 ≤ s.xing.carried then
      (s.learnK s.xing.energyMj s.xing.carried).modXing (fun x => { x with kLearned := true })
    else s
  let b := s.commitBytes
  let s := (s.sealCommit b).modFlsh (fun x => { x with xpos := [] })
  let s := (s.flsh.rows.filter (fun p => s.isXr (p.1 / 8) && p.2.st = .opened)).foldl
    (fun s p => s.modRow p.1 (fun r => { r with st := .closed })) s
  let s := (s.lastFrom b false).reclaimUnder s.gmap.dir
  let s := s.modLand (fun l => { l with lastComplete := some s.xing.crossSeq })
  ((s.modXing (fun x => { x with st := .committed })).modGmap (fun m => { m with phase := .saved, poisonChanged := [] })).note .committed

/-- A record's two programs have ended: verified when one passed (R119, DEDUCED: assumption 15), else it is written again on
the next page. -/
def Dev.recordDone (s : Dev) (c : Copy) : Dev :=
  let s := s.modFlsh (fun x => { x with recordPage := x.recordPage + 1 })
  if s.xing.recordOk then
    match c.cls with
    | .opening => (s.modXing (fun x => { x with openVerified := true })).crossStep
    | _ => s.crossCommit
  else (s.latch Reg.XING_ERR 0).queueRecord c.cls c.payload

/-- The program of one copy of a record has ended: a copy that passed stands in NAND from then on (R119, R257). A commit record's
copy holds the bytes of that moment until COMMIT. -/
def Dev.recordCopy (s : Dev) (c : Copy) (pass : Bool) : Dev :=
  let p : Payload := match c.cls with | .commitRec => .commitRec s.energySum.commitBytes | _ => c.payload
  let key := 4096 * (8 * c.idx) + 2048 * s.flsh.recordBlock + s.flsh.recordPage
  let s := if pass then (s.modFlsh (fun x => { x with records := insertK key p x.records })).modXing (fun x => { x with recordOk := true })
    else s
  let s := s.dropCopy c.id
  if s.fery.copies.any (fun d => d.cls = c.cls) then s else s.recordDone c

/-- A sealed copy of a record is programmed on its channel, 0 or 8 (R257); on a lost die it fails. -/
def Dev.recordProgram (s : Dev) (c : Copy) : Dev :=
  if s.dieWorks (8 * c.idx) 0 then
    s.pushDesc (8 * c.idx) 0 { op := .record (decide (c.cls = .commitRec)) (decide (c.idx = 1)), prio := 1 }
  else s.recordCopy c false

/-- After any landing a checkpoint and a session record come before arming (R143). -/
def Dev.sessionStart (s : Dev) : Dev :=
  (s.modLand (fun l => { l with sessionOpen := false, sessionAsked := false })).wantCkpt true

/-- The warm landing (R126), but for the mode and the link. The landing that goes on after it is the one that was suspended: what it
poisons afterwards adds no second increment of the Dirty Shutdown Count (R33). The spec does not say whether that counts as a new
landing. DESIGN CHOICE: assumption 118. -/
def Dev.warmLanding (s : Dev) : Dev :=
  let pins := (s.gmap.entries.filter (fun p => p.2.st = .pinned)).map (fun p => p.1)
  let s := pins.foldl (fun s g => s.setSt g .dirty) s
  let s := s.modGmap (fun m => { m with phase := .live })
  let s := (s.modFery (fun f => { f with
    eng := .run, fold := .index s.xing.idxAll, foldTableDone := false, sweep := some (s.ticks, true) })).setReady Rdy.FERRY
  let s := s.setRegF Reg.XING_LAST 7 1 1
  let s := s.modXing (fun x => { x with st := .disarmed })
  let s := s.modLand (fun l => { l with st := if l.st = .suspended then .restoring else l.st })
  (s.sessionStart.journalStep).evalAgain

end Sys2Proof.Machine
end

