-- ==== Sys2Proof/Machine/Land.lean ====
section
/-!
DEFINITION. The landing (chapter 6): restores with their two attempts (Table 6-1), the walk (R134), demand fetches (R136) and
the landing machine (Table 6-4).
-/
namespace Sys2Proof.Machine

/-! ### The restore table (R130, R131) -/

/-- A granule's restore entry. -/
def Dev.restore? (s : Dev) (g : Nat) : Option Restore := s.land.table.find? (fun r => r.g = g)

/-- Change a granule's restore entry. -/
def Dev.modRestore (s : Dev) (g : Nat) (f : Restore → Restore) : Dev :=
  s.modLand (fun l => { l with table := l.table.map (fun r => if r.g = g then f r else r) })

/-- Restore entries that demand fetches hold, and those of background restore. -/
def Dev.demandHeld (s : Dev) : Nat := s.land.table.countP (fun r => r.demand)
def Dev.bgHeld (s : Dev) : Nat := s.land.table.countP (fun r => !r.demand)

/-- The unit that an entry names. -/
def Dev.unitAt (s : Dev) (loc : Nat) (xr : Bool) : Option NUnit := lookupK (unitKey loc xr) s.flsh.units


/-- The requester of a restore's DRAM writes (R202). -/
def Restore.who (r : Restore) : Nat := if r.demand then Who.demand else Who.restore

/-- Where a restore's landing-staging slot lies (Table 4-2, R130). -/
def Dev.landingAt (s : Dev) (r : Restore) : Nat := s.reservedAt (Res.landing + 16384 * r.slot)

/-- The granule of a restore is written in DRAM. -/
def Dev.restorePut (s : Dev) (r : Restore) (data : List (Nat × Byte)) (pois : List Nat) : Dev :=
  (s.putGranule r.g data pois).enqueueUnit (G * r.g) true r.who

/-- The place of a restore's reads in the precedence of R130. -/
def Restore.prio (r : Restore) : Nat := if r.demand then 0 else 4

/-! ### How a restore ends (Table 6-1) -/

/-- A mover is free for a restore: the ferry classes keep 8 (R130). -/
def Dev.restoreMover (s : Dev) : Bool := decide (s.bgMovers + s.demandMovers < 56) && decide (s.moversBusy < 64)

/-- The demand fetch that has waited longest takes a free entry and a mover (R130, R136); what it names, with the tick of its step
1, is left for the caller to take. -/
def Dev.demandNext (s : Dev) : Option (Nat × Nat) :=
  if s.demandHeld < 512 && s.land.table.length < 4096 && s.restoreMover then s.land.demandWait.head? else none

/-- A granule leaves FETCHING other than by abandonment: landing bitmap, counts, and the latency of a demand fetch. -/
def Dev.leaveFetching (s : Dev) (r : Restore) : Dev :=
  let s := s.modLand (fun l => { l with
    table := l.table.filter (fun x => x.g ≠ r.g), bitmap := insertN r.g l.bitmap
    restored := (l.restored + 1) % 2 ^ 26, rateNow := if r.demand then l.rateNow else l.rateNow + 16384 })
  let s := s.modGmap (fun m => { m with unrestored := m.unrestored - 1 })
  let s := if r.demand then
      let last := min 65535 (s.ticks - r.start)
      s.setRegN Reg.XING_DEMAND_LAT (last + fieldAt 16 16 (max last (s.regF Reg.XING_DEMAND_LAT 16 16)))
    else s
  (s.restage.note .retry).evalAgain

/-- The granule is poisoned (R140): all 256 lines, its slot, DIRTY, and the Dirty Shutdown Count. -/
def Dev.restorePoison (s : Dev) (r : Restore) : Dev :=
  let e := s.entry r.g
  let s := s.restorePut r [] (List.range 256)
  let s := s.setEntry r.g { e with st := .dirty, poison := true }
  let s := (s.latch Reg.XING_LAND_ERR 3).countReg Reg.XING_LAND_ERR_COUNT 16 16 1
  let s := (s.logStd LT.RESTORE_POISON r.g (e.loc.getD 0xFFFFFFFF)).poisonEvent r.g
  (s.dirtyShutdown).leaveFetching r

/-- Attempt 1 fails: the DRAM area is zeroed, the failure recorded, and attempt 2 begins (Table 6-1). -/
def Dev.attemptFails (s : Dev) (r : Restore) (tag : Bool) : Dev :=
  let s := s.restorePut r [] []
  let s := (s.latch Reg.XING_LAND_ERR (if tag then 0 else 1)).logStd (if tag then LT.RESTORE_TAG_FAIL else LT.RESTORE_META_FAIL) r.g
    ((s.entry r.g).loc.getD 0xFFFFFFFF)
  s.modRestore r.g (fun r => { r with attempt := 2 })

/-- A member of the stripe cannot be read (R261): within attempt 1 that fails the attempt, and a stripe that lacks its lost member
cannot be rebuilt a second time (R131), so the granule is poisoned at attempt 2. -/
def Dev.stripeLost (s : Dev) (r : Restore) : Dev := (if r.attempt = 1 then s.attemptFails r false else s).restorePoison r

/-- Read the peers of a restore's unit, to rebuild it in its landing-staging slot (R140, R261). -/
def Dev.readPeers (s : Dev) (r : Restore) (loc : Nat) (xr : Bool) : Dev :=
  let ps := peersOf (s.unitAt loc xr) loc
  let s := s.modRestore r.g (fun r => { r with peers := ps.length, rebuilding := true })
  if ps.any (fun c => !s.dieWorks c (locDie loc)) then s.stripeLost r
  else ps.foldl (fun s c => s.readFor (locOn loc c) xr (.restorePeer r.g) r.prio) s

/-- A tag fails, metadata mismatches, or a codeword is uncorrectable: attempt 2, or the granule is poisoned. A stripe that was
rebuilt within attempt 1 cannot be rebuilt a second time (R131). -/
def Dev.restoreFail (s : Dev) (g : Nat) (tag : Bool) : Dev :=
  match s.restore? g with
  | none => s
  | some r =>
    let e := s.entry g
    let loc := e.loc.getD 0xFFFFFFFF
    if r.attempt = 2 then s.restorePoison r
    else
      let s := s.attemptFails r tag
      if r.rebuilding then s.restorePoison r else s.readPeers { r with attempt := 2 } loc e.xr

/-- A unit's metadata names the entry's granule and GEN (R132). -/
def unitNames (u : NUnit) (g : Nat) (e : GEntry) : Bool := u.kind = 1 && u.idx = g && u.gen = e.gen

/-- A unit decoded, or was rebuilt: its metadata is compared, and its message waits for a lane. -/
def Dev.restoreRead (s : Dev) (g : Nat) : Dev :=
  match s.restore? g with
  | none => s
  | some _ =>
    let e := s.entry g
    match s.unitAt (e.loc.getD 0xFFFFFFFF) e.xr with
    | none => s.restoreFail g false
    | some u => if unitNames u g e then s.cipherPush (.restore g) false u.epoch else s.restoreFail g false

/-- The copy verifies (R132): CLEAN at attempt 1, DIRTY at attempt 2, with its poisoned lines (Table 6-1). -/
def Dev.restoreGood (s : Dev) (g : Nat) : Dev :=
  match s.restore? g with
  | none => s
  | some r =>
    let e := s.entry g
    let loc := e.loc.getD 0xFFFFFFFF
    match s.unitAt loc e.xr with
    | none => s.restoreFail g false
    | some u =>
      match u.payload with
      | .granule data =>
        let s := s.restorePut r data u.poison
        if r.attempt = 1 then (s.setSt g .clean).leaveFetching r
        else
          let s := (s.latch Reg.XING_LAND_ERR 2).countReg Reg.XING_LAND_ERR_COUNT 0 16 1
          let s := s.modFlsh (fun x => { x with ceReads := satAdd (2 ^ 32 - 1) x.ceReads 1 })
          ((s.setSt g .dirty).logStd LT.RESTORE_RECONSTRUCTED g loc).leaveFetching r
      | _ => s.restoreFail g false

/-- A unit was rebuilt from its stripe (R261): counted, and within attempt 1 nothing more; at attempt 2 its block is marked
(R266). -/
def Dev.restoreRebuilt (s : Dev) (g : Nat) : Dev :=
  match s.restore? g with
  | none => s
  | some r =>
    let s := (s.countReg Reg.FLSH_COUNT_RETRY 16 16 1).enqueueUnit (s.landingAt r) true r.who
    let s := if r.attempt = 2 then s.markBlock ((s.entry g).loc.getD 0) 5 else s
    s.restoreRead g

/-- A read of a restore's unit ends. -/
def Dev.restoreReadEnd (s : Dev) (g : Nat) (st : NandStatus) : Dev :=
  match s.restore? g with
  | none => s
  | some r =>
    let e := s.entry g
    match st with
    | .ok _ => s.restoreRead g
    | .okRetry _ _ => s.restoreRead g
    | .dieGone => s.readPeers r (e.loc.getD 0xFFFFFFFF) e.xr
    | _ => s.restoreFail g false

/-- A read of a peer ends; a member that cannot be read makes the stripe unrebuildable (R261). -/
def Dev.restorePeerEnd (s : Dev) (g : Nat) (st : NandStatus) : Dev :=
  match s.restore? g with
  | none => s
  | some r =>
    let good := match st with | .ok _ => true | .okRetry _ _ => true | _ => false
    if !good then s.stripeLost r
    else if r.peers ≤ 1 then (s.modRestore g (fun r => { r with peers := 0 })).restoreRebuilt g
    else s.modRestore g (fun r => { r with peers := r.peers - 1 })

/-! ### Taking granules (R131, R134, R136) -/

/-- Take a restore entry for an UNRESTORED granule; where LOC names no copy it is zero-filled. `since` is the tick of step 1 of
Table 6-3. -/
def Dev.restoreTake (s : Dev) (g : Nat) (demand : Bool) (since : Nat) : Dev :=
  let e := s.entry g
  let slot := lowestFree (s.land.table.map (fun r => r.slot))
  let r : Restore := { g := g, slot := slot, attempt := 1, demand := demand, start := since, zero := e.loc.isNone, peers := 0, rebuilding := false }
  let s := (s.setSt g .fetching).modLand (fun l => { l with table := l.table ++ [r], demandWait := l.demandWait.filter (fun x => x.1 ≠ g) })
  let s := if demand then s.wrapReg Reg.XING_DEMAND_COUNT 0 32 1 else s
  match e.loc with
  | none => s
  | some loc =>
    if s.dieWorks (locCh loc) (locDie loc) then s.readFor loc e.xr (.restore g) r.prio else s.readPeers r loc e.xr

/-- Demand fetches that waited take the entries that are free (R136). -/
def Dev.demandTake (s : Dev) : Nat → Dev
  | 0 => s
  | n + 1 =>
    match s.demandNext with
    | none => s
    | some (g, t) =>
      let s := s.modLand (fun l => { l with demandWait := l.demandWait.filter (fun x => x.1 ≠ g) })
      if (s.entry g).st = .unrestored then Dev.demandTake (s.restoreTake g true t) n else Dev.demandTake s n

/-- A host access reaches an UNRESTORED granule (R136). -/
def Dev.demandFetch (s : Dev) (g : Nat) : Dev :=
  if (s.entry g).st ≠ .unrestored || s.land.demandWait.any (fun x => x.1 = g) then s
  else (s.modLand (fun l => { l with demandWait := l.demandWait ++ [(g, s.ticks)] })).demandTake 512

/-- A damaged entry that a restore meets is repaired under R79, then restored (Table 6-5). -/
def Dev.restoreRepair (s : Dev) (damaged : Bool) (g : Nat) : Dev :=
  if damaged then (s.repairEntry g).restage else s

/-- The lowest UNRESTORED index from `a` on, in entries that start at or after it. -/
def lowestUnrestored (dflt : GEntry) (a : Nat) : List (Nat × GEntry) → Option Nat
  | [] => if dflt.st = .unrestored then some a else none
  | (k, e) :: t =>
    if k < a then lowestUnrestored dflt a t
    else if k = a then (if e.st = .unrestored then some a else lowestUnrestored dflt (a + 1) t)
    else if dflt.st = .unrestored then some a
    else if e.st = .unrestored then some k
    else lowestUnrestored dflt (k + 1) t

/-- The lowest UNRESTORED host granule in [a, b). -/
def Dev.unrestoredIn (s : Dev) (a b : Nat) : Option Nat :=
  match lowestUnrestored s.gmap.dflt a s.gmap.entries with
  | some g => if g < b && g < s.hostGranules then some g else none
  | none => none

/-- The priority range (R134); BASE ≥ LIMIT means none. -/
def Dev.prioBase (s : Dev) : Nat := s.regF Reg.XING_RESTORE_PRIO_BASE 0 26
def Dev.prioLimit (s : Dev) : Nat := s.regF Reg.XING_RESTORE_PRIO_LIMIT 0 26

/-- The next granule of the walk, with the part of the walk it lies in: the priority range, the rest, and the last pass. -/
def Dev.walkNext (s : Dev) : Option (Nat × Nat) :=
  let c := s.land.cursor
  let w := s.land.walk
  let base := s.prioBase
  let lim := s.prioLimit
  let prio := if w = 0 && base < lim then s.unrestoredIn (max c base) lim else none
  let from1 := if w = 1 then c else 0
  let rest := if 2 ≤ w then none
    else if base < lim then
      match s.unrestoredIn from1 base with
      | some g => some g
      | none => s.unrestoredIn (max from1 lim) s.hostGranules
    else s.unrestoredIn from1 s.hostGranules
  match prio, rest with
  | some g, _ => some (g, 0)
  | none, some g => some (g, 1)
  | none, none => (s.unrestoredIn (if w = 2 then c else 0) s.hostGranules).map (fun g => (g, 2))

/-- Background restore takes granules: RESTORING, with BG_EN (XING_LAND_CTL), a mover of its BG_MOVERS, and an entry of its 3,584
free (R130). -/
def Dev.walkRuns (s : Dev) : Bool :=
  s.land.st = .restoring && s.regF Reg.XING_LAND_CTL 12 1 = 1 && decide (s.bgHeld < 3584) && decide (s.land.table.length < 4096) &&
    decide (s.bgMovers < s.regF Reg.XING_LAND_CTL 0 6) && s.restoreMover

/-- The walk takes the next UNRESTORED granule (R134). -/
def restoreTake (damaged : Bool) (s : Dev) : Dev :=
  if !s.walkRuns then s
  else
    match s.walkNext with
    | none => s.modLand (fun l => { l with walk := 3 })
    | some (g, w) =>
      let s := s.modLand (fun l => { l with walk := w, cursor := g + 1 })
      let s := s.restoreRepair damaged g
      if (s.entry g).st = .unrestored then s.restoreTake g false s.ticks else s.evalAgain

/-- The zero fill of a granule ends (Table 6-1). -/
def restoreZeroFillDone (g : Nat) (s : Dev) : Dev :=
  match s.restore? g with
  | some r => if r.zero then ((s.restorePut r [] []).setSt g .clean).leaveFetching r else s
  | none => s

/-- A write of XING_RESTORE_PRIO_BASE or _LIMIT: in RESTORING the walk moves to the new range's start if it still holds an
UNRESTORED granule (R134). -/
def restorePrioWrite (src : Src) (limit : Bool) (val : Word) (s : Dev) : Dev :=
  let off := if limit then Reg.XING_RESTORE_PRIO_LIMIT else Reg.XING_RESTORE_PRIO_BASE
  (s.guarded src off (fun s =>
    let s := (s.setRegN off (val.toNat % 2 ^ 26)).writeStatus src .ok
    if s.land.st = .restoring && s.prioBase < s.prioLimit && (s.unrestoredIn s.prioBase s.prioLimit).isSome then
      s.modLand (fun l => { l with walk := 0, cursor := s.prioBase })
    else s))

/-! ### The landing machine (Table 6-4) -/

/-- A cold landing starts. -/
def Dev.landStart (s : Dev) : Dev :=
  let s := (((s.clrReady Rdy.RESTORED).setRegN Reg.XING_DEMAND_COUNT 0).setRegN Reg.XING_DEMAND_LAT 0).setRegN Reg.XING_LAND_SUSPENDS 0
  let s := s.setRegN Reg.XING_LAND_ERR_COUNT 0
  { s with land := { LandSt.reset with st := .waiting } }

/-- The landing is aborted, or the down-timetable starts: what it holds is discarded. -/
def Dev.landOff (s : Dev) : Dev :=
  let s := s.cipherDrop (fun w => match w with | .restore _ => true | _ => false)
  s.modLand (fun l => { l with st := .off, table := [], demandWait := [] })

/-- WAITING to RESTORING, and RESTORING to DONE: with BG_EN clear the landing does not end (XING_LAND_CTL). -/
def Dev.landCheck (s : Dev) : Dev :=
  match s.land.st with
  | .waiting =>
    if s.rdy Rdy.MAP && s.rdy Rdy.CIPHER then s.modLand (fun l => { l with st := .restoring, walk := 0, cursor := if s.prioBase < s.prioLimit then s.prioBase else 0 }) else s
  | .restoring =>
    if s.gmap.unrestored = 0 && s.land.table.isEmpty && s.regF Reg.XING_LAND_CTL 12 1 = 1 &&
        (s.core.mode = .restore || s.core.mode = .service || s.core.mode = .maintenance) then
      let s := (s.modLand (fun l => { l with st := .done })).setReady Rdy.RESTORED
      if s.core.mode = .restore then s.note (.mode .landDone) else s
    else s
  | _ => s

/-- The session record: the CROSS_SEQ that the next crossing will use, and the CKPT_SEQ of the landing's checkpoint (R143). -/
def Dev.sessionRecord (s : Dev) : Dev := s.logEvent LT.SESSION_OPEN (leBytes 8 s.nextCross ++ leBytes 8 s.land.sessionCkpt)

/-- A checkpoint of R143 has committed: the session record is asked for, once. -/
def Dev.sessionAsk (s : Dev) : Dev :=
  if s.land.sessionAsked || s.land.sessionOpen || s.gmap.ckptMark ≠ 0 then s
  else (s.modLand (fun l => { l with sessionAsked := true, sessionCkpt := s.gmap.ckptSeq })).sessionRecord

/-- The units of crossings before the next one that hold no granule: their space is free once the session is open. -/
def Dev.oldXMeta (s : Dev) : List Nat :=
  (s.flsh.units.filter (fun p => decide (2 ^ 32 ≤ p.1) && decide (3 ≤ p.2.kind) && decide (p.2.kind ≤ 5))).map (fun p => p.1)


end Sys2Proof.Machine
end

