-- ==== Sys2Proof/Machine/Chtr.lean ====
section
/-!
DEFINITION. The charter store controller (chapter 12): regions and rights, the native queue and what each operation does,
the calibration row, the protected-region engine, the passwords and the Slipway ROM services.
-/
namespace Sys2Proof.Machine

/-- Change the controller's state. -/
def Dev.modChtr (s : Dev) (f : ChtrSt → ChtrSt) : Dev := { s with chtr := f s.chtr }

/-! ### Regions and rights (Tables 12-2 and 12-3) -/

/-- The size of the part in bytes. -/
def Dev.norSize (s : Dev) : Nat :=
  match s.chtr.density with | 1 => 0x8000000 | 2 => 0x10000000 | 3 => 0x20000000 | _ => 0

/-- The page of the part. -/
def Dev.norPage (s : Dev) : Nat := if s.chtr.page512 then 512 else 256

/-- The regions of Table 12-2. -/
inductive Region where
  | calRow | reserved | charter (slot : Bool) | firmware (slot : Bool) | staging | scratch | prot | logbook
  deriving DecidableEq, Repr

/-- The region of an address of the part. -/
def Dev.regionOf (s : Dev) (a : Nat) : Option Region :=
  if a < 0x1000 then some .calRow
  else if a < 0x10000 then some .reserved
  else if a < 0x110000 then some (.charter false)
  else if a < 0x210000 then some (.charter true)
  else if a < 0xA10000 then some (.firmware false)
  else if a < 0x1210000 then some (.firmware true)
  else if a < 0x2810000 then some .staging
  else if a < 0x2A10000 then some .scratch
  else if a < 0x3A10000 then some .prot
  else if a < s.norSize then some .logbook
  else none

/-- The row is sealed, and it is open to YARD while SEALED reads 0xFFFF_FFFF (R292). -/
def Dev.calSealed (s : Dev) : Bool := leVal (s.norBytes 4088 4) = 0x5EA1ED00
def Dev.calOpen (s : Dev) : Bool := leVal (s.norBytes 4088 4) = 0xFFFFFFFF

/-- Table 12-3: a region is open to a requester's programs and erases. -/
def Dev.storeOpen (s : Dev) (r : Region) (q : ChReq) : Bool :=
  match r with
  | .calRow => (match q with | .port .yard => true | _ => false) && s.calOpen
  | .reserved => false
  | .charter _ => q = .migration || q = .update || (q = .rom && s.core.mode = .recovery)
  | .firmware _ => q = .update || (q = .rom && s.core.mode = .recovery)
  | .staging => q = .update || (q = .rom && s.core.mode = .recovery)
  | .scratch => q = .firmware
  | .prot => q = .pr
  | .logbook => q = .logbook

/-- R282: outside RECOVERY a charter slot needs the other slot to pass full verification, and a firmware slot must not be the
one that the loaded charter names. -/
def Dev.slotFree (s : Dev) (r : Region) : Bool :=
  s.core.mode = .recovery ||
    (match r with
     | .charter slot => (s.slotCharter (!slot)).isSome
     | .firmware slot => (match s.charter with | some c => decide (c.fwSlot ≠ b2n slot) | none => true)
     | _ => true)

/-- The ST_ code that a program or erase of [a, a + n) gets at submission (R281, R282, R292); none where it is accepted. -/
def Dev.storeRefusal (s : Dev) (q : ChReq) (a n : Nat) : Option St :=
  if a < 0x1000 && s.calSealed then some .locked
  else
    match s.regionOf a with
    | none => some .region
    | some r =>
      if s.regionOf (a + n - 1) = some r && s.storeOpen r q && s.slotFree r then none else some .region

/-! ### The native queue (R285, R297) -/

/-- The copy of the native-queue registers that a source has (R297): firmware, HOST, CHASSIS, YARD. -/
def chIdx : Src → Nat
  | .firmware _ => 0
  | .port (.host _) => 1
  | .port .chassis => 2
  | .port .yard => 3

/-- The requester of a source. -/
def chReq : Src → ChReq
  | .firmware _ => .firmware
  | .port (.host _) => .port (.host 0)
  | .port p => .port p

/-- The copy of a requester. -/
def ChReq.idx : ChReq → Nat
  | .port (.host _) => 1
  | .port .chassis => 2
  | .port .yard => 3
  | _ => 0

/-- A requester's copy. -/
def Dev.chPort (s : Dev) (i : Nat) : ChPort := s.chtr.ports.getD i ChPort.reset

/-- Change a requester's copy. -/
def Dev.modChPort (s : Dev) (i : Nat) (f : ChPort → ChPort) : Dev :=
  s.modChtr (fun c => { c with ports := c.ports.set i (f (s.chPort i)) })

/-- The class order of R285. -/
def ChReq.cls : ChReq → Nat
  | .rom => 0 | .logbook => 1 | .pr => 2 | .migration => 3 | .update => 4 | _ => 5

/-- The sectors that a descriptor touches, as [first, last]; a read of SFDP touches none. -/
def ChDesc.sectors (d : ChDesc) : Nat × Nat := (d.addr / 4096, (d.addr + max d.len 1 - 1) / 4096)

/-- Two descriptors touch the same sector. -/
def ChDesc.meets (d e : ChDesc) : Bool :=
  d.op ≠ 6 && e.op ≠ 6 && decide (d.sectors.1 ≤ e.sectors.2) && decide (e.sectors.1 ≤ d.sectors.2)

/-- A descriptor may run in the present mode (Table 12-13): in SAVE the logbook, the protected-region engine and reads. -/
def Dev.chRuns (s : Dev) (d : ChDesc) : Bool :=
  s.core.mode ≠ .save || d.req = .logbook || d.req = .pr || d.op = 1 || d.op = 6

/-- The next descriptor: in arrival order within a sector, else the first class of R285. -/
def Dev.chPick (s : Dev) : Option ChDesc :=
  let q := s.chtr.queue
  let free := (List.range q.length).filter (fun i =>
    match q[i]? with
    | some d => s.chRuns d && (q.take i).all (fun e => !d.meets e)
    | none => false)
  let ds := free.filterMap (fun i => q[i]?)
  let best := ds.foldl (fun m d => min m d.req.cls) 9
  ds.find? (fun d => d.req.cls = best)

/-- Start the next operation where none runs. -/
def Dev.chNext (s : Dev) : Dev :=
  if s.chtr.st = 2 && s.chtr.cur.isNone then
    match s.chPick with
    | some d => s.modChtr (fun c => { c with cur := some d, queue := c.queue.erase d })
    | none => s
  else s

/-- Queue a descriptor of the device's own engines. -/
def Dev.chQueue (s : Dev) (d : ChDesc) : Dev := (s.modChtr (fun c => { c with queue := c.queue ++ [d] })).chNext

/-- Descriptors of a requester that are not yet completed. -/
def Dev.chOutstanding (s : Dev) (q : ChReq) : Nat :=
  (s.chtr.queue.filter (fun d => d.req = q)).length + (match s.chtr.cur with | some d => b2n (d.req = q) | none => 0)

/-- Post a completion in a requester's copy. -/
def Dev.chPost (s : Dev) (i tag : Nat) (st : St) : Dev :=
  s.modChPort i (fun p => { p with cmpl := p.cmpl ++ [(tag, st.code)] })

/-- An error of CHTR_ERR bits 0 to 3, with its address (R302, R303). -/
def Dev.chErr (s : Dev) (bit addr : Nat) : Dev := (s.latch Reg.CHTR_ERR bit).setRegN Reg.CHTR_ERR_ADDR addr

/-- A program or erase refused under R281, R282 or R292: CHTR_ERR.REFUSED, and for firmware BH06 (R467). -/
def Dev.storeRefused (s : Dev) (src : Src) (a : Nat) (st : St) : Dev :=
  let s := s.chErr 0 a
  match src with
  | .firmware pc => s.bulkhead 6 4 st a pc
  | .port _ => s

/-- The bytes of a range of the part as a read sees them: protected sectors are sealed (Table 12-9). The contents of a sector
that a cut-off write left are not given. -/
def Dev.norRead (s : Dev) (a n : Nat) : Bytes :=
  (List.range n).map (fun i =>
    let x := a + i
    if 0x2A10000 ≤ x && x < 0x3A10000 then
      let no := (x - 0x2A10000) / 4096
      let pr := if no < 1024 then 0 else if no < 2304 then 1 else if no < 2560 then 2 else if no < 3328 then 3 else 4
      let pair := (no - prFirst pr) / 2
      match lookupK no s.chtr.pr with
      | some sec =>
        if sec.bad then Config.rawPageByte (2 ^ 33 + no) sec.gen (x % 4096)
        else (prSectorBytes pr (if pr = 0 then pair % 256 else pair) sec).getD (x % 4096) 0
      | none => norByte
    else Memory.read norByte s.nor x)

/-- Where the data of a read goes: the requester's CHTR_BUF or the Ferryman data RAM (R297). -/
def Dev.chStore (s : Dev) (d : ChDesc) (bs : Bytes) : Dev :=
  match d.buf with
  | some a => { s with fram := Memory.writeBytes 0 s.fram (a % 0x40000) bs }
  | none => s.modChPort d.req.idx (fun p => { p with buf := Memory.writeBytes 0 p.buf 0 (bs.take 4032) })

/-- Firmware's data RAM, or the requester's buffer, as the source of a program. -/
def Dev.chData (s : Dev) (i : Nat) (buf : Option Nat) (n : Nat) : Bytes :=
  match buf with
  | some a => Memory.readBytes 0 s.fram (a % 0x40000) n
  | none => Memory.readBytes 0 (s.chPort i).buf 0 n

/-- A new 1 over a stored 0 (R283). -/
def raisesBit (old new : List Byte) : Bool := (old.zip new).any (fun p => p.2 &&& ~~~p.1 ≠ 0)

/-- Bytes that a program or an erase that did not end well leaves: each bit that was to change may have changed or not. -/
def Dev.norUnsure (s : Dev) (a : Nat) (new : List Byte) : Dev :=
  let bs := (List.range new.length).map (fun i =>
    let o := Memory.read norByte s.nor (a + i)
    let n := new.getD i 0
    let f := BitVec.ofNat 8 (Config.freeValue (s.freeCtr + i))
    (o &&& n) ||| ((o ^^^ n) &&& f))
  { s with nor := Memory.writeBytes norByte s.nor a bs, freeCtr := s.freeCtr + new.length }

/-- What a native operation does to the part, and its ST_ code (R283). `bad`: the program failed verification twice. -/
def Dev.norOp (s : Dev) (d : ChDesc) (bad : Bool) : Dev × St :=
  match d.op with
  | 1 => (s.chStore d (s.norRead d.addr d.len), .ok)
  | 2 =>
    let old := s.norBytes d.addr d.len
    if raisesBit old d.data then (s.chErr 1 d.addr, .riseRefused)
    else if bad then
      (((s.norUnsure d.addr d.data).chErr 2 d.addr).logStd LT.CS_OP_FAIL d.addr St.verifyFail.code, .verifyFail)
    else ({ s with nor := Memory.writeBytes norByte s.nor d.addr d.data }, .ok)
  | 6 => (s.chStore d ((List.range d.len).map (fun i => Config.sfdpByte (d.addr + i))), .ok)
  | _ => ({ s with nor := Memory.clear s.nor d.addr d.len }, .ok)

/-- A0 of a ROM service for an ST_ code (R298): done, bad argument, refused or device error. -/
def romA0 (st : St) : Nat :=
  match st with
  | .ok => 0
  | .badParam => 1
  | .region => 2 | .locked => 2 | .riseRefused => 2 | .busy => 2
  | _ => 3

/-! ### The protected-region engine and the passwords -/

/-- The region that a port owns (Table 12-8). -/
def ownRegion : Port → Nat
  | .chassis => 3 | .host _ => 4 | .yard => 0

/-- The password state of PR3 or PR4. -/
def Dev.pwOf (s : Dev) (pr : Nat) : PwSt := s.chtr.pw.getD (pr - 3) PwSt.reset

/-- Change it. -/
def Dev.modPw (s : Dev) (pr : Nat) (f : PwSt → PwSt) : Dev :=
  s.modChtr (fun c => { c with pw := c.pw.set (pr - 3) (f (s.pwOf pr)) })

/-- A region with a password that is not open (R296). -/
def Dev.prLocked (s : Dev) (pr : Nat) : Bool :=
  (decide (3 ≤ pr)) && (s.pwOf pr).verifier.isSome && !(s.pwOf pr).opened

/-- The end of CHTR_PR_CMD. -/
def Dev.prEnd (s : Dev) (st : St) : Dev := s.modChtr (fun c => { c with prBusy := false, prStatus := st.code })

/-- The end of CHTR_PW_CMD. -/
def Dev.pwEnd (s : Dev) (st : St) : Dev := s.modChtr (fun c => { c with pwStatus := st.code })

/-- A damaged block (R294). -/
def Dev.prDamage (s : Dev) (pr block : Nat) : Dev :=
  (s.latch Reg.CHTR_ERR 6).logStd LT.PR_DAMAGED (pr + fieldAt 8 16 block) St.prDamaged.code

/-- The ST_ code that a protected-region request gets at once; none where it goes to the engine (R295, R296, R303). -/
def Dev.prRefusal (s : Dev) (pr block : Nat) : Option St :=
  if pr < 3 || 4 < pr || 384 ≤ block then some .badParam
  else if !s.rdy Rdy.CIPHER then some .notReady
  else if s.prLocked pr then some .pwRequired
  else if s.chtr.st ≠ 2 then some .storeFailed
  else none

/-- The port whose authority a source uses: its own, or the one that firmware holds a proxy for (R404). -/
def Dev.actsFor (s : Dev) (src : Src) : Option Port :=
  match src with
  | .port p => some p
  | .firmware _ => s.core.proxy

/-- A write that its row of Table 17-1 refuses for the region it names. -/
def Dev.refuseSrc (s : Dev) (src : Src) (row off : Nat) : Dev :=
  match src with
  | .port p => s.refuseWrite p row off
  | .firmware pc => s.refuseStore row off pc

/-- The password verifiers as PR2 block 1 holds them (R320). -/
def Dev.verifierBytes (s : Dev) : Bytes :=
  [3, 4].flatMap (fun pr => match (s.pwOf pr).verifier with | some v => beBytes 16 v.toNat | none => List.replicate 16 0)

/-- Carry out what a descriptor is for when it ends, with its ST_ code so far. -/
def Dev.chDo (s : Dev) (d : ChDesc) (bad : Bool) : Dev × St :=
  match d.what with
  | .prRead pr block copy =>
    let s := s.prNoteDamage pr block
    match s.prRead pr block with
    | some data => (s.modChPort copy (fun p => { p with buf := Memory.writeBytes 0 p.buf 0 (prPayload data) }), .ok)
    | none => (s.prDamage pr block, .prDamaged)
  | .prWrite pr block data =>
    if bad then
      let (w, gen) := s.prTarget pr block
      let s := s.putSec (prSecNo pr block w) (some { gen := gen, epoch := s.ciph.epoch, data := [], bad := true })
      ((s.chErr 2 (0x2A10000 + 4096 * prSecNo pr block w)).logStd LT.CS_OP_FAIL (pr + fieldAt 8 16 block) St.verifyFail.code, .verifyFail)
    else (s.prWrite pr block data, .ok)
  | .prErase pr =>
    let s := s.modChtr (fun c => { c with
      pr := c.pr.filter (fun e => !(decide (prFirst pr ≤ e.1) && decide (e.1 < prFirst pr + 2 * prBlocks pr))) })
    let s := s.modPw pr (fun _ => PwSt.reset)
    (s.prMerge 2 1 0 s.verifierBytes, .ok)
  | .pwSet pr v =>
    if bad then (s.logStd LT.CS_OP_FAIL (2 + fieldAt 8 16 1) St.verifyFail.code, .verifyFail)
    else
      let s := s.modPw pr (fun r => { r with verifier := v, opened := true, fails := 0 })
      (s.prMerge 2 1 0 s.verifierBytes, .ok)
  | _ => s.norOp d bad

/-- Post the end of a descriptor of a port, of firmware or of the protected-region engine. -/
def Dev.chPosted (s : Dev) (d : ChDesc) (st : St) : Dev :=
  match d.what with
  | .native tag => s.chPost d.req.idx tag st
  | .romService => s.modChtr (fun c => { c with romA := some (romA0 st, st.code) })
  | .prRead _ _ _ => s.prEnd st
  | .prWrite _ _ _ => s.prEnd st
  | .prErase _ => s.pwEnd st
  | .pwSet _ _ => s.pwEnd st
  | _ => s

/-- A descriptor of the protected-region engine. -/
def prDesc (pr block : Nat) (what : ChFor) : ChDesc :=
  { op := 1, addr := 0x2A10000 + 4096 * prSecNo pr block 0, len := 8192, data := [], req := .pr, what := what, buf := none }

/-! ### Submission by firmware and the ports (R281, R297, R303) -/

/-- The buffer that BUF names, and whether it is allowed (R297). -/
def bufOf (src : Src) (buf n : Nat) : Option (Option Nat) :=
  if buf = 0xFFFFFFFF then (if 4032 < n then none else some none)
  else
    match src with
    | .firmware _ => if 0x20000000 ≤ buf && buf + n ≤ 0x20040000 then some (some (buf - 0x20000000)) else none
    | .port _ => none

/-- A requester served in the present mode (Table 12-13). -/
def Dev.chServed (s : Dev) (src : Src) : Bool := s.core.mode ≠ .recovery || (match src with | .port .yard => true | _ => false)

/-- Submit a descriptor: refused, or queued. The refusal is returned as a completion and, to a port, as the status of its
write. -/
def Dev.chSubmit (s : Dev) (src : Src) (op tag addr len buf : Nat) (what : ChFor) : Dev :=
  let refuse (s : Dev) (st : St) : Dev :=
    (match what with
     | .native _ => s.chPost (chIdx src) tag st
     | _ => s.modChtr (fun c => { c with romA := some (romA0 st, st.code) })).writeStatus src st
  let n := if op = 4 then 4096 else if op = 5 then 65536 else len
  match (if op = 4 || op = 5 then some none else bufOf src buf n) with
  | none => refuse s .badParam
  | some b =>
    let d : ChDesc := { op := op, addr := addr, len := n, data := if op = 2 then s.chData (chIdx src) b n else [],
                        req := chReq src, what := what, buf := b }
    if !([1, 2, 4, 5, 6].contains op) || (op = 2 && s.norPage < addr % s.norPage + n) || ((op = 4 || op = 5) && addr % n ≠ 0) then
      refuse s .badParam
    else
      let bad := if op = 2 || op = 4 || op = 5 then s.storeRefusal (chReq src) addr n
        else if op = 1 && s.norSize < addr + n then some .region else none
      match bad with
      | some st => refuse (if op = 1 then s else s.storeRefused src addr st) st
      | none =>
        if s.chtr.st = 3 then refuse s .storeFailed
        else if s.chtr.st ≠ 2 || !s.chServed src then refuse s .notReady
        else if 8 ≤ s.chOutstanding (chReq src) || 32 ≤ s.chtr.queue.length then refuse s .busy
        else (s.chQueue d).writeStatus src .ok

/-- A write of GO with the descriptor words of the requester's copy (CHTR_SUBMIT). -/
def Dev.chGo (s : Dev) (src : Src) : Dev :=
  let p := s.chPort (chIdx src)
  let d0 := p.d0.toNat
  s.chSubmit src (bitsOf d0 0 4) (bitsOf d0 8 8) p.d1.toNat (bitsOf d0 16 16 + 1) p.d2.toNat (.native (bitsOf d0 8 8))

/-- The descriptor words loaded in the requester's copy; `ram` is what firmware has put at BUF in its data RAM. -/
def Dev.chLoaded (s : Dev) (src : Src) (op : Nat) (tag : Byte) (lenM1 : BitVec 16) (addr buf : Word) (ram : Bytes) : Dev :=
  let d0 := BitVec.ofNat 32 (op + fieldAt 8 8 tag.toNat + fieldAt 16 16 lenM1.toNat)
  let s := s.modChPort (chIdx src) (fun p => { p with d0 := d0, d1 := addr, d2 := buf })
  match src with
  | .firmware _ =>
    if 0x20000000 ≤ buf.toNat && buf.toNat + ram.length ≤ 0x20040000 then
      { s with fram := Memory.writeBytes 0 s.fram (buf.toNat - 0x20000000) ram } else s
  | .port _ => s

/-- Load the descriptor words and submit: what a CHTR_ command does. -/
def chCommand (src : Src) (op : Nat) (tag : Byte) (lenM1 : BitVec 16) (addr buf : Word) (ram : Bytes) (s : Dev) : Dev :=
  s.guarded src Reg.CHTR_SUBMIT (fun s => (s.chLoaded src op tag lenM1 addr buf ram).chGo src)

/-- A READ descriptor (R297). -/
def chtrRead (src : Src) (tag : Byte) (lenM1 : BitVec 16) (addr buf : Word) (s : Dev) : Dev :=
  (chCommand src 1 tag lenM1 addr buf [] s)

/-- A PROGRAM descriptor (R283). -/
def chtrProgram (src : Src) (tag : Byte) (lenM1 : BitVec 16) (addr buf : Word) (ram : Bytes) (s : Dev) : Dev :=
  (chCommand src 2 tag lenM1 addr buf ram s)

/-- An ERASE_4K descriptor (R281). -/
def chtrErase4k (src : Src) (tag : Byte) (addr : Word) (s : Dev) : Dev := (chCommand src 4 tag 0 addr 0xFFFFFFFF [] s)

/-- An ERASE_64K descriptor (R281). -/
def chtrErase64k (src : Src) (tag : Byte) (addr : Word) (s : Dev) : Dev := (chCommand src 5 tag 0 addr 0xFFFFFFFF [] s)

/-- A READ_SFDP descriptor (R303). -/
def chtrReadSfdp (src : Src) (tag : Byte) (lenM1 : BitVec 16) (addr buf : Word) (s : Dev) : Dev :=
  (chCommand src 6 tag lenM1 addr buf [] s)

/-- A write of ACK removes the oldest completion (R303). -/
def chtrCmplAck (src : Src) (s : Dev) : Dev :=
  (s.guarded src Reg.CHTR_CMPL_ACK (fun s =>
    (s.modChPort (chIdx src) (fun p => { p with cmpl := p.cmpl.drop 1 })).writeStatus src .ok))

/-- The PART_READY event: the 10 ms wait ends (R299). -/
def partReady (s : Dev) : Dev := if s.chtr.st = 1 then (s.modChtr (fun c => { c with partReady := true })) else s

/-- SFDP has been read (Table 12-11): whether Table 12-1 is met, whether the xSPI Profile 1.0 table is present, and what the
part reports. -/
def chtrDiscoveryDone (supported xspi : Bool) (density : Fin 4) (jedec : BitVec 24) (page512 : Bool) (s : Dev) : Dev :=
  if s.chtr.st ≠ 1 || !s.chtr.partReady then s
  else if supported && density.val ≠ 0 then
    (s.modChtr (fun c => { c with
      st := 2, proto := if xspi then 2 else 1, density := density.val, jedec := jedec.toNat, page512 := page512, refclk := c.refStable })).chNext
  else ((s.modChtr (fun c => { c with st := 3, jedec := jedec.toNat })).latch Reg.CHTR_ERR 4)

/-- REFCLK has been stable for 1 ms (R278): SFDP is still read at 25 MHz (Table 12-11). -/
def chtrRefclkStable (s : Dev) : Dev :=
  s.modChtr (fun c => if c.st = 2 then { c with refStable := true, refclk := true, refLost := false } else { c with refStable := true })

/-- REFCLK is lost: the island returns to 25 MHz when the operation in progress ends (R278). -/
def chtrRefclkLost (s : Dev) : Dev :=
  s.modChtr (fun c =>
    if c.st ≠ 2 then { c with refStable := false }
    else if c.cur.isSome then { c with refStable := false, refLost := true } else { c with refStable := false, refclk := false })

/-- A protected-region command (R294, R303): HOST for PR4, CHASSIS for PR3, YARD for either (row 0x0B of Table 17-1). -/
def prCommand (src : Src) (write : Bool) (s : Dev) : Dev :=
  s.guarded src Reg.CHTR_PR_CMD (fun s =>
    let pr := s.regF Reg.CHTR_PR_ADDR 0 3
    let block := s.regF Reg.CHTR_PR_ADDR 8 10
    match s.actsFor src with
    | none => s
    | some p =>
      if p ≠ .yard && pr ≠ ownRegion p then s.refuseSrc src 0x0B Reg.CHTR_PR_CMD
      else if s.chtr.prBusy then s.writeStatus src .busy
      else
        match s.prRefusal pr block with
        | some st => (s.prEnd st).writeStatus src st
        | none =>
          let what : ChFor := if write then .prWrite pr block (s.chPort (chIdx src)).buf else .prRead pr block (chIdx src)
          ((s.modChtr (fun c => { c with prBusy := true })).chQueue (prDesc pr block what)).writeStatus src .ok)

/-- A read of a protected block into CHTR_BUF. -/
def chtrPrRead (src : Src) (s : Dev) : Dev := (prCommand src false s)

/-- A write of CHTR_BUF to a protected block. -/
def chtrPrWrite (src : Src) (s : Dev) : Dev := (prCommand src true s)

/-- The 32 password bytes, as written to CHTR_PW_0 to CHTR_PW_7. -/
def Dev.password (s : Dev) : Bytes := (List.range 8).flatMap (fun n => leBytes 4 (s.regN (Reg.CHTR_PW + 4 * n)))

/-- The password registers clear after each command (R296). -/
def Dev.clearPw (s : Dev) : Dev := (List.range 8).foldl (fun s n => s.setReg (Reg.CHTR_PW + 4 * n) 0) s

/-- A command of CHTR_PW_CMD on a region, for its owner or for YARD (row 0x0C of Table 17-1); the password registers clear
after it. -/
def pwCommand (src : Src) (region : Bool) (yard : Bool) (act : Nat → Dev → Dev) (s : Dev) : Dev :=
  s.guarded src Reg.CHTR_PW_CMD (fun s =>
    match src with
    | .firmware _ => s
    | .port p =>
      let pr := if region then 4 else 3
      let mine := if yard then p = .yard else decide (ownRegion p = pr)
      if !mine then s.refuseWrite p 0x0C Reg.CHTR_PW_CMD
      else (if !s.rdy Rdy.CIPHER then (s.pwEnd .notReady).writeStatus src .notReady else act pr (s.writeStatus src .ok)).clearPw)

/-- The charter allows a password on the region (R290). -/
def Dev.pwAllowed (s : Dev) (pr : Nat) : Bool :=
  match s.charter with
  | some c => if pr = 3 then c.pwPr3 else c.pwPr4
  | none => false

/-- SET (R296): a verifier to PR2. -/
def pwSet (src : Src) (region : Bool) (s : Dev) : Dev :=
  (pwCommand src region false (fun pr s =>
    if !s.pwAllowed pr then s.pwEnd .badParam
    else if s.prLocked pr then s.pwEnd .pwRequired
    else s.chQueue (prDesc 2 1 (.pwSet pr (some (pwVerifier pr s.password))))) s)

/-- UNLOCK (R296): the verifier is compared, failures are counted, and after 5 in a row the region is locked out. -/
def pwUnlock (src : Src) (region : Bool) (s : Dev) : Dev :=
  (pwCommand src region false (fun pr s =>
    let r := s.pwOf pr
    if r.lockout.isSome then s.pwEnd .pwLockout
    else
      match r.verifier with
      | none => s.pwEnd .ok
      | some v =>
        if v = pwVerifier pr s.password then (s.modPw pr (fun r => { r with opened := true, fails := 0 })).pwEnd .ok
        else
          let fails := min 5 (r.fails + 1)
          let s := s.modPw pr (fun r => { r with fails := fails, lockout := if fails = 5 then some s.ticks else none })
          ((s.latch Reg.CHTR_ERR 7).logStd LT.PW_FAIL pr St.pwBad.code).pwEnd .pwBad) s)

/-- LOCK (R296). -/
def pwLock (src : Src) (region : Bool) (s : Dev) : Dev :=
  (pwCommand src region false (fun pr s => (s.modPw pr (fun r => { r with opened := false })).pwEnd .ok) s)

/-- CLEAR (R296): removes the password from an unlocked region. -/
def pwClear (src : Src) (region : Bool) (s : Dev) : Dev :=
  (pwCommand src region false (fun pr s =>
    if s.prLocked pr then s.pwEnd .pwRequired else s.chQueue (prDesc 2 1 (.pwSet pr none))) s)

/-- ERASE_REGION (R296): from YARD only; it erases the whole region and removes its password. -/
def pwEraseRegion (src : Src) (region : Bool) (s : Dev) : Dev :=
  (pwCommand src region true (fun pr s => s.chQueue (prDesc 2 1 (.prErase pr))) s)

/-- The 60 s lockout ends (R296). -/
def pwLockoutExpiry (region : Bool) (s : Dev) : Dev :=
  (s.modPw (if region then 4 else 3) (fun r => { r with lockout := none }))

/-- A Slipway ROM service called by firmware (R298): one native descriptor under firmware's rights. `buf` is an offset in the
data RAM. Without the cores running nothing is called. -/
def romService (op addr len : Nat) (buf : BitVec 18) (ram : Bytes) (pc : Word) (s : Dev) : Dev :=
  if s.core.fwState ≠ 2 then s
  else
    let s := { s with fram := Memory.writeBytes 0 s.fram buf.toNat (ram.take (0x40000 - buf.toNat)) }
    (s.modChtr (fun c => { c with romA := none })).chSubmit (.firmware pc) op 0 addr len (0x20000000 + buf.toNat) .romService

/-- A bad argument of a ROM service. -/
def romBad (s : Dev) : Dev := s.modChtr (fun c => { c with romA := some (1, St.badParam.code) })

/-- The read service: length 1 to 65,536. -/
def romRead (addr : Word) (buf : BitVec 18) (len : BitVec 17) (pc : Word) (s : Dev) : Dev :=
  (if 1 ≤ len.toNat && len.toNat ≤ 65536 then romService 1 addr.toNat len.toNat buf [] pc s
    else if s.core.fwState ≠ 2 then s else romBad s)

/-- The program service: 1 to 256 bytes within one 256-byte span. -/
def romProgram (addr : Word) (buf : BitVec 18) (ram : Bytes) (pc : Word) (s : Dev) : Dev :=
  let n := ram.length
  (if 1 ≤ n && n ≤ 256 && addr.toNat % 256 + n ≤ 256 then romService 2 addr.toNat n buf ram pc s
    else if s.core.fwState ≠ 2 then s else romBad s)

/-- The erase service. -/
def romErase (addr : Word) (big : Bool) (pc : Word) (s : Dev) : Dev :=
  (romService (if big then 5 else 4) addr.toNat 0 0 [] pc s)

/-- The CRC-32C service: A1 returns the value over the buffer from an initial value (R298). -/
def romCrc32c (ram : Bytes) (init : Word) (s : Dev) : Dev :=
  if s.core.fwState ≠ 2 then s
  else (s.modChtr (fun c => { c with romA := some (0, ram.foldl (crcStep 0) init.toNat ^^^ 0xFFFFFFFF) }))

/-- The SFDP service: length 1 to 256. -/
def romSfdp (off : Word) (buf : BitVec 18) (len : BitVec 9) (pc : Word) (s : Dev) : Dev :=
  (if 1 ≤ len.toNat && len.toNat ≤ 256 then romService 6 off.toNat len.toNat buf [] pc s
    else if s.core.fwState ≠ 2 then s else romBad s)

/-! ### Charter load -/

/-- The calibration row as the charter load reads it (R293). -/
def Dev.loadCal (s : Dev) : Dev :=
  let row := s.norBytes 0 4096
  if leAt row 0 4 = 0x4C414346 && leAt row 4092 4 = crc32c (row.take 4088) then
    s.modChtr (fun c => { c with calValid := true, cal := row.take 96 })
  else ((s.modChtr (fun c => { c with calValid := false, cal := [] })).latch Reg.CHTR_ERR 5).logStd LT.CAL_BAD 0 0

/-- An operation in progress is cut off at AUX_OFF (R286): a program or erase leaves its range unsure, a protected block keeps
its previous sector. -/
def Dev.chCut (s : Dev) : Dev :=
  match s.chtr.cur with
  | none => s
  | some d =>
    match d.what with
    | .prWrite pr block _ =>
      let (w, gen) := s.prTarget pr block
      s.putSec (prSecNo pr block w) (some { gen := gen, epoch := s.ciph.epoch, data := [], bad := true })
    | .prRead _ _ _ => s
    | .prErase _ => s
    | .pwSet _ _ => s
    | _ =>
      if d.op = 2 then s.norUnsure d.addr d.data
      else if d.op = 4 || d.op = 5 then s.norUnsure d.addr (List.replicate d.len 0xFF)
      else s

end Sys2Proof.Machine
end

