-- ==== Sys2Proof/Machine/Log.lean ====
section
/-!
DEFINITION. The logbook (chapter 18): the record format, the reader's walk, the start-up scan, appends with their placement,
repeat slots, the wrap with its carried records, and the writer's states.
-/
namespace Sys2Proof.Machine

/-- Change the writer's state. -/
def Dev.modLog (s : Dev) (f : LogSt → LogSt) : Dev := { s with log := f s.log }

/-- The first address of the logbook region (Table 12-2). -/
abbrev logBase : Nat := 0x3A10000

/-- Sectors of the region. -/
def Dev.logSectors (s : Dev) : Nat := (s.norSize - logBase) / 4096

/-- CORE_BOOT (R26). -/
def Dev.coreBoot (s : Dev) : Nat :=
  let c := s.core
  b2n c.charterSlot + fieldAt 1 1 (b2n c.fwSlot) + fieldAt 2 1 (b2n c.migrated) + fieldAt 3 1 (b2n c.migWriteFail) +
    fieldAt 4 1 (b2n c.otherCharterBad) + fieldAt 5 1 (b2n c.otherFwBad) + fieldAt 6 2 c.landAttempts +
    fieldAt 8 8 c.charterVer + fieldAt 16 8 4

/-! ### The record (R411, R414) -/

/-- COUNT saturates (R414). -/
abbrev maxCount : Nat := 16777214

/-- A written repeat slot (R414). -/
def slotBytes (count : Nat) : Bytes :=
  let c := leBytes 3 (min maxCount count)
  c ++ leBytes 1 (crc8 c)

/-- A repeat slot, none where it is erased. -/
def slotOr (rep : Option Nat) : Bytes := match rep with | some n => slotBytes n | none => List.replicate 4 0xFF

/-- A record's bytes (Table 18-2). -/
def recordBytes (ty : Nat) (payload : Bytes) (rseq opS cycles : Nat) (rep : Option Nat) : Bytes :=
  let len := 44 + payload.length
  let h := leBytes 2 len ++ leBytes 1 ty
  let h4 := h ++ leBytes 1 (crc8 h)
  let mid := List.replicate 3 0 ++ leBytes 8 rseq ++ leBytes 8 opS ++ leBytes 4 cycles
  h4 ++ [0xFF] ++ mid ++ slotOr rep ++ List.replicate 8 0xFF ++ payload ++ leBytes 4 (crc32c (h4 ++ mid.take 23 ++ payload))

/-- A record that a walk found. -/
structure Found where
  addr : Nat
  len : Nat
  ty : Nat
  rseq : Nat
  opS : Nat
  cycles : Nat
  damaged : Bool
  bytes : Bytes
  deriving DecidableEq, Repr

/-- The header at a position of a sector has a length check that holds and a length in range. -/
def headerOk (b : Bytes) (pos : Nat) : Bool :=
  let len := leAt b pos 2
  decide (44 ≤ len) && decide (len ≤ 1024) && len % 4 = 0 && decide (pos + len ≤ 4096) &&
    leAt b (pos + 3) 1 = crc8 (subBytes b pos 3)

/-- The record check holds (R411). -/
def rchkOk (b : Bytes) (pos len : Nat) : Bool :=
  leAt b (pos + len - 4) 4 = crc32c (subBytes b pos 4 ++ subBytes b (pos + 5) 23 ++ subBytes b (pos + 40) (len - 44))

/-- The reader's walk of a sector (R418), from a position, with the last good RSEQ and whether it scans: the records found and
the bytes skipped. -/
def walkSector (b : Bytes) (base page : Nat) : Nat → Nat → Nat → Bool → Nat → List Found × Nat
  | 0, _, _, _, skip => ([], skip)
  | n + 1, pos, last, scan, skip =>
    if 4096 < pos + 44 then ([], skip)
    else if !scan && leAt b pos 2 = 0xFFFF then walkSector b base page n ((pos / page + 1) * page) last false skip
    else if headerOk b pos && (!scan || (decide (last < leAt b (pos + 8) 8) && decide (leAt b (pos + 8) 8 ≤ last + 32))) then
      let len := leAt b pos 2
      let good := rchkOk b pos len
      let f : Found := { addr := base + pos, len := len, ty := leAt b (pos + 2) 1, rseq := leAt b (pos + 8) 8,
                         opS := leAt b (pos + 16) 8, cycles := leAt b (pos + 24) 4, damaged := !good, bytes := subBytes b pos len }
      let (t, k) := walkSector b base page n (pos + len) (if good then f.rseq else last) false skip
      (f :: t, k)
    else walkSector b base page n (pos + 4) last true (skip + 4)

/-- The bytes of a sector of the ring. -/
def Dev.logSector (s : Dev) (k : Nat) : Bytes := s.norBytes (logBase + 4096 * k) 4096

/-- The sector header of Table 18-1: SSEQ and FIRST_RSEQ, where it is valid. -/
def sectorHeader (b : Bytes) : Option (Nat × Nat) :=
  if leAt b 0 4 = 0x4B474F4C && leAt b 20 4 = crc32c (subBytes b 0 20) then some (leAt b 4 4, leAt b 8 8) else none

/-- The header bytes of a sector. -/
def sectorHeaderBytes (sseq first : Nat) : Bytes :=
  let h := leBytes 4 0x4B474F4C ++ leBytes 4 sseq ++ leBytes 8 first ++ List.replicate 4 0
  h ++ leBytes 4 (crc32c h)

/-- The records of a sector, and the bytes its walk skips. -/
def Dev.walk (s : Dev) (k : Nat) : List Found × Nat :=
  let b := s.logSector k
  match sectorHeader b with
  | some (_, first) => walkSector b (logBase + 4096 * k) s.norPage 1100 24 (first - 1) false 0
  | none => ([], 0)

/-- Sectors that hold records, as (SSEQ, sector), the addresses of their headers being listed in the store. -/
def Dev.logUsed (s : Dev) : List (Nat × Nat) :=
  let ks := ((s.nor.filter (fun c => decide (logBase ≤ c.1) && decide (c.1 < s.norSize) && decide ((c.1 - logBase) % 4096 < 24))).map
    (fun c => (c.1 - logBase) / 4096)).eraseDups
  ks.filterMap (fun k => (sectorHeader (s.logSector k)).map (fun h => (h.1, k)))

/-- The sector with the highest, or the lowest, SSEQ. -/
def pickSector (better : Nat → Nat → Bool) (l : List (Nat × Nat)) : Option (Nat × Nat) :=
  l.foldl (fun m e => match m with | some x => if better e.1 x.1 then some e else m | none => some e) none

/-- Every record held, oldest sector first. -/
def Dev.logRecords (s : Dev) : List Found :=
  let used := s.logUsed
  let order := (used.map (·.1)).foldl (fun l k => insertN k l) []
  order.flatMap (fun q => match used.find? (fun e => e.1 = q) with | some e => (s.walk e.2).1 | none => [])

/-- RSEQ of the oldest record held: the first valid record of the oldest sector that holds records (R419); 0 with none. -/
def Dev.findOldest (s : Dev) : Nat :=
  match pickSector (fun a b => decide (a < b)) s.logUsed with
  | some e => match (s.walk e.2).1.find? (fun f => !f.damaged) with | some f => f.rseq | none => 0
  | none => 0

/-! ### Programs -/

/-- Programs made on a page since AUX_ON. -/
def Dev.logPrograms (s : Dev) (page : Nat) : Nat :=
  match s.log.pages.find? (fun e => e.1 = page) with | some e => e.2 | none => 0

/-- Count a program on every page that it touches. -/
def Dev.countPrograms (s : Dev) (a n : Nat) : Dev :=
  let first := a / s.norPage
  let last := (a + n - 1) / s.norPage
  let pages := (List.range (last - first + 1)).map (fun i => (first + i, s.logPrograms (first + i) + 1))
  s.modLog (fun l => { l with pages := (pages.reverse ++ l.pages.filter (fun e => decide (e.1 < first))).take 8 })

/-- Where an append of `len` bytes goes (R410, R417): its address, and whether it opens the next sector of the ring. -/
def Dev.logPlace (s : Dev) (len : Nat) : Nat × Bool :=
  let page := s.norPage
  let fits (a : Nat) : Bool :=
    a / page = (a + 39) / page && decide (a % 4096 + len ≤ 4096) && decide (24 ≤ a % 4096) && decide (s.logPrograms (a / page) < 8)
  let a1 := s.log.head
  let a2 := (a1 / page + 1) * page
  if s.log.sseq = 0 then (logBase + 4096 * s.log.ssec + 24, true)
  else if s.log.head % 4096 ≠ 0 && fits a1 then (a1, false)
  else if s.log.head % 4096 ≠ 0 && a2 / 4096 = s.log.ssec + logBase / 4096 && fits a2 then (a2, false)
  else (logBase + 4096 * ((s.log.ssec + 1) % s.logSectors) + 24, true)

/-- Queue a program of the logbook at the store. -/
def Dev.logProgram (s : Dev) (a : Nat) (data : Bytes) (what : ChFor) : Dev :=
  (s.countPrograms a data.length).chQueue
    { op := 2, addr := a, len := data.length, data := data, req := .logbook, what := what, buf := none }

/-- A record inside an LT_CARRIED counts as the record it carries (R419). -/
def Found.inner (f : Found) : Found :=
  if f.ty = LT.CARRIED then { f with ty := leAt f.bytes 42 1, bytes := subBytes f.bytes 40 (f.len - 44) } else f

/-- Records of a sector that R419 carries: the newest of each kind, where it lies in the sector. -/
def Dev.toCarry (s : Dev) (k : Nat) : List Bytes :=
  let all := (s.logRecords.filter (fun f => !f.damaged)).map (fun f => (f.addr, f.inner))
  let kind (p : Found → Bool) : List Bytes :=
    match (all.filter (fun e => p e.2)).getLast? with
    | some e => if (e.1 - logBase) / 4096 = k then [e.2.bytes] else []
    | none => []
  kind (fun f => f.ty = LT.SESSION_OPEN) ++
    kind (fun f => f.ty = LT.RAIL_FAIL && leAt f.bytes 42 1 % 2 = 1) ++ kind (fun f => f.ty = LT.WALL_CLOCK)

/-- Every byte of a sector is erased. -/
def Dev.sectorErased (s : Dev) (k : Nat) : Bool :=
  !(s.nor.any (fun c => decide (logBase + 4096 * k ≤ c.1) && decide (c.1 < logBase + 4096 * k + 4096)))

/-- Append a record (R410, R416): it counts as written from now on (R415). -/
def Dev.logAppendRec (s : Dev) (ty : Nat) (payload : Bytes) (count opS kind : Nat) (rep : Option Nat) : Dev :=
  let len := 44 + payload.length
  let (a, opens) := s.logPlace len
  let rec_ := recordBytes ty payload s.log.nextRseq opS s.log.cycles rep
  let r : LogRec := { addr := a, len := len, ty := ty, payload := payload, rseq := s.log.nextRseq, count := count,
                      slots := if rep.isSome then 1 else 0, opS := opS }
  let k := (a - logBase) / 4096
  let sseq := if opens then s.log.sseq + 1 else s.log.sseq
  let s := s.modLog (fun l => { l with
    newest := some r, pending := 0, nextRseq := l.nextRseq + 1, oldestRseq := if l.oldestRseq = 0 then l.nextRseq else l.oldestRseq,
    head := a + len, ssec := k, sseq := sseq, lastRecordS := s.opSeconds, busy := kind })
  if opens then
    let ahead := (k + 1) % s.logSectors
    let s := if s.sectorErased ahead then s else s.modLog (fun l => { l with ahead := some ahead })
    s.logProgram (a - 24) (sectorHeaderBytes sseq r.rseq ++ rec_) .logRecord
  else s.logProgram a rec_ .logRecord

/-- Program the pending repeat (R416): into the next erased slot of the newest record, or as a new record where none is left or
its page has no program left. -/
def Dev.logFlush (s : Dev) : Dev :=
  match s.log.newest with
  | none => s.modLog (fun l => { l with pending := 0 })
  | some r =>
    if r.slots < 3 && s.logPrograms (r.addr / s.norPage) < 8 then
      let count := min maxCount (r.count + s.log.pending)
      let s := s.modLog (fun l => { l with newest := some { r with count := count, slots := r.slots + 1 }, pending := 0, busy := 2 })
      s.logProgram (r.addr + 28 + 4 * r.slots) (slotBytes count) .logSlot
    else s.logAppendRec r.ty r.payload s.log.pending s.log.pendingS 5 (some s.log.pending)

/-- The first waiting entry of the queue takes its program. -/
def issueFirst : List LogEv → List LogEv
  | [] => []
  | e :: t => if e.issued then e :: issueFirst t else { e with issued := true } :: t

/-- What the sector ahead holds to be carried, judged over all records held (R419). -/
def Dev.logJudge (s : Dev) : Dev :=
  match s.log.ahead with
  | some k => s.modLog (fun l => { l with carry := s.toCarry k, toErase := some k, ahead := none })
  | none => s

/-- The writer issues its next program (R416): carried records and the erase of the sector ahead first, each append after the
repeat that is pending, then the queue in order. -/
def Dev.logWrite (s : Dev) : Dev :=
  if s.log.st ≠ 2 || s.log.busy ≠ 0 then s
  else
    let s := s.logJudge
    match s.log.carry with
    | c :: rest =>
      if 0 < s.log.pending then s.logFlush
      else (s.modLog (fun l => { l with carry := rest })).logAppendRec LT.CARRIED c 1 s.opSeconds 3 none
    | [] =>
      match s.log.toErase with
      | some k =>
        (s.modLog (fun l => { l with busy := 4 })).chQueue
          { op := 4, addr := logBase + 4096 * k, len := 4096, data := [], req := .logbook, what := .logRecord, buf := none }
      | none =>
        match s.log.queue.find? (fun e => !e.issued) with
        | none => s
        | some e =>
          if 0 < s.log.pending then s.logFlush
          else
            let count := min maxCount e.count
            let opS := if e.early then e.opS + s.log.base else e.opS
            let s := s.modLog (fun l => { l with queue := issueFirst l.queue })
            s.logAppendRec e.ty e.payload count opS 1 (if 1 < count then some count else none)

/-- An append is issued (LOG_APPEND). -/
def logAppend (s : Dev) : Dev := s.logWrite

/-- LT_LOST_EVENTS takes an entry that frees (R415). -/
def Dev.logLostEntry (s : Dev) : Dev :=
  if s.log.lostNow = 0 then s
  else
    let p := leBytes 4 s.log.lostNow ++ leBytes 1 s.log.lostType ++ [0, 0, 0] ++ leBytes 4 s.log.lostS
    s.modLog (fun l => { l with
      lostNow := 0
      queue := l.queue ++ [{ ty := LT.LOST_EVENTS, payload := p, count := 1, opS := s.opSeconds, early := decide (l.st < 2), issued := false }] })

/-- The entry or the erase that a logbook descriptor of a kind carried leaves the writer. -/
def Dev.logEnd (s : Dev) (kind : Nat) : Dev :=
  let s := if kind = 1 then (s.modLog (fun l => { l with queue := l.queue.filter (fun e => !e.issued) })).logLostEntry else s
  if kind = 4 then s.modLog (fun l => { l with toErase := none, oldestRseq := s.findOldest }) else s

/-- A program of the logbook does not reach the part: its records are lost (R416). -/
def Dev.logProgramLost (s : Dev) : Dev :=
  let kind := s.log.busy
  let s := s.modLog (fun l => { l with busy := 0 })
  (if kind = 4 then s else (s.countReg Reg.LOG_COUNT 0 16 1).latch Reg.LOG_ERR 3).logEnd kind

/-- The descriptor of the logbook that runs at the store ends (R416). A program that fails twice counts as lost; a failed
program leaves what its part wrote. -/
def Dev.logDone (s : Dev) (fail : Bool) : Dev :=
  match s.chtr.cur with
  | some d =>
    if d.req ≠ .logbook then s
    else
      let kind := s.log.busy
      let s := (s.modChtr (fun c => { c with cur := none, timeouts := 0 })).modLog (fun l => { l with busy := 0 })
      let s := if fail then
          (((s.norUnsure d.addr d.data).chErr 2 d.addr).countReg Reg.LOG_COUNT 0 16 1).latch Reg.LOG_ERR 3
        else (s.norOp d false).1
      let s := s.logEnd kind
      (if fail then s.logStd LT.CS_OP_FAIL d.addr St.verifyFail.code else s).chNext
  | none => s

/-- The program's completion (LOG_PROGRAM_DONE). -/
def logProgramDone (fail : Bool) (s : Dev) : Dev := (s.logDone fail)

/-- The timed flush (R416). -/
def logTimedFlush (s : Dev) : Dev :=
  if s.log.st = 2 && s.log.busy = 0 && 0 < s.log.pending then s.logFlush else s

/-- No record for MARK_S seconds (R413). -/
def logTimeMark (s : Dev) : Dev := if s.log.st = 2 then (s.logEvent LT.TIME_MARK []) else s

/-! ### Start-up (R420) and damage (R418) -/

/-- Mark a damaged record, where it is not marked yet (R418). -/
def Dev.logMark (s : Dev) (f : Found) : Dev :=
  let a := f.addr + 4
  let b := Memory.read norByte s.nor a
  if f.damaged && b.getLsbD 7 && s.logPrograms (f.addr / s.norPage) < 8 then
    (({ s with nor := Memory.write norByte s.nor a (b &&& 0x7F) }.countPrograms a 1).latch Reg.LOG_ERR 1).countReg Reg.LOG_COUNT 16 16 1
  else s

/-- The address after the last byte of a sector that is not erased. -/
def Dev.sectorEnd (s : Dev) (k : Nat) : Nat :=
  (s.nor.filter (fun c => decide (logBase + 4096 * k ≤ c.1) && decide (c.1 < logBase + 4096 * k + 4096))).foldl
    (fun m c => max m (c.1 + 1)) (logBase + 4096 * k)

/-- OFF to SCAN at READY_CHARTER, or where the charter load found none (R420, R422). -/
def Dev.logStart (s : Dev) : Dev := if s.log.st = 0 && s.chtr.st = 2 then s.modLog (fun l => { l with st := 1 }) else s

/-- The walk of the newest sector ends the scan: the records found are marked, and the head, the sequence numbers, the power-on
count and the time base are taken from the last good one (R413, R417, R420). -/
def Dev.logHead (s : Dev) : Dev :=
  let newest := pickSector (fun a b => decide (b < a)) s.logUsed
  let (found, skipped) := match newest with | some e => s.walk e.2 | none => ([], 0)
  let s := found.foldl (fun s f => s.logMark f) s
  let s := if 0 < skipped then s.latch Reg.LOG_ERR 2 else s
  let good := s.logRecords.filter (fun f => !f.damaged)
  let last := good.getLast?
  let opS := match last with | some f => f.opS + 1 | none => 0
  let page := s.norPage
  let s := s.modLog (fun l => { l with
    st := 2
    base := if l.cycles = 0 then opS else l.base
    cycles := if l.cycles = 0 then (match last with | some f => f.cycles + 1 | none => 1) else l.cycles
    nextRseq := match last with | some f => f.rseq + 1 | none => 1
    oldestRseq := s.findOldest
    ssec := match newest with | some e => e.2 | none => 0
    sseq := match newest with | some e => e.1 | none => 0
    head := match newest with | some e => (s.sectorEnd e.2 + page - 1) / page * page | none => 0
    skipped := skipped, busy := 0, newest := none, pending := 0 })
  s.modLog (fun l => { l with lastRecordS := s.opSeconds })

/-- The sector after the newest is carried and erased where it is not erased (R418, R419). -/
def Dev.logAhead (s : Dev) : Dev :=
  let ahead := match pickSector (fun a b => decide (b < a)) s.logUsed with | some e => (e.2 + 1) % s.logSectors | none => 0
  if s.sectorErased ahead then s
  else s.modLog (fun l => { l with carry := s.toCarry ahead, toErase := some ahead })

/-- The POWER_ON event goes to the front of the queue; of a full queue the last entry is lost. -/
def Dev.logPowerOn (s : Dev) : Dev :=
  let ev : LogEv := { ty := LT.POWER_ON, payload := leBytes 4 s.coreBoot ++ leBytes 4 s.log.skipped, count := 1,
                      opS := s.opSeconds, early := false, issued := false }
  if s.log.queue.length < 32 then (s.modLog (fun l => { l with queue := ev :: l.queue }))
  else
    let lost := s.log.queue.getLast?
    let s := s.modLog (fun l => { l with queue := ev :: l.queue.dropLast })
    (match lost with | some e => s.logLost e.ty | none => s)

/-- The head is found (R420): the counters of R413, the sector ahead, and LT_POWER_ON; the queue drains. -/
def logScanDone (s : Dev) : Dev := if s.log.st ≠ 1 then s else s.logHead.logAhead.logPowerOn

/-- The store is FAILED: every event is counted lost (Table 18-3). -/
def Dev.logFailed (s : Dev) : Dev :=
  if s.log.st = 0 then s
  else
    let s := s.log.queue.foldl (fun s e => s.logLost e.ty) s
    (s.modLog (fun l => { l with st := 3, queue := [], pending := 0, busy := 0, carry := [], toErase := none, ahead := none })).latch Reg.LOG_ERR 3

/-- RESET_FULL with the store READY again: FAILED to SCAN, and LT_LOST_EVENTS with the count (Table 18-3). -/
def Dev.logRestart (s : Dev) : Dev :=
  if s.log.st = 3 && s.chtr.st = 2 then (s.modLog (fun l => { l with st := 1 })).logLostEntry else s

end Sys2Proof.Machine
end

