-- ==== Sys2Proof/Machine/MapLoad.lean ====
section
/-!
DEFINITION. Loading and rebuilding the map (R77, Table 3-6), what a landing takes from the last crossing (R144, R145), and the
map's own commands (R81).
-/
namespace Sys2Proof.Machine

/-! ### What the last crossing left (R119, R144) -/

/-- The bytes of a record. -/
def recBytes (p : Payload) : Bytes := match p with | .opening b => b | .commitRec b => b | _ => []

/-- The newest opening record, and the newest commit record. -/
def Dev.newestRec (s : Dev) (commit : Bool) : Option Bytes :=
  let rs := s.validRecs.filter (fun r => match r.2 with | .opening _ => !commit | .commitRec _ => commit | _ => false)
  (rs.foldl (fun (b : Option (Nat × Payload)) r =>
    match b with | some x => if recSeq x.2 < recSeq r.2 then some r else b | none => some r) none).map (fun r => recBytes r.2)

/-- A valid commit record carries this CROSS_SEQ. -/
def Dev.committedSeq (s : Dev) (q : Nat) : Bool :=
  s.validRecs.any (fun r => match r.2 with | .commitRec _ => decide (recSeq r.2 = q) | _ => false)

/-- The newest LT_SESSION_OPEN record, as its CROSS_SEQ and CKPT_SEQ; a damaged copy is stepped over (R143). -/
def Dev.lastSession (s : Dev) : Option (Nat × Nat) :=
  (((s.logRecords.filter (fun f => !f.damaged)).map Found.inner).filter (fun f => f.ty = LT.SESSION_OPEN)).getLast?.map
    (fun f => (leAt f.bytes 40 8, leAt f.bytes 48 8))

/-- CROSS_SEQ of the newest LT_SESSION_OPEN record. -/
def Dev.newestSession (s : Dev) : Option Nat := s.lastSession.map (fun p => p.1)

/-- The session record of this landing is in the charter store. -/
def Dev.sessionHeld (s : Dev) : Bool := decide (s.lastSession = some (s.nextCross, s.land.sessionCkpt))

/-- The record is in the charter store: the crossing may arm (R143). One that the queue or the store has lost is written again. -/
def sessionOpenWritten (s : Dev) : Dev :=
  if !s.land.sessionAsked || s.land.sessionOpen || s.log.st ≠ 2 || s.log.queue.any (fun e => e.ty = LT.SESSION_OPEN) then s
  else if !s.sessionHeld then s.sessionRecord
  else
    let s := s.modLand (fun l => { l with sessionOpen := true })
    ((s.reclaim s.oldXMeta).journalStep).evalAgain

/-- The CROSS_SEQ of a last crossing that is incomplete (R144). -/
def Dev.incompleteSeq (s : Dev) : Option Nat :=
  match s.newestRec false, s.newestSession with
  | some b, some q => if !s.committedSeq (leAt b 8 8) then some (leAt b 8 8) else if !s.committedSeq q then some q else none
  | some b, none => if !s.committedSeq (leAt b 8 8) then some (leAt b 8 8) else none
  | none, some q => if !s.committedSeq q then some q else none
  | none, none => none

/-- k at the seed, and W = 0 (R41, R89, R144). -/
def Dev.seedEnergy (s : Dev) : Dev :=
  s.modFery (fun f => { f with k := clampN 1000 20000 (s.regF Reg.FERY_ENERGY_SEED 0 16), wear := 0, kFromRecord := false })

/-- An incomplete last crossing (R144). -/
def Dev.landIncomplete (s : Dev) (q : Nat) : Dev :=
  let d := match s.newestRec false with | some b => if leAt b 8 8 = q then leAt b 28 4 else 0 | none => 0
  let s := s.modLand (fun l => { l with incomplete := true })
  ((s.latch Reg.XING_LAND_ERR 4).logStd LT.LAND_INCOMPLETE q d).dirtyShutdown

/-- The signed value of a 64-bit field. -/
def sint64 (v : Nat) : Int := if v < 2 ^ 63 then (v : Int) else (v : Int) - 2 ^ 64

/-- k and W from the last crossing's commit record (R145). -/
def Dev.recordEnergy (s : Dev) (b : Bytes) : Dev :=
  (s.modFery (fun f => { f with k := leAt b 84 2, wear := sint64 (leAt b 104 8), kFromRecord := true })).lastFrom b false

/-! ### Table 3-6 -/


/-- The newest checkpoint whose CKPT entry the journal holds. -/
def Dev.newestCkpt (s : Dev) : Option NUnit :=
  match s.journal.find? (fun j => j.1 = 4) with
  | some j => lookupK j.2 s.flsh.units
  | none => none

/-- No unit stands in the image region. -/
def Dev.imageBlank (s : Dev) : Bool := !s.flsh.units.any (fun p => decide (p.1 < 2 ^ 32) && !p.2.filler && decide (p.2.kind ≤ 6))

/-- Enter REBUILDING. -/
def Dev.mapRebuild (s : Dev) : Dev :=
  ((s.modGmap (fun m => { m with phase := .rebuilding, source := 3, dir := [] })).latch Reg.GMAP_ERR 2).logStd LT.MAP_REBUILD 0
    s.gmapStatus

/-- READY_NAND and READY_DRAM are both set: the map's source (Table 3-6, R144). -/
def Dev.mapStart (s : Dev) : Dev :=
  let aborting : Bool := match s.core.trans with | some (.landAbort _ _ _) => true | _ => false
  if s.gmap.phase ≠ .absent || s.gmap.normalising || !s.rdy Rdy.NAND || !s.rdy Rdy.DRAM || s.core.mode ≠ .restore || aborting then s
  else
    let s := s.modFery (fun f => { f with wseq := s.flsh.units.foldl (fun m p => max m p.2.wseq) f.wseq })
    let last := s.newestRec true
    let s := match last with
      | some b => s.modFery (fun f => { f with wseq := max f.wseq (leAt b 32 8) })
      | none => s
    let bad := s.incompleteSeq
    let s := match bad with | some q => s.landIncomplete q | none => s
    let s := s.modLand (fun l => { l with lastComplete := last.map (fun b => leAt b 8 8) })
    let s := match bad, last with
      | none, some b => s.recordEnergy b
      | _, _ => s.seedEnergy
    let ck := s.newestCkpt
    let seq := match ck with
      | some u => match u.payload with | .checkpoint q _ _ _ _ _ => q | _ => 0
      | none => 0
    let s := s.modGmap (fun m => { m with ckptSeq := seq })
    match bad, last, ck with
    | none, some b, _ =>
      let dir := match s.runStart 4 (leAt b 8 8) with
        | some (_, u) => match u.payload with | .dir d => d | _ => []
        | none => []
      s.modGmap (fun m => { m with phase := .loading, source := 1, dir := dir })
    | _, _, some u =>
      let dir := match u.payload with | .checkpoint _ _ _ d _ _ => d | _ => []
      s.modGmap (fun m => { m with phase := .loading, source := 2, dir := dir })
    | _, _, none =>
      if s.imageBlank then
        (s.modLand (fun l => { l with blank := true })).modGmap (fun m => { m with normalising := true, source := 0, dir := [], entries := [] })
      else s.mapRebuild

/-- The entries of the map granules that the directory names, by granule. -/
def Dev.dirEntries (s : Dev) : List (Nat × GEntry) :=
  s.gmap.dir.foldl (fun acc d =>
    match s.mapUnit s.gmap.dir d.1 with
    | some u => match u.payload with | .mapGranule es => es.foldl (fun l p => putD (GEntry.blank .clean) p.1 p.2 l) acc | _ => acc
    | none => acc) []

/-- Every map granule that the directory names stands in NAND. -/
def Dev.dirWhole (s : Dev) : Bool :=
  s.gmap.dir.all (fun d => match s.mapUnit s.gmap.dir d.1 with
    | some u => (match u.payload with | .mapGranule _ => true | _ => false)
    | none => false)

/-- Point an entry at another copy; the copy it named is superseded. -/
def Dev.repoint (s : Dev) (g : Nat) (e : GEntry) : Dev :=
  let old := (s.entry g).loc.map (fun l => unitKey l (s.entry g).xr)
  let s := s.setEntry g e
  match old with
  | some k => if e.loc.map (fun l => unitKey l e.xr) = some k then s else s.supersede k (g / 2048)
  | none => s

/-- The index records of a crossing, in order. -/
def Dev.indexOf (s : Dev) (q : Nat) : List IndexRec :=
  (s.flsh.units.filter (fun p => 2 ^ 32 ≤ p.1 && p.2.kind = 3 && p.2.crossSeq = q)).foldl (fun l p =>
    match p.2.payload with | .index rs => rs.foldl (fun l r => insertRec r l) l | _ => l) []

/-- Merge one index record (R76). -/
def Dev.mergeRec (s : Dev) (r : IndexRec) : Dev :=
  let e := s.entry r.g
  s.repoint r.g { e with loc := some r.loc, xr := true, gen := (e.gen + 1) % 4096, poison := r.poison }

/-- The write sequence of the copy that an entry names. -/
def Dev.seqOf (s : Dev) (g : Nat) : Nat :=
  let e := s.entry g
  match e.loc with
  | some l => match s.unitAt l e.xr with | some u => u.wseq | none => 0
  | none => 0

/-- Apply a copy whose write sequence is higher than the one recorded. -/
def Dev.applyCopy (s : Dev) (p : Nat × NUnit) : Dev :=
  if p.2.wseq ≤ s.seqOf p.2.idx then s
  else
    let e := s.entry p.2.idx
    s.repoint p.2.idx { e with
      loc := some (p.1 % 2 ^ 32), xr := decide (2 ^ 32 ≤ p.1), gen := p.2.gen, poison := decide (p.2.poison ≠ []) }

/-- The groups that the newest checkpoint lists. -/
def Dev.ckptFront (s : Dev) : List Nat :=
  match s.newestCkpt with
  | some u => match u.payload with | .checkpoint _ _ _ _ _ front => front | _ => []
  | none => []

/-- The poison list that the newest checkpoint holds. -/
def Dev.ckptSlots (s : Dev) : List (Nat × Nat) :=
  match s.newestCkpt with
  | some u => match u.payload with | .checkpoint _ _ _ _ slots _ => slots | _ => []
  | none => []

/-- The changed slots that a crossing wrote, applied to a poison list (R76). -/
def Dev.crossSlots (s : Dev) (q : Nat) (l : List (Nat × Nat)) : List (Nat × Nat) :=
  (s.flsh.units.filter (fun p => 2 ^ 32 ≤ p.1 && p.2.kind = 5 && p.2.crossSeq = q)).foldl (fun l p =>
    match p.2.payload with
    | .poison ch => ch.foldl (fun l c => match c.2 with | some g => insertK c.1 g l | none => eraseK c.1 l) l
    | _ => l) l

/-- The image group of a unit. -/
def groupOf (k : Nat) : Nat := frontCode (locBlock k) (locDie k) (locPage k / 3)

/-- A damaged entry that a map granule's copy in NAND holds (R60): the persistable fields are those of the newest copy of its
granule. R79 repairs an entry from that map granule, and the spec names no other source. DESIGN CHOICE: assumption 94. -/
def Dev.fixLoaded (s : Dev) (g : Nat) : Dev :=
  let (e, _) := s.newestCopy g (GEntry.blank .clean, 0)
  let s := (s.repoint g e).latch Reg.GMAP_ERR 0
  (s.countReg Reg.GMAP_ERR_COUNT 0 16 1).logStd LT.MAP_ENTRY_REPAIR g s.gmapStatus

/-- All map granules are loaded, or one has failed after re-read and reconstruction. `recon`: one was reconstructed from parity
(GMAP_ERR); `damaged`: the granules whose entries' CHECK failed as they were read (R60). -/
def mapGranulesLoaded (failed recon : Bool) (damaged : List (BitVec 26)) (s : Dev) : Dev :=
  if s.gmap.phase ≠ .loading || s.gmap.normalising then s
  else
    let s := if recon then s.latch Reg.GMAP_ERR 1 else s
    let merge : Bool := decide (s.gmap.source = 1)
    if failed || !s.dirWhole then s.mapRebuild
    else
      let s := s.modGmap (fun m => { m with dflt := GEntry.blank .clean, entries := s.dirEntries })
      let s := if merge then (s.indexOf (s.land.lastComplete.getD 0)).foldl Dev.mergeRec s else s
      let s := damaged.foldl (fun s g => s.fixLoaded g.toNat) s
      if merge then s.modGmap (fun m => { m with normalising := true })
      else s.modGmap (fun m => { m with phase := .rollfwd })

/-- The scan of the stripes from ROLL_START through the frontier list ends: every copy in them whose write sequence is higher than
the one recorded is applied. The frontier list starts with the stripe that holds ROLL_START (R74). -/
def mapRollfwdEnd (s : Dev) : Dev :=
  if s.gmap.phase ≠ .rollfwd || s.gmap.normalising then s
  else
    let us := s.flsh.units.filter (fun p => p.1 < 2 ^ 32 && p.2.kind = 1 && s.ckptFront.contains (groupOf p.1))
    (us.foldl Dev.applyCopy s).modGmap (fun m => { m with normalising := true })

/-- The scan of the image region and of committed crossing regions ends. -/
def mapRebuildEnd (s : Dev) : Dev :=
  if s.gmap.phase ≠ .rebuilding || s.gmap.normalising then s
  else
    let s := s.modGmap (fun m => { m with dflt := GEntry.blank .clean, entries := [] })
    let us := s.flsh.units.filter (fun p => p.2.kind = 1 && (decide (p.1 < 2 ^ 32) || s.committedSeq p.2.crossSeq))
    let s := us.foldl Dev.applyCopy s
    let maps := s.flsh.units.filter (fun p => p.2.kind = 2)
    (maps.foldl (fun s p => s.supersede p.1 (2 ^ 20 + p.2.idx)) s).modGmap (fun m => { m with normalising := true })

/-- Units that nothing names once the map is LIVE: every copy that no entry, no directory and no checkpoint in force refers
to, and that no change since the loaded map superseded (R63, R75, R144). -/
def Dev.orphans (s : Dev) : List Nat :=
  let named (p : Nat × NUnit) : Bool :=
    match p.2.kind with
    | 1 => let e := s.entry p.2.idx; e.loc.map (fun l => unitKey l e.xr) = some p.1
    | 2 => (lookupK p.2.idx s.gmap.dir).map (fun d => unitKey d.loc d.xr) = some p.1
    | 6 => (match s.newestCkpt with | some u => decide (u.wseq ≤ p.2.wseq) | none => false)
    | 7 => false
    | _ => s.land.lastComplete = some p.2.crossSeq
  (s.flsh.units.filter (fun p => !p.2.filler && !named p && !s.flsh.sup.any (fun q => q.key = p.1))).map (fun p => p.1)

/-- Orphans: a superseded copy whose newer LOC the directory in force does not record waits for R75; the others are
reclaimable. -/
def Dev.sortOrphans (s : Dev) : Dev :=
  let map (u : NUnit) : Nat := if u.kind = 2 then 2 ^ 20 + u.idx else u.idx / 2048
  let waits (k : Nat) : Bool := match lookupK k s.flsh.units with
    | some u => (u.kind = 1 || u.kind = 2) && !s.records s.gmap.dir { key := k, map := map u }
    | none => false
  let late := s.orphans.filter waits
  let s := s.reclaim (s.orphans.filter (fun k => !waits k))
  late.foldl (fun s k => match lookupK k s.flsh.units with | some u => s.supersede k (map u) | none => s) s

/-- The poison list read from the crossing or the checkpoint (Table 3-6), brought to hold the granules whose POISON bit is 1, up
to its slots: the bits are authoritative (R71). -/
def Dev.poisonLoad (s : Dev) : Dev :=
  let all := (s.gmap.entries.filter (fun p => p.2.poison)).map (fun p => p.1)
  let base := if s.gmap.source = 1 then s.crossSlots (s.land.lastComplete.getD 0) s.ckptSlots
    else if s.gmap.source = 2 then s.ckptSlots else []
  let kept := base.filter (fun p => all.contains p.2)
  let list := (all.filter (fun g => !kept.any (fun p => p.2 = g))).foldl
    (fun l g => if l.length < 1048576 then takeSlot l g else l) kept
  s.modGmap (fun m => { m with
    poisonList := list, poisonOvf := decide (1048576 < all.length), poisonChanged := slotDiff s.ckptSlots list })

/-- The next checkpoint's frontier where none has ever been written: the first groups of the image region. -/
def Dev.firstFront (s : Dev) : Dev :=
  if s.newestCkpt.isSome || !s.flsh.frontier.isEmpty then s
  else
    let s := s.allocFront 0 frontGroups
    s.modFlsh (fun x => { x with frontier := x.frontPend.dropLast, frontPend := x.frontPend.getLast?.toList, frontWritten := [] })

/-- Normalisation ends (R77): every host entry UNRESTORED, the landing bitmap clear, LIVE, READY_MAP; the landing's checkpoint
and session follow (R143). -/
def mapNormalisationEnd (s : Dev) : Dev :=
  if !s.gmap.normalising then s
  else
    let s := s.modFlsh (fun x => { x with reclaim := [] })
    let s := s.sortOrphans.poisonLoad
    let u := GEntry.blank .unrestored
    let norm (p : Nat × GEntry) : Nat × GEntry := (p.1, { p.2 with st := .unrestored, age := 0 })
    let s := s.modGmap (fun m => { m with
      phase := .live, normalising := false, dflt := u
      entries := (m.entries.map norm).filter (fun p => decide (p.2 ≠ u)), unrestored := s.hostGranules, cache := [] })
    let s := s.modLand (fun l => { l with bitmap := [] })
    let fold := if s.gmap.source = 1 then FoldWalk.index (s.indexOf (s.land.lastComplete.getD 0)) else FoldWalk.table 0
    let s := s.modFery (fun f => { f with fold := fold, foldTableDone := false, summary := [] })
    ((s.firstFront.setReady Rdy.MAP).sessionStart.journalStep).evalAgain

/-- The entry table is discarded (Table 3-6): the landing is aborted, or the down-timetable starts. -/
def Dev.mapOff (s : Dev) : Dev :=
  ({ s with gmap := { GmapSt.reset with
    source := s.gmap.source, lookupBusy := s.gmap.lookupBusy, lookupDone := s.gmap.lookupDone, lookup := s.gmap.lookup } }).clrReady Rdy.MAP

/-! ### The map's commands (R81) -/

/-- A write of GMAP_LOOKUP_IDX: INDEX is taken and DONE clears. -/
def gmapLookup (src : Src) (val : Word) (s : Dev) : Dev :=
  (s.guarded src Reg.GMAP_LOOKUP_IDX (fun s =>
    ((s.setRegN Reg.GMAP_LOOKUP_IDX (val.toNat % 2 ^ 26)).modGmap (fun m => { m with lookupBusy := true, lookupDone := false })).writeStatus src .ok))

/-- The entry of a granule, or 0 where no verified table exists or the index is past the host granules. -/
def Dev.lookupWord (s : Dev) (g : Nat) : BitVec 64 :=
  let live := s.gmap.phase = .live || s.gmap.phase = .saving || s.gmap.phase = .saved
  if live && decide (g < s.hostGranules) then (s.entry g).word else 0

/-- The lookup ends: DONE sets. An entry that the read finds damaged is repaired first (R60, R79). -/
def gmapLookupDone (damaged : Bool) (s : Dev) : Dev :=
  if !s.gmap.lookupBusy then s
  else
    let g := s.regF Reg.GMAP_LOOKUP_IDX 0 26
    let s := s.fixEntry (damaged && (s.gmap.phase = .live || s.gmap.phase = .saving || s.gmap.phase = .saved) && decide (g < s.hostGranules)) g
    s.modGmap (fun m => { m with lookupBusy := false, lookupDone := true, lookup := s.lookupWord g })

/-- A write of 1 to GMAP_CACHE_CTL.FLUSH. -/
def gmapCacheFlush (src : Src) (s : Dev) : Dev :=
  (s.guarded src Reg.GMAP_CACHE_CTL (fun s => (s.setRegF Reg.GMAP_CACHE_CTL 1 1 1).writeStatus src .ok))

/-- The cache flush ends and FLUSH clears. -/
def gmapCacheFlushDone (s : Dev) : Dev :=
  if s.regF Reg.GMAP_CACHE_CTL 1 1 = 1 then (s.cacheFlush.setRegF Reg.GMAP_CACHE_CTL 1 1 0) else s

end Sys2Proof.Machine
end

