-- ==== Sys2Proof/Machine/Dctl.lean ====
section
/-!
DEFINITION. The DRAM controller at work (chapter 9): commands to the banks and page policy, refresh, power-down, row
disturbance, the symbol code, and command/address replay.
-/
namespace Sys2Proof.Machine

/-- DCTL_RH.THR, clamped. -/
def Dev.rhThr (s : Dev) : Nat := clampN 64 32768 (s.regF Reg.DCTL_RH 0 16)

/-- An ACT of a row counts in the bank's tracker (R210): a row of the table counts on; a new one takes the place of the
smallest count plus 1. -/
def Bank.act (b : Bank) (row : Nat) : Bank :=
  match lookupK row b.rh with
  | some c => { b with rh := insertK row (c + 1) b.rh }
  | none =>
    if b.rh.length < 16 then { b with rh := insertK row 1 b.rh }
    else
      let m := b.rh.foldl (fun m p => min m p.2) (2 ^ 32)
      match b.rh.find? (fun p => p.2 = m) with
      | some p => { b with rh := insertK row (m + 1) (eraseK p.1 b.rh) }
      | none => b

/-- Commands that a subchannel is given: the last 64 are kept (R218). -/
def Dev.pushCmds (s : Dev) (n : Nat) (cs : List DCmd) : Dev :=
  let all := (s.sub n).issued ++ cs
  s.setSub n { s.sub n with issued := all.drop (all.length - 64) }

/-- A command without a column or data. -/
def rowCmd (kind : DCmdKind) (q row : Nat) : DCmd := { kind := kind, q := q, row := row, col := 0, auto := false, data := none }

/-- RFMsb to a bank with flagged rows, which is precharged for it: each row's count becomes THR ÷ 2 and its flag clears
(R211). -/
def Dev.rfm (s : Dev) (q : Nat) : Dev :=
  let b := s.bank q
  if b.flagged.isEmpty then s
  else
    let rh := b.flagged.foldl (fun l r => insertK r (s.rhThr / 2) l) b.rh
    ((s.setBank q { b with rh := rh, flagged := [], opened := none }).wrapReg Reg.DCTL_RH_STATUS 0 16 1).pushCmds (q / 64)
      [rowCmd .rfm q 0]

/-- RFMsb to every bank of a subchannel that was flagged before this tick (R211). DESIGN CHOICE: within its 1 µs it is issued
with the next command to the subchannel in a later tick, or with its next refresh (assumption 95). -/
def Dev.rfmDue (s : Dev) (n : Nat) : Dev :=
  ((s.dctl.banks.filter (fun p => p.1 / 64 = n && !p.2.flagged.isEmpty && decide (p.2.flagTick < s.ticks))).map
    (fun p => p.1)).foldl Dev.rfm s

/-- An ACT is issued to a row (R210, R211): it counts in the rolling accumulated activation count and in the tracker, and the
row is flagged when its count reaches THR. -/
def Dev.actRow (s : Dev) (q row : Nat) : Dev :=
  let b := s.bank q
  let s := (s.setBank q { b with opened := some row, actTick := s.ticks, raa := b.raa + 1 }).pushCmds (q / 64) [rowCmd .act q row]
  if s.regF Reg.DCTL_RH 31 1 = 0 then s
  else
    let b := (s.bank q).act row
    if s.rhThr ≤ (lookupK row b.rh).getD 0 && !b.flagged.contains row then
      let s := (s.setBank q { b with flagged := b.flagged ++ [row], flagTick := s.ticks }).latch Reg.DCTL_ERR 6
      s.logStd LT.DRAM_RH_FLAG (q / 64) row
    else s.setBank q b

/-- Refresh management that the components call for (R210): at RAAIMT the bank is given it, precharged, and the count falls by
as much. PRESUMED: the DDR5 standard's rule (assumption 96). -/
def Dev.raaManage (s : Dev) (q : Nat) : Dev :=
  let b := s.bank q
  if b.raa < max 1 Config.raaImt then s
  else (s.setBank q { b with raa := b.raa - max 1 Config.raaImt, opened := none }).pushCmds (q / 64) [rowCmd .rfm q 0]

/-- A subchannel takes commands: READY, or in self-refresh, which a request at the queue head ends (R240), but not while a
frequency change relocks (R238). -/
def Dev.subServes (s : Dev) (n : Nat) : Bool :=
  ((s.sub n).st = .ready || (s.sub n).st = .selfRefresh) && !(s.trn.phase = .enter || s.trn.phase = .relock)

/-- An ACT to a flagged row comes SPACING × 8 ns or more after the bank's last (R211); a tick is 40 ns. -/
def Dev.actSpaced (s : Dev) (q row : Nat) : Bool :=
  let b := s.bank q
  !b.flagged.contains row || decide (b.actTick + ceilDiv (s.regF Reg.DCTL_RH 16 8) 5 ≤ s.ticks)

/-- Open the row that an access needs: PRE where another is open, and ACT. -/
def Dev.openRow (s : Dev) (q row : Nat) : Dev :=
  match (s.bank q).opened with
  | none => s.actRow q row
  | some r => if r = row then s else (s.pushCmds (q / 64) [rowCmd .pre q r]).actRow q row

/-- The command that an entry becomes. -/
def QEntry.cmd (e : QEntry) (q : Nat) (auto : Bool) : DCmd :=
  { kind := if e.write then .wr else .rd, q := q, row := e.row, col := e.col, auto := auto, data := e.data }

/-- A bank-queue head entry is issued (R201, R203, R209, R211, R218, R240). -/
def dramCommandIssue (q : Fin 512) (s : Dev) : Dev :=
  let n := q.val / 64
  match (s.bank q.val).queue with
  | [] => s
  | e :: rest =>
    if !s.subServes n then s
    else
      let s := s.setSub n { s.sub n with st := .ready }
      let s := { s with dctl := { s.dctl with powerDown := s.dctl.powerDown.erase (q.val / 32), afterRef := false } }
      let s := (s.rfmDue n).raaManage q.val
      if !((s.bank q.val).opened = some e.row) && !s.actSpaced q.val e.row then s
      else
        let s := s.openRow q.val e.row
        let b := { s.bank q.val with queue := rest }
        let stay := s.staysOpen b e.row
        let s := s.setBank q.val { b with opened := if stay then some e.row else none }
        (s.pushCmds n [e.cmd q.val (!stay)]).admitNext q.val 16

/-- An idle open row is closed (R204). -/
def rowIdleClose (q : Fin 512) (s : Dev) : Dev :=
  let s := s.rfmDue (q.val / 64)
  match (s.bank q.val).opened with
  | none => s
  | some r => (s.setBank q.val { s.bank q.val with opened := none }).pushCmds (q.val / 64) [rowCmd .pre q.val r]

/-- A rank's queues hold no entry (R208). -/
def Dev.rankIdle (s : Dev) (n rk : Nat) : Bool :=
  s.dctl.banks.all (fun p => decide (p.1 / 32 ≠ 2 * n + rk) || p.2.queue.isEmpty) &&
    s.dctl.ingress.all (fun p => decide (p.1 / 32 ≠ 2 * n + rk))

/-- A rank idle for PD_IDLE enters power-down (R208); PD_IDLE 0 disables it. Its rows close, except those that the predictor
keeps open (R204, R208). -/
def powerDownEntry (sub : Fin 8) (rank : Fin 2) (s : Dev) : Dev :=
  let id := 2 * sub.val + rank.val
  if (s.sub sub.val).st ≠ .ready || s.regF Reg.DCTL_PWR 0 8 = 0 || !s.rankIdle sub.val rank.val ||
      s.regF Reg.DCTL_CONFIG 9 1 < rank.val then s
  else
    let s := { s with dctl := { s.dctl with
      powerDown := insertN id s.dctl.powerDown
      banks := (s.dctl.banks.map (fun p =>
        if p.1 / 32 = id && !s.staysOpen p.2 (p.2.opened.getD 0) then (p.1, { p.2 with opened := none }) else p)).filter
        (fun p => decide (p.2 ≠ Bank.reset)) } }
    s

/-! ### Refresh and temperature (R205 to R207) -/

/-- A refresh of a subchannel: its ranks leave power-down, its rows close, and each bank's activation count falls by RAAIMT
(R204, R205, R208, R210). -/
def Dev.refreshSub (s : Dev) (n : Nat) : Dev :=
  let s := (((s.rfmDue n).closeRows n).wakeRanks n).mapBanks n (fun b => { b with raa := b.raa - Config.raaImt })
  s.pushCmds n [rowCmd .ref (64 * n) 0]

/-- A paused subchannel is held for retraining at length, or trains in a frequency change: no short pause, so it refreshes
(R205, R206). -/
def Dev.trnHeld (s : Dev) (n : Nat) : Bool :=
  !(s.sub n).fromReplay && (match s.trn.retrain with | some m => m.getLsbD n | none => s.trn.phase = .train)

/-- A refresh that waited for a replay or a pause is issued (R206). -/
def Dev.lateRefresh (s : Dev) (n : Nat) : Dev :=
  if (s.sub n).refWaits then (s.setSub n { s.sub n with refWaits := false }).refreshSub n else s

/-- tREFI at one subchannel (R205, R206): out of self-refresh it refreshes; in a replay, a tracking pause or a CA retraining
pause it owes the refresh. -/
def Dev.refreshTurn (s : Dev) (n : Nat) : Dev :=
  match (s.sub n).st with
  | .ready => s.refreshSub n
  | .training => s.refreshSub n
  | .replay => s.setSub n { s.sub n with refWaits := true }
  | .paused => if s.trnHeld n then s.refreshSub n else s.setSub n { s.sub n with refWaits := true }
  | _ => s

/-- tREFI expires (R205, R206): the subchannels that are out of self-refresh refresh; one in a replay or a short pause refreshes
when that ends; one in self-refresh takes no part (R240). After each 8,192 refreshes every tracker is cleared (R210). -/
def refreshDue (s : Dev) : Dev :=
  if s.dctl.subs.all (fun c => c.st = .off) then s
  else
    let s := (List.range 8).foldl Dev.refreshTurn s
    let r := s.dctl.refreshes + 1
    let s := { s with dctl := { s.dctl with refreshes := r % 8192, afterRef := true } }
    if r = 8192 then
      ((List.range 8).foldl (fun s n => s.mapBanks n (fun b => { b with rh := [], flagged := [] })) s)
    else s

/-- The poll of MR4 (R207, DCTL_TEMP): for each rank of each subchannel, the refresh-rate field and whether it requests twice
the refresh. -/
def dramTempPoll (rates : List (BitVec 3 × Bool)) (s : Dev) : Dev :=
  if s.dctl.subs.all (fun c => c.st = .off) then s
  else
    let top := rates.foldl (fun m r => max m r.1.toNat) 0
    let idx := rates.findIdx (fun r => r.1.toNat = top)
    let s := s.setRegN Reg.DCTL_TEMP (top + fieldAt 8 4 idx)
    if rates.any (fun r => r.2) then
      let hotIdx := rates.findIdx (fun r => r.2)
      let s := (s.latch Reg.DCTL_ERR 8).logStd LT.DRAM_HOT (hotIdx / 2) top
      let on := s.regF Reg.DCTL_REFRESH 16 1 = 1
      { s with dctl := { s.dctl with hot := s.dctl.hot || on, normalReads := 0 } }
    else
      let n := s.dctl.normalReads + 1
      { s with dctl := { s.dctl with normalReads := min n 2, hot := s.dctl.hot && decide (n < 2) } }

/-! ### Command/address parity and replay (R218 to R221) -/

/-- A replay of a subchannel begins: counted, and its rows close with the PREab (R219). -/
def Dev.startReplay (s : Dev) (n : Nat) (retrained : Bool) : Dev :=
  let s := s.setSub n { s.sub n with st := .replay, alerts := 0, retrained := retrained, fromReplay := false }
  let s := s.countReg Reg.DCTL_REPLAY 0 16 1
  s.setRegF Reg.DCTL_REPLAY 16 3 n

/-- A subchannel fails (R220). -/
def Dev.failSub (s : Dev) (n : Nat) : Dev :=
  let s := (s.setSub n { s.sub n with st := .failed }).mapBanks n (fun b => { b with queue := [], opened := none })
  let s := { s with dctl := { s.dctl with ingress := s.dctl.ingress.filter (fun p => decide (p.1 / 64 ≠ n)) } }
  (s.latch Reg.DCTL_ERR 9).logStd LT.DRAM_SUBCH_FAIL n 0

/-- ALERT_xx_N falls (Table 9-4, R219, R220). During a gather the step in progress is repeated and the state stays (R229). A
subchannel in self-refresh is given no command: Table 9-4 has no row for an alert there, and nothing is replayed. -/
def caParityAlert (sub : Fin 8) (s : Dev) : Dev :=
  let n := sub.val
  let c := s.sub n
  if c.st = .off || c.st = .init || c.st = .failed then s
  else if c.st = .selfRefresh then s.setSub n { c with alertLow := true }
  else
    let s := (s.latch Reg.DCTL_ERR 4).setSub n { c with alertLow := true }
    match c.st with
    | .ready => (s.startReplay n false)
    | .replay =>
      if c.retrained then (s.failSub n)
      else if c.alerts < 2 then (s.setSub n { s.sub n with alerts := c.alerts + 1 })
      else
        let s := (s.setSub n { s.sub n with st := .paused, fromReplay := true, alerts := 0 }).latch Reg.DCTL_ERR 5
        ((s.logStd LT.DRAM_CA_FAIL n 0).latch Reg.DCTL_TRN_ERR 5)
    | _ => ((s.countReg Reg.DCTL_REPLAY 0 16 1).setRegF Reg.DCTL_REPLAY 16 3 n)

/-- One command of the retry buffer is reissued (R219): the ACT of a row that it needs is restored, and a write or a refresh,
repeated, changes no contents. -/
def Dev.reissue (s : Dev) (c : DCmd) : Dev :=
  match c.kind with
  | .act => s.openRow c.q c.row
  | .pre => (s.setBank c.q { s.bank c.q with opened := none }).pushCmds (c.q / 64) [c]
  | .ref => s.pushCmds (c.q / 64) [c]
  | .rfm => s.pushCmds (c.q / 64) [c]
  | _ =>
    let s := s.openRow c.q c.row
    (if c.auto then s.setBank c.q { s.bank c.q with opened := none } else s).pushCmds (c.q / 64) [c]

/-- Step 4 of R219: the commands whose alert window was open when the alert arrived are reissued in order. How many they are
depends on the alert latency, which the spec does not give: a free value, of at most the 64 that are kept. -/
def Dev.reissueAll (s : Dev) (n : Nat) : Dev :=
  let cs := (s.sub n).issued
  (cs.drop (cs.length - Config.freeValue s.freeCtr % (cs.length + 1))).foldl Dev.reissue s.drew

/-- ALERT_xx_N rises (R219): PREab to every rank, then the commands of the retry buffer are reissued. -/
def alertRelease (sub : Fin 8) (s : Dev) : Dev :=
  let s := s.setSub sub.val { s.sub sub.val with alertLow := false }
  if (s.sub sub.val).st = .replay then
    ((s.closeRows sub.val).pushCmds sub.val [rowCmd .pre (64 * sub.val) 0]).reissueAll sub.val
  else s

/-- The transfer rate of a speed code, in MT/s (DCTL_CONFIG.SPEED). -/
def rateOf (speed : Nat) : Nat := [0, 4800, 5600, 6400, 7200, 8000, 8800].getD speed 0

/-- CL or CWL at a speed, in tCK, from its value at MAX_SPEED (DCTL_TIMING2): the smallest bin that is not shorter in ns. The
bins are the even numbers, as the worked example of R243 has them (DEDUCED: assumption 97). -/
def casAt (v maxSpeed speed : Nat) : Nat :=
  let x := ceilDiv (v * rateOf speed) (max 1 (rateOf maxSpeed))
  x + x % 2

/-- CL and CWL are written to the components (R222, R238). -/
def Dev.setCas (s : Dev) (speed : Nat) : Dev :=
  let m := s.regF Reg.DCTL_CONFIG 4 4
  { s with trn := { s.trn with
    cl := casAt (s.regF Reg.DCTL_TIMING2 0 8) m speed, cwl := casAt (s.regF Reg.DCTL_TIMING2 8 8) m speed } }

/-- Set-up ends (R221): its mode registers are set for the speed at which it will train, and the subchannel goes to TRAINING. -/
def dramInitDone (sub : Fin 8) (s : Dev) : Dev :=
  if (s.sub sub.val).st = .init then
    (s.setSub sub.val { s.sub sub.val with st := .training }).setCas (s.regF Reg.DCTL_FREQ_REQ 0 4)
  else s

/-! ### The symbol code (R212, R213) -/

/-- α^i in GF(16), for the primitive polynomial x^4 + x + 1 and α = 0b0010. -/
def gfExp (i : Nat) : Nat := [1, 2, 4, 8, 3, 6, 12, 11, 5, 10, 7, 14, 15, 13, 9].getD (i % 15) 0

/-- The exponent of a non-zero element. -/
def gfLog (a : Nat) : Nat := (List.range 15).find? (fun i => gfExp i = a) |>.getD 0

/-- A product in GF(16). -/
def gfMul (a b : Nat) : Nat := if a = 0 || b = 0 then 0 else gfExp (gfLog a + gfLog b)

/-- A quotient in GF(16), by a non-zero element. -/
def gfDiv (a b : Nat) : Nat := if a = 0 then 0 else gfExp (gfLog a + 15 - gfLog b)

/-- S0 and S1 over the stored symbols 0 to 9 of a beat. -/
def syndromes (beat : Nat) : Nat × Nat :=
  (List.range 10).foldl (fun p i => (p.1 ^^^ bitsOf beat (4 * i) 4, p.2 ^^^ gfMul (gfExp i) (bitsOf beat (4 * i) 4))) (0, 0)

/-- The 40-bit beat of 32 data bits (R212): S0 and S1, with the virtual symbol 10 at 0x0 for data and 0x1 for the poison
mark, are zero. -/
def encodeBeat (poison : Bool) (data : Nat) : Nat :=
  let p := b2n poison
  let (a, b) := syndromes (data % 2 ^ 32)
  let a := a ^^^ p
  let b := b ^^^ gfMul (gfExp 10) p
  let s8 := gfDiv (b ^^^ gfMul (gfExp 9) a) (gfExp 12)
  data % 2 ^ 32 + 2 ^ 32 * s8 + 2 ^ 36 * (a ^^^ s8)

/-- A beat's class (R213). -/
inductive Beat where
  | clean
  | pos (j e : Nat)
  | invalid
  deriving DecidableEq, Repr

/-- Classify a beat. -/
def classify (beat : Nat) : Beat :=
  let (s0, s1) := syndromes beat
  if s0 = 0 && s1 = 0 then .clean
  else if s0 = 0 || s1 = 0 then .invalid
  else
    let j := gfLog (gfDiv s1 s0)
    if j ≤ 10 then .pos j s0 else .invalid

/-- A burst's class (R213), with the line where it decodes. -/
inductive Burst where
  | correct (d : Line)
  | corrected (comp : Nat) (d : Line)
  | poisoned
  | uncorrectable
  deriving DecidableEq, Repr

/-- The line of sixteen beats' data bits, beat b holding bits 32b + 31 to 32b. -/
def lineOfBeats (beats : List Nat) : Line := BitVec.ofNat 512 (beats.foldr (fun b acc => b % 2 ^ 32 + 2 ^ 32 * acc) 0)

/-- Classify a burst of sixteen beats. -/
def decodeBurst (beats : List Nat) : Burst :=
  let cls := beats.map classify
  if cls.all (fun c => decide (c = .clean)) then .correct (lineOfBeats beats)
  else if cls.all (fun c => decide (c = .pos 10 1)) then .poisoned
  else
    match cls.find? (fun c => decide (c ≠ .clean)) with
    | some (.pos j _) =>
      if j ≤ 9 && cls.all (fun c => match c with | .clean => true | .pos k _ => decide (k = j) | .invalid => false) then
        .corrected j (lineOfBeats (beats.map (fun b =>
          match classify b with | .pos _ e => b ^^^ (e * 2 ^ (4 * j)) | _ => b)))
      else .uncorrectable
    | _ => .uncorrectable

/-- The sixteen beats that DRAM holds for a line. -/
def Dev.beatsOf (s : Dev) (a : Nat) : List Nat :=
  let d := (s.readLine a).toNat
  (List.range 16).map (fun b => if s.linePoisoned a then encodeBeat true 0 else encodeBeat false (bitsOf d (32 * b) 32))

/-- A burst of a line as captured, with the bits that the parts and the bus turned over. -/
def Dev.captureBurst (s : Dev) (a : Nat) (err : List (BitVec 40)) : Burst :=
  decodeBurst ((s.beatsOf a).zipIdx.map (fun p => p.1 ^^^ (err.getD p.2 0).toNat))

/-- Record a corrected burst (R214): the component's count, the total, the threshold once, and the suspect. -/
def Dev.countCorrected (s : Dev) (a comp : Nat) : Dev :=
  let d := s.dramOf a
  let reg := Reg.DCTL_CE_COMP + 4 * (10 * d.sc + comp)
  let was := s.regF reg (16 * d.rk) 16
  let s := (s.latch Reg.DCTL_ERR 0).countReg reg (16 * d.rk) 16 1
  let total := s.regN Reg.DCTL_CE_TOTAL_LO + 2 ^ 32 * s.regN Reg.DCTL_CE_TOTAL_HI + 1
  let s := (s.setRegN Reg.DCTL_CE_TOTAL_LO total).setRegN Reg.DCTL_CE_TOTAL_HI (total / 2 ^ 32)
  let thr := max 1 (s.regF Reg.DCTL_CE_THR 0 16)
  if was < thr && thr ≤ s.regF reg (16 * d.rk) 16 then
    ((s.latch Reg.DCTL_ERR 7).logStd LT.DRAM_CE_THRESH (d.sc + 2 ^ 24 * a) comp).setRegF Reg.DCTL_STATUS 25 1 1
  else s

/-- A corrected line is written back through its queue (R215), unless its component has reached the threshold (R214). -/
def Dev.writeBack (s : Dev) (a comp : Nat) (d : Line) : Dev :=
  let da := s.dramOf a
  let cnt := s.regF (Reg.DCTL_CE_COMP + 4 * (10 * da.sc + comp)) (16 * da.rk) 16
  if max 1 (s.regF Reg.DCTL_CE_THR 0 16) ≤ cnt then s else (s.writeLine a d).enqueue a true 16

/-- DRAM loses power: every subchannel is OFF (Table 9-4), and nothing that DRAM held remains (assumption 4). -/
def Dev.dctlOff (s : Dev) : Dev :=
  { s with dctl := DctlSt.reset, dram := [], poisonLines := [] }

/-- READY_RAILS sets: every subchannel takes its reset and set-up (Table 9-4). -/
def Dev.dctlStart (s : Dev) : Dev :=
  { s with dctl := { DctlSt.reset with subs := List.replicate 8 { SubCh.reset with st := .init } } }

end Sys2Proof.Machine
end

