-- ==== Sys2Proof/Machine/Refetch.lean ====
section
/-!
DEFINITION. Clean refetches (R217), and what an uncorrectable read of a captured line or of the reserved region does (R93,
Table 5-8, Table 9-3).
-/
namespace Sys2Proof.Machine

/-- Change DCTL's state. -/
def Dev.modDctl (s : Dev) (f : DctlSt → DctlSt) : Dev := { s with dctl := f s.dctl }

/-! ### Clean refetches (R217) -/

/-- A granule's clean refetch. -/
def Dev.refetch? (s : Dev) (g : Nat) : Option Refetch := s.dctl.refetches.find? (fun r => r.g = g)

/-- Change a granule's clean refetch. -/
def Dev.modRefetch (s : Dev) (g : Nat) (f : Refetch → Refetch) : Dev :=
  s.modDctl (fun d => { d with refetches := d.refetches.map (fun r => if r.g = g then f r else r) })

/-- The refetch has a result; its lines are written by CLEAN_REFETCH_DONE. -/
def Dev.refetchResult (s : Dev) (g : Nat) (good : Bool) : Dev := s.modRefetch g (fun r => { r with result := some good })

/-- Rebuild the copy's unit from its stripe; a peer whose die is gone makes it unrebuildable. -/
def Dev.refetchPeers (s : Dev) (g loc : Nat) (xr : Bool) : Dev :=
  let ps := peersOf (s.unitAt loc xr) loc
  if ps.any (fun c => !s.dieWorks c (locDie loc)) then s.refetchResult g false
  else
    let s := s.modRefetch g (fun r => { r with rebuilding := true, peers := ps.length })
    ps.foldl (fun s c => s.readFor (locOn loc c) xr (.refetchPeer g) 0) s

/-- Verification fails (R217 steps 4 and 5). -/
def Dev.refetchFail (s : Dev) (g : Nat) : Dev :=
  match s.refetch? g with
  | none => s
  | some r =>
    let e := s.entry g
    if r.attempt = 2 || r.rebuilding then s.refetchResult g false
    else (s.modRefetch g (fun r => { r with attempt := 2 })).refetchPeers g (e.loc.getD 0xFFFFFFFF) e.xr

/-- Read the copy (R217 step 2). A granule with no copy is refetched as zeros. -/
def Dev.refetchRead (s : Dev) (g : Nat) : Dev :=
  let e := s.entry g
  match e.loc with
  | none => s.refetchResult g true
  | some loc =>
    if s.dieWorks (locCh loc) (locDie loc) then s.readFor loc e.xr (.refetch g) 0 else s.refetchPeers g loc e.xr

/-- Waiting refetches take the slot pairs that are free: at most 16 run at once. -/
def Dev.refetchNext (s : Dev) : Nat → Dev
  | 0 => s
  | n + 1 =>
    if 16 ≤ s.dctl.refetches.countP (fun r => r.running) then s
    else
      match s.dctl.refetches.find? (fun r => !r.running) with
      | none => s
      | some r =>
        let slot := lowestFree ((s.dctl.refetches.filter (fun r => r.running)).map (fun r => r.slot))
        Dev.refetchNext ((s.modRefetch r.g (fun r => { r with running := true, slot := slot })).refetchRead r.g) n

/-- A clean refetch is asked for a line (R217): counted, recorded, and it runs when a slot pair is free. -/
def Dev.refetchStart (s : Dev) (a : Nat) : Dev :=
  let g := a / 16384
  let line := a / 64 % 256
  let s := (s.latch Reg.DCTL_ERR 2).logStd LT.DRAM_REFETCH ((s.dramOf a).sc + 2 ^ 24 * a) 0
  match s.refetch? g with
  | some _ => s.modRefetch g (fun r => { r with lines := insertN line r.lines })
  | none =>
    let s := (s.countReg Reg.DCTL_ECC_COUNT 16 16 1).modFlsh (fun x => { x with ceReads := satAdd (2 ^ 32 - 1) x.ceReads 1 })
    let r : Refetch := { g := g, lines := [line], running := false, slot := 0, attempt := 1, rebuilding := false, peers := 0, result := none }
    (s.modDctl (fun d => { d with refetches := d.refetches ++ [r] })).refetchNext 16

/-- The copy decoded, or was rebuilt: its metadata is compared, and it waits for a lane. -/
def Dev.refetchDecoded (s : Dev) (g : Nat) : Dev :=
  match s.refetch? g with
  | none => s
  | some _ =>
    let e := s.entry g
    match s.unitAt (e.loc.getD 0xFFFFFFFF) e.xr with
    | none => s.refetchFail g
    | some u => if unitNames u g e then s.cipherPush (.refetch g) false u.epoch else s.refetchFail g

/-- A read of the copy ends. -/
def Dev.refetchReadEnd (s : Dev) (g : Nat) (st : NandStatus) : Dev :=
  match s.refetch? g with
  | none => s
  | some _ =>
    let e := s.entry g
    match st with
    | .ok _ => s.refetchDecoded g
    | .okRetry _ _ => s.refetchDecoded g
    | .dieGone => s.refetchPeers g (e.loc.getD 0xFFFFFFFF) e.xr
    | _ => s.refetchFail g

/-- A read of a peer ends. -/
def Dev.refetchPeerEnd (s : Dev) (g : Nat) (st : NandStatus) : Dev :=
  match s.refetch? g with
  | none => s
  | some r =>
    let good := match st with | .ok _ => true | .okRetry _ _ => true | _ => false
    if !good then s.refetchResult g false
    else if 1 < r.peers then s.modRefetch g (fun r => { r with peers := r.peers - 1 })
    else
      let s := (s.modRefetch g (fun r => { r with peers := 0 })).countReg Reg.FLSH_COUNT_RETRY 16 16 1
      let s := if r.attempt = 2 then s.markBlock ((s.entry g).loc.getD 0) 5 else s
      s.refetchDecoded g


/-- Mark a line poisoned in DRAM, with POISON and its slot (R30, R71). -/
def Dev.poisonMark (s : Dev) (a : Nat) : Dev :=
  let g := a / 16384
  let s := (s.writeLine a 0).markLine a true
  (s.setEntry g { s.entry g with poison := true }).latch Reg.DCTL_ERR 3

/-- A line is poisoned under R30, with the event of its granule (R173). -/
def Dev.poisonLine (s : Dev) (a : Nat) : Dev := (s.poisonMark a).poisonEvent (a / 16384)

/-- What the copy holds for a granule: data and poison lines; zeros where there is no copy. -/
def Dev.copyData (s : Dev) (g : Nat) : List (Nat × Byte) × List Nat :=
  let e := s.entry g
  match e.loc with
  | none => ([], [])
  | some loc =>
    match s.unitAt loc e.xr with
    | some u => match u.payload with | .granule d => (d, u.poison) | _ => ([], [])
    | none => ([], [])

/-- A capture that waits for the clean refetch of its granule leaves its lane (Table 9-3). -/
def Dev.waitRead (s : Dev) (id : Nat) : Dev :=
  (s.cipherDrop (fun w => match w with | .copy i => decide (i = id) | _ => false)).modCopy id
    (fun c => { c with stage := .waitRead })

/-- A capture that waited for the refetch reads its granule again. -/
def Dev.readAgain (s : Dev) (c : Copy) : Dev :=
  let s := s.modCopy c.id (fun c => { c with
    stage := .waitLane, poison := s.granulePoison c.idx, payload := .granule (s.granuleData c.idx) })
  if c.loc.isSome then s.cipherPush (.copy c.id) true 0 else s

/-- Every capture that waited for a granule's refetch reads it again. -/
def Dev.readAgainAll (s : Dev) (g : Nat) : Dev :=
  (s.fery.copies.filter (fun c => c.idx = g && c.stage = .waitRead)).foldl Dev.readAgain s

/-- The refetched lines are written, or poisoned where the rebuild failed (R217 steps 3 and 5); what waited goes on. -/
def cleanRefetchDone (g : Nat) (s : Dev) : Dev :=
  match s.refetch? g with
  | none => s
  | some r =>
    match r.result with
    | none => s
    | some good =>
      let s := s.modDctl (fun d => { d with refetches := d.refetches.filter (fun x => x.g ≠ g) })
      let base := G * g
      let (data, pois) := s.copyData g
      let s := r.lines.foldl (fun s n =>
        (if good then s.putLineOf g data pois n else s.poisonMark (base + 64 * n)).enqueue (base + 64 * n) true Who.refetch) s
      let first := base + 64 * r.lines.headD 0
      let s := if good then s else (s.poisonEvent g).logStd LT.DRAM_REFETCH_FAIL ((s.dramOf first).sc + 2 ^ 24 * first) 0
      (((s.readAgainAll g).refetchNext 16).note .retry).evalAgain

/-! ### Uncorrectable lines of a capture (R93, Table 5-8) -/

/-- The copy's line is carried poisoned. -/
def Copy.poisonLine (c : Copy) (n : Nat) : Copy :=
  { c with
    poison := insertN n c.poison
    payload := match c.payload with
      | .granule d => .granule (d.filter (fun p => decide (p.1 / 64 ≠ n)))
      | p => p }

/-- A line that a copy captures stays uncorrectable after its retries. A fold or a relocation waits for the clean refetch and
then reads its granule again (Table 9-3): it is one capture, debited once (R89). -/
def Dev.copyUe (s : Dev) (id a : Nat) : Dev :=
  match s.copy? id with
  | none => s
  | some c =>
    let n := a / 64 % 256
    match c.cls with
    | .fold => (s.waitRead id).refetchStart a
    | .relocGranule => (s.waitRead id).refetchStart a
    | .xGranule =>
      let s := ((s.modCopy id (fun c => c.poisonLine n)).poisonLine a).latch Reg.XING_ERR 3
      s.modXing (fun x => { x with poisonedLines := x.poisonedLines + 1 })
    | _ =>
      let s := ((s.modCopy id (fun c => c.poisonLine n)).poisonLine a).latch Reg.FERY_ERR 1
      (s.countReg Reg.FERY_ERR_COUNT 16 16 1).logStd LT.FERRY_POISON_READ c.idx n

/-! ### Uncorrectable lines of the reserved region (Table 9-3) -/

/-- LT_DRAM_UE_RESERVED names the line. -/
def Dev.logReserved (s : Dev) (a : Nat) : Dev := s.logStd LT.DRAM_UE_RESERVED ((s.dramOf a).sc + 2 ^ 24 * a) 0

/-- An uncorrectable read at an offset of the reserved region. -/
def Dev.reservedUe (s : Dev) (a off : Nat) : Dev :=
  let line := off / 64
  if off < 0x20000000 then
    let gs := ((List.range 8).map (fun i => 8 * line + i)).filter (fun g => decide (g < s.hostGranules))
    gs.foldl (fun s g => s.fixEntry true g) s
  else if off < 0x20040000 then
    let l := line - 0x20000000 / 64
    (((List.range 8).map (fun i => 8 * l + i)).filter (fun m => decide (m < s.mapGranules))).foldl (fun s m => s.markMap m) (s.logReserved a)
  else if off < 0x20440000 then
    let all := (s.gmap.entries.filter (fun p => p.2.poison)).map (fun p => p.1)
    let l := (List.range (min all.length 1048576)).zip all
    (s.modGmap (fun m => { m with
      poisonList := l, poisonOvf := decide (1048576 < all.length)
      poisonChanged := (slotDiff m.poisonList l).foldl (fun c k => insertN k c) m.poisonChanged })).logReserved a
  else if off < 0x20C40000 then
    let first := 512 * (line - 0x20440000 / 64)
    let gs := ((List.range 512).map (· + first)).filter (fun g =>
      decide (g < s.hostGranules) && !((s.entry g).st = .unrestored || (s.entry g).st = .fetching))
    let keep := s.land.bitmap.filter (fun g => decide (g < first) || decide (first + 512 ≤ g))
    (s.modLand (fun l => { l with bitmap := gs.foldl (fun b g => insertN g b) keep })).logReserved a
  else if 0x34000000 ≤ off && off < 0x38000000 then
    let s := s.logReserved a
    match s.land.table.find? (fun r => r.slot = (off - 0x34000000) / 16384) with
    | some r => if r.rebuilding then s.readPeers r ((s.entry r.g).loc.getD 0xFFFFFFFF) (s.entry r.g).xr else s
    | none => s
  else if 0x38000000 ≤ off && off < 0x38100000 then
    let first := 512 * (line - 0x38000000 / 64)
    let ls := ((List.range 512).map (· + first)).filter (fun l => decide (8 * l < s.hostGranules))
    (s.modFery (fun f => { f with summary := ls.foldl (fun b l => insertN l b) f.summary })).logReserved a
  else if 0x38100000 ≤ off && off < 0x38180000 then
    let s := s.logReserved a
    match s.dctl.refetches.find? (fun r => r.running && decide (r.slot = (off - 0x38100000) / 32768)) with
    | some r =>
      (s.modRefetch r.g (fun r => { r with attempt := 1, rebuilding := false, peers := 0, result := none })).refetchRead r.g
    | none => s
  else s.logReserved a

end Sys2Proof.Machine
end

