-- ==== Sys2Proof/Machine/HostMem.lean ====
section
/-!
DEFINITION. CXL.mem traffic: the HDM decoders (R152), host reads and writes (Table 2-2, R136, R153 to R158), requests that wait,
and DRAM reads that are captured with errors (R213 to R217, Table 9-3).
-/
namespace Sys2Proof.Machine

/-- Change HLNK's state. -/
def Dev.modHlnk (s : Dev) (f : HlnkSt → HlnkSt) : Dev := { s with hlnk := f s.hlnk }

/-! ### Addresses (R151, R152) -/

/-- The sizes of the LDs in GiB, in LD order: the charter's LD_ALLOCATION, or what Set LD Allocations set since. Trained
against a port without MLD the device is an SLD: LD 0 holds the whole host-visible capacity. -/
def Dev.ldSizes (s : Dev) : List Nat :=
  if s.hlnk.trained && s.hlnk.mode.cxl && !s.hlnk.mode.mld then [s.installedGiB - 1]
  else if s.hlnk.allocs ≠ [] then s.hlnk.allocs
  else match s.charter with | some c => c.lds | none => []

/-- The LD has a mailbox. LD 0 has one in RECOVERY without a charter too, where no capacity is allocated (DEDUCED: assumption 17). -/
def Dev.hasLd (s : Dev) (ld : Fin 16) : Bool := ld = 0 || decide (s.ldSizes.getD ld.val 0 ≠ 0)

/-- Size of an LD in bytes. -/
def Dev.ldSize (s : Dev) (ld : Fin 16) : Nat := s.ldSizes.getD ld.val 0 * 2 ^ 30

/-- Base of an LD in bytes: the LDs are packed in order from device address 0. -/
def Dev.ldBase (s : Dev) (ld : Fin 16) : Nat := (s.ldSizes.take ld.val).foldl (· + ·) 0 * 2 ^ 30

/-- A committed decoder claims a host physical address. -/
def Decoder.covers (d : Decoder) (a : Nat) : Bool := d.committed && decide (d.base ≤ a) && decide (a < d.base + d.size)

/-- The bytes of an LD that a decoder's range takes. -/
def Decoder.share (d : Decoder) : Nat := d.size / d.ways

/-- The first DPA of a decoder of an LD, after the ranges and skips of the decoders below it. -/
def Dev.decoderBase (s : Dev) (ld n : Nat) : Nat :=
  (s.hlnk.decoders.filter (fun d => d.ld = ld && d.committed && decide (d.n ≤ n))).foldl
    (fun acc d => acc + d.skip + (if d.n < n then d.share else 0)) 0

/-- The DPA within an LD of a host physical address; none where no decoder of the LD claims it. -/
def Dev.hdmDpa (s : Dev) (ld : Fin 16) (a : Nat) : Option Nat :=
  match s.hlnk.decoders.find? (fun d => d.ld = ld.val && d.covers a) with
  | some d =>
    let off := a - d.base
    some (s.decoderBase ld.val d.n + off / (d.gran * d.ways) * d.gran + off % d.gran)
  | none => none

/-- The LD of a request. -/
def hostLd : HostAddr → Fin 16
  | .dpa ld _ => ld
  | .hpa ld _ => ld

/-- The DPA within its LD that a request reaches, by its decoders where it carries a host physical address. -/
def Dev.hostDpa (s : Dev) : HostAddr → Option Nat
  | .dpa _ a => some a.toNat
  | .hpa ld a => s.hdmDpa ld a.toNat

/-- The device address of a request, or none where its DPA is at or above its LD's size (R158). -/
def Dev.deviceAddr (s : Dev) (addr : HostAddr) : Option Nat :=
  match s.hostDpa addr with
  | some d => if d < s.ldSize (hostLd addr) then some (s.ldBase (hostLd addr) + d) else none
  | none => none

/-! ### Responses -/

/-- Send a DRS (R156, R157): a poisoned one carries zeros and is counted. -/
def Dev.sendDrs (s : Dev) (ld : Fin 16) (tag : BitVec 16) (d : Line) (poison : Bool) : Dev :=
  let s := s.emit (.drs ld tag s.devload (if poison then 0 else d) poison)
  if poison then s.wrapReg Reg.HLNK_POISON_TX 0 32 1 else s

/-- Send the DRS of a request in flight: its credit returns (R154). -/
def Dev.answerRead (s : Dev) (r : MemReq) (d : Line) (poison : Bool) : Dev :=
  (s.sendDrs r.ld r.tag d poison).modHlnk (fun h => { h with reqOut := h.reqOut - 1 })

/-- Record the address of a request that was not performed (HLNK_ERR_ADDR): `source` is the HLNK_ERR bit. -/
def Dev.hostErr (s : Dev) (ld : Fin 16) (dpa source : Nat) : Dev :=
  ((s.latch Reg.HLNK_ERR source).setRegN Reg.HLNK_ERR_ADDR_LO dpa).setRegN Reg.HLNK_ERR_ADDR_HI
    (bitsOf dpa 32 8 + fieldAt 8 4 ld.val + fieldAt 12 2 source)

/-- A DPA out of range (R158). An address that no decoder claims has no DPA: the address recorded is a free value. -/
def Dev.dpaRange (s : Dev) (addr : HostAddr) : Dev :=
  let ld := hostLd addr
  let s := match s.hostDpa addr with
    | some d => s.hostErr ld d 2
    | none => s.drew.hostErr ld (Config.freeValue s.freeCtr % 2 ^ 40) 2
  s.emit (.aerInternal ld)

/-! ### A line in DRAM -/

/-- Write a line; a FAILED subchannel discards the write (R220). -/
def Dev.putLine (s : Dev) (a : Nat) (d : Line) (poison : Bool) : Dev :=
  if s.lineFailed a then s else (s.writeLine a (if poison then 0 else d)).markLine a poison

/-- How a DRAM read ends. -/
inductive ReadEnd where
  | data (d : Line)
  | poison
  | ue
  deriving DecidableEq, Repr

/-- One burst of a read (R213, R214), with the bits that it captured turned over; none where it is uncorrectable. A corrected
line is written back where `wb` (R215). -/
def Dev.readOnce (s : Dev) (a : Nat) (err : List (BitVec 40)) (wb : Bool) : Dev × Option ReadEnd :=
  if s.lineFailed a then (s, none)
  else if err.all (fun e => e = 0) then (s, some (if s.linePoisoned a then .poison else .data (s.readLine a)))
  else
    match s.captureBurst a err with
    | .correct d => (s, some (.data d))
    | .corrected c d =>
      let s := s.countCorrected a c
      (if wb then s.writeBack a c d else s, some (.data d))
    | .poisoned => (s, some .poison)
    | .uncorrectable => (s, none)

/-- A read with up to two retries (R216); the errors of each burst in turn. -/
def Dev.readBursts (s : Dev) (a : Nat) (wb : Bool) : List (List (BitVec 40)) → Dev × ReadEnd
  | [] =>
    let d := s.dramOf a
    (((((s.countReg Reg.DCTL_ECC_COUNT 0 16 1).latch Reg.DCTL_ERR 1).setRegN Reg.DCTL_ERR_ADDR_LO a).setRegN Reg.DCTL_ERR_ADDR_HI
      (bitsOf a 32 8 + fieldAt 8 3 d.sc + fieldAt 11 1 d.rk)), .ue)
  | e :: t =>
    match s.readOnce a e wb with
    | (s, some x) => (s, x)
    | (s, none) => Dev.readBursts s a wb t

/-- The lines of a copy's granule on FAILED subchannels are uncorrectable in its capture (R93, R220). -/
def Dev.lostLines (s : Dev) (id : Nat) : Dev :=
  match s.copy? id with
  | none => s
  | some c => (s.failedLines c.idx).foldl (fun s n =>
      match s.readBursts (G * c.idx + 64 * n) true [[], [], []] with
      | (s, .ue) => s.copyUe id (G * c.idx + 64 * n)
      | (s, _) => s) s

/-- A line of a dirty or PINNED granule stays uncorrectable: poison (Table 9-3). -/
def Dev.uePoison (s : Dev) (a : Nat) : Dev :=
  (s.poisonLine a).logStd LT.DRAM_UE_POISON ((s.dramOf a).sc + 2 ^ 24 * a) 0

/-! ### Performing a request -/

/-- A request writes. -/
def MemReq.isWrite (r : MemReq) : Bool := decide (r.op ≠ .read)

/-- The whole line is written: every write but a partial one with a byte disabled (R153). -/
def MemReq.full (r : MemReq) : Bool := match r.op with | .writePtl be => decide (be = BitVec.allOnes 64) | _ => true

/-- The bytes of a merge (R153). -/
def mergeLine (old new : Line) (be : BitVec 64) : Line :=
  BitVec.ofNat 512 (leVal ((List.range 64).map (fun i =>
    if be.getLsbD i then BitVec.ofNat 8 (bitsOf new.toNat (8 * i) 8) else BitVec.ofNat 8 (bitsOf old.toNat (8 * i) 8))))

/-- A request must wait: for a restore (R136), a clean refetch (R217), or a pinned slot (R44). -/
def Dev.mustWait (s : Dev) (r : MemReq) : Bool :=
  let g := granuleOf r.dpa
  let st := (s.entry g).st
  st = .unrestored || st = .fetching || s.refetching g ||
    (r.isWrite && st = .clean && decide (s.fery.b < s.d + G) && decide (1024 ≤ s.fery.pinned.length))

/-- Table 2-2 for a host write whose line is in DRAM: the state change, AGE (R85) and POISON (R31), then the
acknowledgement, or the write is held (R27, R36). -/
def Dev.writeDone (s : Dev) (r : MemReq) : Dev :=
  let g := granuleOf r.dpa
  let e := s.entry g
  let fits : Bool := decide (s.d + G ≤ s.fery.b)
  let st := match e.st with
    | .clean => if fits then GState.dirty else .pinned
    | .ferrying => .redirty
    | x => x
  let s := (s.setEntry g { e with st := st, age := 0, poison := decide (s.granulePoison g ≠ []) }).cacheDirty g
  let s := s.modFery (fun f => { f with
    drainOnce := f.drainOnce.erase g
    pinned := if st ≠ .pinned then f.pinned
      else if e.st = .pinned then f.pinned.map (fun p => if p.g = g then { p with lastWrite := s.ticks } else p)
      else f.pinned ++ [{ g := g, captured := none, due := false, first := false, since := s.ticks, lastWrite := s.ticks }] })
  let ack : Bool := decide (st ≠ .pinned) && (decide (e.st = .clean) || s.rdy Rdy.PERSIST)
  let s := if ack then s.ackWrite r else s.modHlnk (fun h => { h with held := h.held ++ [{ req := r, g := g, copy := none }] })
  s.restage

/-- Perform a write: whether it is done, or waits for a clean refetch of its line. -/
def Dev.memWrite (s : Dev) (r : MemReq) (errs : List (List (BitVec 40))) : Dev × Bool :=
  let a := r.dpa.toNat
  let g := granuleOf r.dpa
  match r.op, r.full || r.poison with
  | .writePtl be, false =>
    match (s.enqueue a false r.ld.val).readBursts a false errs with
    | (s, .data old) => (((s.putLine a (mergeLine old r.data be) false).enqueue a true r.ld.val).writeDone r, true)
    | (s, .poison) => (s.writeDone r, true)
    | (s, .ue) => if (s.entry g).st = .clean then (s.refetchStart a, false) else ((s.uePoison a).writeDone r, true)
  | _, _ => (((s.putLine a r.data r.poison).enqueue a true r.ld.val).writeDone r, true)

/-- Perform a read (R29, R156). -/
def Dev.memRead (s : Dev) (r : MemReq) (errs : List (List (BitVec 40))) : Dev × Bool :=
  let a := r.dpa.toNat
  match (s.enqueue a false r.ld.val).readBursts a true errs with
  | (s, .data d) => (s.answerRead r d false, true)
  | (s, .poison) => (s.answerRead r 0 true, true)
  | (s, .ue) =>
    if (s.entry (granuleOf r.dpa)).st = .clean then (s.refetchStart a, false) else ((s.uePoison a).answerRead r 0 true, true)

/-- In SERVICE with READY_RESTORED set, host reads do not consult the map (R70). -/
def Dev.mapBypass (s : Dev) (r : MemReq) : Bool := !r.isWrite && s.core.mode = .service && s.rdy Rdy.RESTORED

/-- A request whose turn it is: whether it is done, or waits further. -/
def Dev.memTry (s : Dev) (r : MemReq) (errs : List (List (BitVec 40))) (first damaged : Bool) : Dev × Bool :=
  let g := granuleOf r.dpa
  if !first && s.mustWait r then (s.demandFetch g, false)
  else
    match (if s.mapBypass r then some s else s.cacheAccess g) with
    | none => (s, false)
    | some s =>
      let s := if s.mapBypass r then s else s.fixEntry damaged g
      if s.mustWait r then (s.demandFetch g, false)
      else if r.isWrite then s.memWrite r errs else s.memRead r errs

/-- Bursts without an error. -/
abbrev noErrs : List (List (BitVec 40)) := [[], [], []]

/-- A request arrives, in order after those that wait for its granule (R136, R155). -/
def Dev.memArrive (s : Dev) (r : MemReq) (errs : List (List (BitVec 40))) (damaged : Bool) : Dev :=
  let r := { r with seq := s.hlnk.seq }
  let s := s.modHlnk (fun h => { h with seq := h.seq + 1 })
  if s.hlnk.wait.any (fun w => granuleOf w.dpa = granuleOf r.dpa) then s.modHlnk (fun h => { h with wait := h.wait ++ [r] })
  else
    match s.memTry r errs true damaged with
    | (s, true) => s
    | (s, false) => s.modHlnk (fun h => { h with wait := h.wait ++ [r] })

/-- Requests that waited proceed in arrival order, where they can (R44, R68, R136, R217). -/
def Dev.memRetry : List MemReq → List Nat → Dev → Dev
  | [], _, s => s
  | r :: t, blocked, s =>
    let g := granuleOf r.dpa
    if blocked.contains g then Dev.memRetry t blocked s
    else
      match s.memTry r noErrs false false with
      | (s, true) => Dev.memRetry t blocked (s.modHlnk (fun h => { h with wait := h.wait.filter (fun w => w.seq ≠ r.seq) }))
      | (s, false) => Dev.memRetry t (g :: blocked) s

/-! ### Requests on the link (R153, R154, R158) -/

/-- The link carries CXL.mem. -/
def Dev.memLink (s : Dev) : Bool := s.hlnk.link = .mem || s.hlnk.link = .io

/-- An M2S Req can arrive: in MEM on a credit (R154); in IO every read is answered, with poison (R158). -/
def Dev.reqCredit (s : Dev) : Bool := (s.hlnk.link = .mem && decide (0 < s.hlnk.reqGranted)) || s.hlnk.link = .io

/-- An M2S RwD can arrive: on a credit, in MEM, and in IO on one granted before READY_HOSTMEM cleared (R154, R158, R159). -/
def Dev.rwdCredit (s : Dev) : Bool := s.memLink && decide (0 < s.hlnk.rwdGranted)

/-- The pools of R154 (HLNK_CREDITS): open only in MEM, and the RwD pool 0 from the acceptance of MAINT_ENTER (R158). -/
def Dev.reqPool (s : Dev) : Nat := if s.hlnk.link = .mem then 6144 else 0
def Dev.rwdPoolNow (s : Dev) : Nat := if s.hlnk.link = .mem && s.core.trans ≠ some .maintDrain then s.rwdPool 2048 else 0

/-- Credits return to the host (R154): while fewer requests are outstanding than a pool holds, the host is given credits up to the
pool; none while more are outstanding, and a credit once granted is never revoked. DEDUCED: assumption 112. -/
def Dev.creditEval (s : Dev) : Dev :=
  s.modHlnk (fun h => { h with
    reqGranted := max h.reqGranted (s.reqPool - h.reqOut), rwdGranted := max h.rwdGranted (s.rwdPoolNow - h.rwdOut) })

/-- An RwD takes its credit; a poisoned one is counted (R156). -/
def Dev.rwdIn (s : Dev) (poison : Bool) : Dev :=
  let s := s.modHlnk (fun h => { h with rwdGranted := h.rwdGranted - 1, rwdOut := h.rwdOut + 1 })
  if poison then (s.latch Reg.HLNK_ERR 6).wrapReg Reg.HLNK_POISON_RX 0 32 1 else s

/-- An M2S RwD arrives. -/
def hostWrite (op : MemOp) (addr : HostAddr) (data : Line) (poison damaged : Bool) (tag : BitVec 16)
    (errs : List (List (BitVec 40))) (s : Dev) : Dev :=
  if !s.rwdCredit then s
  else
    let s := s.rwdIn poison
    let r (a : Nat) : MemReq :=
      { op := op, ld := hostLd addr, tag := tag, dpa := BitVec.ofNat 40 (a / 64 * 64), data := data, poison := poison, seq := 0 }
    match s.deviceAddr addr with
    | none => (s.dpaRange addr).ackWrite (r 0)
    | some a => s.memArrive (r a) errs damaged

/-- An M2S Req that reads arrives. With READY_HOSTMEM clear it is answered with poison (R158). -/
def hostRead (addr : HostAddr) (damaged : Bool) (tag : BitVec 16) (errs : List (List (BitVec 40))) (s : Dev) : Dev :=
  if !s.reqCredit then s
  else
    let ld := hostLd addr
    match s.deviceAddr addr with
    | none => (s.dpaRange addr).sendDrs ld tag 0 true
    | some a =>
      if s.hlnk.link = .io then (s.hostErr ld ((s.hostDpa addr).getD 0) 3).sendDrs ld tag 0 true
      else
        (s.modHlnk (fun h => { h with reqGranted := h.reqGranted - 1, reqOut := h.reqOut + 1 })).memArrive
          { op := .read, ld := ld, tag := tag, dpa := BitVec.ofNat 40 (a / 64 * 64), data := 0, poison := false, seq := 0 } errs damaged

/-- MemSpecRd (R153): a hint that is dropped without a response, or that reads the line early. -/
def hostSpecRead (addr : HostAddr) (taken : Bool) (s : Dev) : Dev :=
  match s.deviceAddr addr with
  | some a => if taken && s.hlnk.link = .mem && s.reqCredit then s.enqueue a false (hostLd addr).val else s
  | none => s

/-- MemInv and MemInvNT complete with Cmp and change nothing (R153). -/
def hostInvalidate (addr : HostAddr) (tag : BitVec 16) (s : Dev) : Dev :=
  if !s.reqCredit then s
  else
    let s := if (s.deviceAddr addr).isNone then s.dpaRange addr else s
    s.emit (.ndr (hostLd addr) tag s.devload)

/-- A write of a mailbox poison command (R171): it came on no request of the link. -/
def MemReq.ofMailbox (r : MemReq) : Bool := r.op = .inject || r.op = .clear

/-- Requests in flight at link down and at PERST_ON (R160): those whose DRAM write has not begun are discarded; writes in DRAM
keep their place in the held sets and are not acknowledged. The writes of the mailbox's poison commands go on (R171). Every credit
is gone. -/
def Dev.resolveInFlight (s : Dev) : Dev :=
  s.modHlnk (fun h => { h with
    wait := h.wait.filter MemReq.ofMailbox, reqOut := 0, rwdOut := 0, reqGranted := 0, rwdGranted := 0, gpf := []
    held := h.held.map (fun (x : HeldWrite) => if x.req.ofMailbox then x else { x with req := { x.req with op := .silent } }) })

/-! ### DRAM reads with errors (R213 to R216, Table 9-3) -/

/-- The address of a line of the host's memory, as its LD and DPA within it. -/
def Dev.addrOf (s : Dev) (ld : Fin 16) (a : Dpa) : HostAddr := .dpa ld (BitVec.ofNat 40 (a.toNat - s.ldBase ld))

/-- A copy captures a line of its granule. -/
def Dev.capturesLine (s : Dev) (id a : Nat) : Bool :=
  match s.copy? id with
  | some c => decide (c.idx = a / 16384) && decide (c.stage ≠ .sealed) && (match c.payload with | .granule _ => true | _ => false)
  | none => false

/-- A DRAM read is captured and decoded, `e0` to `e2` being the bits turned over in its burst and in its two retries. -/
def dramReadCapture (addr : Dpa) (who : CapFor) (e0 e1 e2 : List (BitVec 40)) (s : Dev) : Dev :=
  let a := addr.toNat / 64 * 64
  let errs := [e0, e1, e2]
  match who with
  | .host ld tag => hostRead (s.addrOf ld addr) false tag errs s
  | .merge ld tag data be => hostWrite (.writePtl be) (s.addrOf ld addr) data false false tag errs s
  | .copy id =>
    if !s.capturesLine id a then s
    else
      match s.readBursts a true errs with
      | (s, .ue) => s.copyUe id a
      | (s, _) => s
  | .staging id =>
    match s.readBursts a true errs with
    | (s, .ue) => match s.copy? id with | some c => if c.cls.isX then s.crossFailed c else s.ferryFailed c | none => s
    | (s, _) => s
  | .reserved =>
    if a < G * s.hostGranules || s.installed ≤ a then s
    else
      match s.readBursts a true errs with
      | (s, .ue) => s.reservedUe a (a - G * s.hostGranules)
      | (s, _) => s

end Sys2Proof.Machine
end

