-- ==== Sys2Proof/Machine/Upd.lean ====
section
/-!
DEFINITION. The update manager (chapter 19): images, deltas, staging and sessions, the commit, one-by-one components,
activation, trial and rollback, and salvage.
-/
namespace Sys2Proof.Machine

/-- Change the update manager's state. -/
def Dev.modUpd (s : Dev) (f : UpdSt → UpdSt) : Dev := { s with upd := f s.upd }

/-! ### Images (R426 to R428) -/

/-- Fields of an update header (Table 19-1). -/
def uhBody (h : Bytes) : Nat := leAt h 16 4
def uhPiece (h : Bytes) : Nat := leAt h 20 4
def uhPieces (h : Bytes) : Nat := leAt h 24 4
def uhImage (h : Bytes) : Nat := leAt h 8 8

/-- The sectors of a piece slot: k of R426. -/
def uhK (h : Bytes) : Nat := (uhPiece h + 16) / 4096

/-- R426: the header check of KX_UPD_OPEN and KX_SALVAGE_OPEN. -/
def updHeaderOk (h : Bytes) (salvage : Bool) : Bool :=
  h.length = 64 && leAt h 0 4 = 0x4450554B && leAt h 4 1 = 1 && leAt h 5 1 = b2n salvage && leAt h 6 2 = 64 &&
    decide (48 ≤ uhBody h) && (uhPiece h + 16) % 4096 = 0 && decide (1 ≤ uhK h) && decide (uhK h ≤ 16) &&
    uhPieces h = ceilDiv (uhBody h) (uhPiece h) && decide (uhPieces h ≤ 5616 / uhK h) && leAt h 36 24 = 0 &&
    leAt h 60 4 = crc32c (subBytes h 0 60)

/-- The length of a piece. -/
def pieceLen (h : Bytes) (n : Nat) : Nat := min (uhPiece h) (uhBody h - n * uhPiece h)

/-- The components of a manifest (Table 19-2). -/
def components (p0 : Bytes) : List Component :=
  (List.range (leAt p0 5 1)).map (fun i =>
    let a := 16 + 32 * i
    { kind := leAt p0 a 1, full := leAt p0 (a + 1) 1 % 2 = 1, sver := leAt p0 (a + 2) 1, baseLen := leAt p0 (a + 4) 4,
      baseCrc := leAt p0 (a + 8) 4, deltaOff := leAt p0 (a + 12) 4, deltaLen := leAt p0 (a + 16) 4,
      targetLen := leAt p0 (a + 20) 4, targetCrc := leAt p0 (a + 24) 4 })

/-- A kind that is taken one by one (R436). -/
def Component.oneByOne (c : Component) : Bool := decide (0x10 ≤ c.kind)

/-- R427: the rules of a manifest, on piece 0. -/
def manifestOk (h p0 : Bytes) (salvage : Bool) : Bool :=
  let cs := components p0
  let n := leAt p0 5 1
  let tab := leAt p0 8 4
  leAt p0 0 4 = 0x544E464D && leAt p0 4 1 = 1 && decide (1 ≤ n) && decide (n ≤ 4) && leAt p0 6 2 = 0 && leAt p0 12 4 = 0 &&
    decide (16 + 32 * n ≤ tab) && decide (tab + 4 * uhPieces h ≤ p0.length) && leAt p0 tab 4 = 0 &&
    (List.range n).all (fun i => decide (leAt p0 (17 + 32 * i) 1 ≤ 1) && leAt p0 (19 + 32 * i) 1 = 0 && leAt p0 (44 + 32 * i) 4 = 0) &&
    cs.all (fun c => [0x01, 0x02, 0x10, 0x11].contains c.kind && (decide (0x10 ≤ c.kind) || c.sver = 0) &&
      decide (c.deltaOff + c.deltaLen ≤ uhBody h)) &&
    decide ((cs.map (·.kind)).Nodup) && (!cs.any Component.oneByOne || cs.length = 1) &&
    (!salvage || (cs.all (·.full) && cs.any (fun c => c.kind = 1)))

/-- The output of a delta over its base (R428); none where it fails. -/
def runDelta (base : Bytes) (full : Bool) : Nat → Bytes → Option Bytes
  | 0, _ => none
  | k + 1, d =>
    match d with
    | [] => none
    | op :: rest =>
      let len := leAt rest 0 4
      let lenOk : Bool := decide (1 ≤ len) && decide (len ≤ 2 ^ 24)
      match op.toNat with
      | 0 => if rest = [] then some [] else none
      | 1 =>
        let src := leAt rest 4 4
        if decide (rest.length < 8) || !lenOk || full || decide (base.length < src + len) then none
        else (runDelta base full k (rest.drop 8)).map (fun t => (base.drop src).take len ++ t)
      | 2 =>
        if decide (rest.length < 4 + len) || !lenOk then none
        else (runDelta base full k (rest.drop (4 + len))).map (fun t => (rest.drop 4).take len ++ t)
      | 3 =>
        if decide (rest.length < 5) || !lenOk then none
        else (runDelta base full k (rest.drop 5)).map (fun t => List.replicate len (rest.getD 4 0) ++ t)
      | _ => none

/-- A component's target, where its delta does not fail (R428). -/
def targetOf (c : Component) (base body : Bytes) : Option Bytes :=
  match runDelta base c.full (c.deltaLen + 1) ((body.drop c.deltaOff).take c.deltaLen) with
  | some t => if t.length = c.targetLen && crc32c t = c.targetCrc then some t else none
  | none => none

/-! ### Firmware slots (R429) -/

/-- The base of a firmware slot (Table 12-2). -/
def fwBase (slot : Bool) : Nat := if slot then 0xA10000 else 0x210000

/-- The verification of a firmware slot's bytes (R429). -/
def fwOk (b : Bytes) : Bool :=
  let len := leAt b 12 4
  let iram := leAt b 16 4
  let entry := leAt b 20 4
  leAt b 0 4 = 0x5746584B && leAt b 6 2 = 64 && leAt b 60 4 = crc32c (subBytes b 0 60) && decide (128 ≤ len) &&
    decide (len ≤ 8388608) && decide (64 ≤ iram) && decide (iram ≤ 1048576) && decide (iram + 64 ≤ len) && entry % 2 = 0 &&
    decide (0x10000000 ≤ entry) && decide (entry + 2 ≤ 0x10000000 + iram) && decide (len ≤ b.length) &&
    leAt b 56 4 = crc32c ((b.take len).drop 64)

/-- The header of a firmware slot passes its own check (R429). -/
def fwHeadOk (h : Bytes) : Bool := leAt h 0 4 = 0x5746584B && leAt h 60 4 = crc32c (subBytes h 0 60)

/-- The bytes of a firmware slot that its header's LENGTH covers; the header alone where its check fails. -/
def Dev.fwBytes (s : Dev) (slot : Bool) : Bytes :=
  let h := s.norBytes (fwBase slot) 64
  if fwHeadOk h then s.norBytes (fwBase slot) (min 8388608 (max 64 (leAt h 12 4))) else h

/-- A firmware slot passes R429. -/
def Dev.fwSlotOk (s : Dev) (slot : Bool) : Bool := fwOk (s.fwBytes slot)

/-- Firmware accepts the section versions and the charter version (R434 step 3). -/
def fwAccepts (fw : Bytes) (tt np ver : Nat) : Bool :=
  decide (leAt fw 24 1 ≤ tt) && decide (tt ≤ leAt fw 25 1) && decide (leAt fw 26 1 ≤ np) && decide (np ≤ leAt fw 27 1) &&
    decide (ver ≤ leAt fw 28 1)

/-! ### Staging (R430) -/

/-- The base of the staging region and its size. -/
abbrev stagBase : Nat := 0x1210000
abbrev stagSize : Nat := 0x1600000

/-- A write of the update manager to staging or of a mark, where the store is READY. -/
def Dev.stagWrite (s : Dev) (off : Nat) (bs : Bytes) : Dev :=
  if s.chtr.st = 2 then { s with nor := Memory.writeBytes norByte s.nor (stagBase + off) bs } else s.latch Reg.UPD_ERR 5

/-- An erase in staging. -/
def Dev.stagErase (s : Dev) (off n : Nat) : Dev :=
  if s.chtr.st = 2 then { s with nor := Memory.clear s.nor (stagBase + off) n } else s

/-- A mark: a word, then its complement (Table 19-5). -/
def Dev.putMark (s : Dev) (off v : Nat) : Dev :=
  s.stagWrite off (leBytes 4 v ++ leBytes 4 (0xFFFFFFFF - v % 2 ^ 32))

/-- A mark's word, where it is set. -/
def Dev.mark (s : Dev) (off : Nat) : Option Nat :=
  let v := leVal (s.norBytes (stagBase + off) 4)
  if leVal (s.norBytes (stagBase + off + 4) 4) = 0xFFFFFFFF - v then some v else none

/-- The offset of a piece slot. -/
def slotOff (h : Bytes) (n : Nat) : Nat := 0x10000 + 4096 * uhK h * n

/-- A piece as its slot holds it. -/
def Dev.pieceBytes (s : Dev) (n : Nat) : Bytes :=
  s.norBytes (stagBase + slotOff s.upd.header n) (pieceLen s.upd.header n)

/-- A word of the piece table. -/
def Dev.tableWord (s : Dev) (n : Nat) : Nat := let p0 := s.pieceBytes 0; leAt p0 (leAt p0 8 4 + 4 * n) 4

/-- R430: a slot holds its piece; `known`: piece 0 is held. -/
def Dev.slotHolds (s : Dev) (session : Nat) (known : Bool) (n : Nat) : Bool :=
  let t := s.norBytes (stagBase + slotOff s.upd.header n + uhPiece s.upd.header) 16
  let crc := crc32c (s.pieceBytes n)
  leAt t 0 4 = session && leAt t 4 4 = n && leAt t 8 4 = crc &&
    (if n = 0 then crc = leAt s.upd.header 28 4 else !known || crc = s.tableWord n)

/-- The body, from the held pieces. -/
def Dev.updBody (s : Dev) : Bytes := (List.range (uhPieces s.upd.header)).flatMap s.pieceBytes

/-- The manifest holds a one-by-one component (UPD_STATUS). -/
def Dev.updOneByOne (s : Dev) : Bool :=
  s.upd.held.contains 0 && (components (s.pieceBytes 0)).any Component.oneByOne

/-- An update record (R441). -/
def Dev.updLog (s : Dev) (ty image detail : Nat) : Dev := s.logStd ty image (detail % 2 ^ 32)

/-- The header's image. -/
def Dev.updImage (s : Dev) : Nat := uhImage s.upd.header

/-- The session is gone: staging is erased, and the manager is FREE. -/
def Dev.updFree (s : Dev) : Dev :=
  (s.stagErase 0 stagSize).modUpd (fun u => { u with
    st := 0, salvage := false, owner := 0, session := 0, header := [], held := [], bufs := [], plan := [], step := 0 })

/-- Activity of a session (R432). -/
def Dev.updTouch (s : Dev) : Dev := s.modUpd (fun u => { u with lastS := s.opSeconds })

/-- OWNER of Table 19-5. -/
def ownerOf : Port → Nat
  | .host _ => 0 | .chassis => 1 | .yard => 2

/-! ### Commands of a session (R431, R432) -/

/-- The RSEQ that a record queued now takes, if nothing else is written before what waits. -/
def Dev.nextRecord (s : Dev) : Nat :=
  (s.log.nextRseq + (s.log.queue.filter (fun e => !e.issued)).length) % 2 ^ 32

/-- Open a session. -/
def Dev.updStart (s : Dev) (h : Bytes) (owner : Nat) (salvage : Bool) : Dev :=
  let session := s.nextRecord
  let s := (s.stagErase 0 0x10000).modUpd (fun u => { u with
    st := 1, salvage := salvage, owner := owner, session := session, header := h, held := [], bufs := [], lastS := s.opSeconds,
    percent := 0, kind := 0, plan := [], step := 0 })
  let body := leBytes 4 0x47535453 ++ leBytes 1 1 ++ leBytes 1 owner ++ [0, 0] ++ leBytes 4 session ++ leBytes 4 s.opSeconds ++
    h ++ List.replicate 12 0
  let s := s.stagWrite 0 (body ++ leBytes 4 (crc32c body))
  let s := if salvage then s.setReady Rdy.SALVAGE else s
  s.updLog LT.UPD_OPEN (uhImage h) session

/-- The output of an open. -/
def Dev.openOut (s : Dev) (resumed : Bool) : Bytes :=
  leBytes 4 s.upd.session ++ leBytes 4 (uhPieces s.upd.header) ++ leBytes 4 (b2n resumed)

/-- A refused header (Table 19-9). The piece number of such a record is not given. -/
def Dev.headerBad (s : Dev) (h : Bytes) : Dev :=
  ((s.latch Reg.UPD_ERR 0).updLog LT.UPD_PIECE_BAD (uhImage h) (Config.freeValue s.freeCtr)).drew

/-- KX_UPD_OPEN and KX_SALVAGE_OPEN (R426, R432, Table 19-6). -/
def Dev.updOpen (s : Dev) (p : Port) (h : Bytes) (salvage : Bool) : Dev × St × Bytes :=
  let owner := if salvage then 3 else ownerOf p
  if !updHeaderOk h salvage then (s.headerBad h, .imageBad, [])
  else if s.upd.st = 0 then
    let s := s.updStart h owner salvage
    (s, .ok, s.openOut false)
  else if s.upd.st = 1 && s.upd.owner = owner && s.upd.header = h then
    let s := s.updTouch.updLog LT.UPD_RESUME (uhImage h) s.upd.held.length
    (s, .ok, s.openOut true)
  else if salvage && s.upd.st = 1 then
    let s := (s.updLog LT.UPD_ABANDON s.updImage 4).updFree
    let s := s.updStart h owner salvage
    (s, .ok, s.openOut false)
  else ((s.latch Reg.UPD_ERR 1).updLog LT.UPD_SLOT_BUSY s.updImage (ownerOf p), .slotBusy, [])

/-- The session that a command names is this one, and its owner sends it (R432). -/
def Dev.updMine (s : Dev) (p : Port) (session : Nat) (salvage : Bool) : Bool :=
  s.upd.st ≠ 0 && s.upd.session = session && s.upd.salvage = salvage && (salvage || s.upd.owner = ownerOf p)

/-- RECEIVED: pieces held or buffered. -/
def Dev.updReceived (s : Dev) : Nat := s.upd.held.length + s.upd.bufs.length

/-- A piece that is refused as damaged (R431). -/
def Dev.pieceBad (s : Dev) (n : Nat) : Dev := (s.latch Reg.UPD_ERR 0).updLog LT.UPD_PIECE_BAD s.updImage n

/-- KX_UPD_PIECE and KX_SALVAGE_PIECE (R431). -/
def Dev.updPiece (s : Dev) (p : Port) (session n : Nat) (data : Bytes) (salvage : Bool) : Dev × St × Bytes :=
  let h := s.upd.header
  if !s.updMine p session salvage then (s, .noSession, [])
  else
    let s := s.updTouch
    if s.upd.st ≠ 1 then (s, .busy, [])
    else if uhPieces h ≤ n || data.length ≠ pieceLen h n then (s, .badParam, [])
    else
      let crc := crc32c data
      let wrong : Bool :=
        if n = 0 then decide (crc ≠ leAt h 28 4) || !manifestOk h data salvage
        else s.upd.held.contains 0 && decide (crc ≠ s.tableWord n)
      if wrong then (s.pieceBad n, .imageBad, [])
      else if s.upd.held.contains n || s.upd.bufs.any (fun b => b.1 = n) then (s, .ok, leBytes 4 s.updReceived)
      else if 2 ≤ s.upd.bufs.length then (s, .busy, [])
      else
        let slot := data ++ List.replicate (uhPiece h - data.length) 0xFF ++ leBytes 4 session ++ leBytes 4 n ++ leBytes 4 crc ++
          leBytes 4 s.opSeconds
        let s := s.modUpd (fun u => { u with bufs := u.bufs ++ [(n, slot)] })
        (s, .ok, leBytes 4 s.updReceived)

/-- Pieces that turn out not to match the piece table are erased (R431). -/
def Dev.recheck (s : Dev) : Dev :=
  s.upd.held.foldl (fun s n =>
    if s.slotHolds s.upd.session true n then s
    else (s.stagErase (slotOff s.upd.header n) (4096 * uhK s.upd.header)).modUpd (fun u => { u with held := u.held.erase n })) s

/-- The oldest buffered piece has been written to its slot and read back; `bad`: the program failed (R431, Table 19-9). A piece that
the piece table turns out to contradict is not held (R430). In SAVE staging writes wait (Table 19-10). -/
def updPieceWritten (bad : Bool) (s : Dev) : Dev :=
  match s.upd.bufs with
  | [] => s
  | (n, slot) :: rest =>
    if s.core.mode = .save || s.upd.st ≠ 1 then s
    else
      let s := (s.modUpd (fun u => { u with bufs := rest })).stagErase (slotOff s.upd.header n) (4096 * uhK s.upd.header)
      if bad || s.chtr.st ≠ 2 then (s.latch Reg.UPD_ERR 5)
      else
        let s := s.stagWrite (slotOff s.upd.header n) slot
        if s.slotHolds s.upd.session (s.upd.held.contains 0) n then
          let s := s.modUpd (fun u => { u with held := insertN n u.held })
          (if n = 0 then s.recheck else s)
        else s.stagErase (slotOff s.upd.header n) (4096 * uhK s.upd.header)

/-- KX_UPD_BITMAP. -/
def Dev.updBitmap (s : Dev) (p : Port) (session first count : Nat) : Dev × St × Bytes :=
  if !s.updMine p session false then (s, .noSession, [])
  else if count < 1 || 524160 < count then (s.updTouch, .badParam, [])
  else
    (s.updTouch, .ok, (List.range (ceilDiv count 8)).map (fun b =>
      BitVec.ofNat 8 ((List.range 8).foldl (fun v i =>
        if 8 * b + i < count && s.upd.held.contains (first + 8 * b + i) then v + 2 ^ i else v) 0)))

/-- KX_UPD_ABANDON (R432). -/
def Dev.updAbandon (s : Dev) (p : Port) (session : Nat) : Dev × St :=
  let mine := s.updMine p session false
  let yard : Bool := p = .yard && s.upd.st = 1 && s.upd.session = session
  if !mine && !yard then (s, .noSession)
  else if s.upd.st ≠ 1 then (s, .busy)
  else ((s.updLog LT.UPD_ABANDON s.updImage (if mine then 1 else 2)).updFree, .ok)

/-- The session is idle for UPD_IDLE.HOURS (R432). -/
def updIdleExpiry (s : Dev) : Dev :=
  if s.upd.st = 1 then ((s.latch Reg.UPD_ERR 4).updLog LT.UPD_ABANDON s.updImage 3).updFree else s

/-! ### The start-up scan (R431, R433) -/

/-- The running charter has this SEQ. -/
def Dev.runsSeq (s : Dev) (n : Nat) : Bool := match s.charter with | some c => decide (c.seq = n) | none => false

/-- Read the session sector and every trailer. -/
def Dev.updScan (s : Dev) : Dev :=
  if s.chtr.st ≠ 2 then s
  else if s.upd.st = 5 then s.updFree
  else
    let b := s.norBytes stagBase 96
    let s := s.modUpd (fun u => { u with
      st := 0, salvage := false, owner := 0, session := 0, header := [], held := [], bufs := [], plan := [], step := 0 })
    if leAt b 0 4 ≠ 0x47535453 || leAt b 4 1 ≠ 1 || leAt b 92 4 ≠ crc32c (b.take 92) then s
    else
      let session := leAt b 8 4
      let s := s.modUpd (fun u => { u with
        st := 1, salvage := leAt b 5 1 = 3, owner := leAt b 5 1, session := session, header := subBytes b 16 64 })
      let n := uhPieces s.upd.header
      let known := decide (0 < n) && s.slotHolds session false 0
      let held := (List.range n).filter (fun i => s.slotHolds session known i)
      let acts := held.map (fun i => leVal (s.norBytes (stagBase + slotOff s.upd.header i + uhPiece s.upd.header + 12) 4))
      let s := s.modUpd (fun u => { u with held := held, lastS := acts.foldl max (leAt b 12 4) })
      match s.mark 512 with
      | none => s
      | some seq =>
        if (s.mark 1024).isSome then s.updFree
        else if s.runsSeq seq then
          match s.mark 768 with
          | some t => s.modUpd (fun u => { u with st := 4, newSeq := seq, trialS := t })
          | none => s.modUpd (fun u => { u with st := 3, newSeq := seq })
        else (s.updLog LT.UPD_ROLLBACK s.updImage 3).updFree

/-! ### Commit (R434, R435) -/

/-- The running charter's sections. -/
def Dev.runSections (s : Dev) : List Section :=
  match s.charter with
  | some c =>
    match chHeader c.raw with
    | some h => (chSections h.sections ((c.raw.take h.length).drop h.hdrLen)).getD []
    | none => []
  | none => []

/-- A section of a type. -/
def secGet (l : List Section) (ty : Nat) : Option Section := l.find? (fun x => x.ty = ty)

/-- What is installed, as the base of a component (Table 19-3). -/
def Dev.baseOf (s : Dev) (kind : Nat) : Bytes :=
  match kind with
  | 0x01 => s.fwBytes s.core.fwSlot
  | 0x02 => match s.charter with | some c => c.raw | none => []
  | 0x10 => (secOf 3 s.runSections).getD []
  | _ => (secOf 2 s.runSections).getD []

/-- A component's target, with its length held to Table 19-3. -/
def Dev.updTarget (s : Dev) (c : Component) : Option Bytes :=
  match targetOf c (if c.full then [] else s.baseOf c.kind) s.updBody with
  | some t =>
    if c.kind = 1 && decide (8388608 < t.length) then none
    else if c.kind = 2 && (decide (524288 < t.length) || (match chHeader t with | some h => h.ver ≠ 4 | none => true)) then none
    else some t
  | none => none

/-- The sections of a charter's bytes. -/
def sectionsOf (b : Bytes) : Option (List Section) :=
  match chHeader b with
  | some h => chSections h.sections ((b.take h.length).drop h.hdrLen)
  | none => none

/-- R436: the compatibility matrix of Table 19-7 for a new section payload against the running one. -/
def Dev.matrixOk (s : Dev) (kind : Nat) (new : Bytes) : Bool :=
  let old := s.baseOf kind
  if kind = 0x10 then leAt new 4 1 = leAt old 4 1
  else
    match profileOf new, profileOf old with
    | some n, some o =>
      n.toggle = o.toggle && n.diesPerCh = o.diesPerCh && n.planes = o.planes && n.blocks = o.blocks && n.tlcPages = o.tlcPages &&
        n.pageBytes = o.pageBytes && n.spare = o.spare && decide (o.peTlc ≤ n.peTlc) && decide (o.peSlc ≤ n.peSlc) &&
        (n.idMatch = o.idMatch || Config.freeValue s.freeCtr % 2 = 1)
    | _, _ => false

/-- Replace a section. -/
def replaceSec (l : List Section) (x : Section) : List Section := l.map (fun y => if y.ty = x.ty then x else y)

/-- The slots that pass full verification, with their charters. -/
def Dev.validCharters (s : Dev) : List (Bool × Charter) :=
  [false, true].filterMap (fun b => (s.slotCharter b).map (fun c => (b, c.2)))

/-- The valid charter with the higher SEQ; slot A if both are equal (R19). -/
def Dev.bestCharter (s : Dev) : Option (Bool × Charter) :=
  s.validCharters.foldl (fun m c => match m with
    | none => some c
    | some d => if d.2.seq < c.2.seq then some c else some d) none

/-- The firmware slot that a commit writes (R434 step 5, R439). -/
def Dev.updFwSlot (s : Dev) : Bool :=
  if s.upd.salvage then
    if !s.fwSlotOk false then false
    else if !s.fwSlotOk true then true
    else match s.bestCharter with | some c => c.2.fwSlot ≠ 1 | none => false
  else match s.charter with | some c => c.fwSlot ≠ 1 | none => false

/-- The charter slot that a commit writes (R434 step 7, R439). -/
def Dev.updChSlot (s : Dev) : Bool :=
  if s.upd.salvage then
    match s.slotCharter false, s.slotCharter true with
    | none, _ => false
    | _, none => true
    | some a, some b => decide (b.2.seq ≤ a.2.seq)
  else !s.core.charterSlot

/-- The new charter (R434 step 6, R439), unless the image is bad. -/
def Dev.newCharter (s : Dev) (cs : List Component) : Option (Bytes × Nat) := do
  let kindOf (k : Nat) := cs.find? (fun c => c.kind = k)
  let running : Option (Bytes × Nat × Nat) := if s.upd.salvage then s.bestCharter.map (fun c => (c.2.raw, c.2.fwSlot, c.2.seq))
    else s.charter.map (fun c => (c.raw, c.fwSlot, c.seq))
  let base ← match kindOf 2 with
    | some c => s.updTarget c
    | none => running.map (·.1)
  let hdr ← chHeader base
  let secs ← sectionsOf base
  let secs ← match cs.find? Component.oneByOne with
    | some c => (s.updTarget c).map (fun t => replaceSec secs { ty := if c.kind = 0x10 then 3 else 2, sver := c.sver, payload := t })
    | none => some secs
  let seq := match running with | some r => (r.2.2 + 1) % 2 ^ 32 | none => 1
  let fw := if (kindOf 1).isSome then b2n s.updFwSlot else (match running with | some r => r.2.1 | none => 0)
  let raw := charterBytes fw seq hdr.build secs
  let _ ← verifyCharter raw
  return (raw, seq)

/-- The store operations that write bytes to a slot: its erases, then its page programs; for a charter the 64 header bytes
last (R434). -/
def slotPlan (base page kind : Nat) (bs : Bytes) : List (Nat × Nat × Bytes) :=
  let from_ := if kind = 2 then 64 else 0
  let erases := (List.range (ceilDiv bs.length 65536)).map (fun i => (base + 65536 * i, kind, ([] : Bytes)))
  let pages := (List.range (ceilDiv bs.length page)).filterMap (fun i =>
    let lo := max from_ (page * i)
    let hi := min bs.length (page * (i + 1))
    if lo < hi then some (base + lo, kind, (bs.take hi).drop lo) else none)
  erases ++ pages ++ (if kind = 2 then [(base, kind, bs.take 64)] else [])

/-- The opcode of the commit that runs. -/
def Dev.commitOpcode (s : Dev) : Nat := if s.upd.salvage then 0xC062 else 0xC043

/-- A commit fails before the switch (Table 19-6). -/
def Dev.commitFail (s : Dev) (st : St) : Dev :=
  let s := (s.latch Reg.UPD_ERR 2).updLog LT.UPD_COMMIT_FAIL s.updImage st.code
  (s.modUpd (fun u => { u with st := 1, result := st.code, plan := [], step := 0 })).bgFinish s.commitOpcode st []

/-- A commit is abandoned by a mode change or the first action of a crossing (Table 19-6, R169). -/
def Dev.commitAbort (s : Dev) : Dev :=
  if s.upd.st = 2 then
    let s := s.modChtr (fun c => { c with queue := c.queue.filter (fun d => d.what ≠ .activation) })
    (s.modUpd (fun u => { u with st := 1, result := St.aborted.code, plan := [], step := 0 })).bgAbandon
  else s

/-- The requester of the update manager's operations. -/
def Dev.updReq (s : Dev) : ChReq := if s.core.mode = .recovery then .rom else .update

/-- Put the next operation of the plan into the store's queue; a migration write in progress delays charter writes (R282). -/
def Dev.planNext (s : Dev) : Dev :=
  match s.upd.plan with
  | [] => s
  | (a, kind, bs) :: _ =>
    let waiting : Bool := s.chtr.queue.any (fun d => d.what = .activation) ||
      (match s.chtr.cur with | some d => d.what = .activation | none => false)
    if s.upd.st ≠ 2 || waiting || (kind ≠ 1 && s.chtr.migrating.isSome) then s
    else
      match s.storeRefusal s.updReq a (if bs = [] then 65536 else bs.length) with
      | some st => (s.chErr 0 a).commitFail st
      | none =>
        if s.chtr.st = 3 then s.commitFail .storeFailed
        else
          let s := s.modUpd (fun u => { u with kind := kind })
          s.chQueue { op := if bs = [] then 5 else 2, addr := a, len := if bs = [] then 65536 else bs.length, data := bs,
                      req := s.updReq, what := .activation, buf := none }

/-- Start a plan. -/
def Dev.planStart (s : Dev) (step : Nat) (plan : List (Nat × Nat × Bytes)) : Dev :=
  (s.modUpd (fun u => { u with
    step := step, plan := plan, planTotal := u.planTotal + (plan.map (fun p => p.2.2.length)).sum })).planNext

/-- Steps 6 and 7: the new charter. -/
def Dev.commitCharter (s : Dev) : Dev :=
  match s.newCharter (components (s.pieceBytes 0)) with
  | none => s.commitFail .imageBad
  | some (raw, seq) =>
    (s.modUpd (fun u => { u with newSeq := seq })).planStart 7 (slotPlan (charterBase s.updChSlot) s.norPage 2 raw)

/-- Steps 1 to 4 of R434, then the first writes. -/
def Dev.commitRun (s : Dev) : Dev :=
  let cs := components (s.pieceBytes 0)
  let kindOf (k : Nat) := cs.find? (fun c => c.kind = k)
  if crc32c s.updBody ≠ leAt s.upd.header 32 4 then s.commitFail .imageBad
  else if !s.upd.salvage && cs.any (fun c => !c.full && (c.baseLen ≠ (s.baseOf c.kind).length || c.baseCrc ≠ crc32c (s.baseOf c.kind))) then
    s.commitFail .incompatible
  else if cs.any (fun c => (s.updTarget c).isNone) then s.commitFail .imageBad
  else
    let fw := match kindOf 1 with
      | some c => (s.updTarget c).getD []
      | none => s.fwBytes s.core.fwSlot
    let target := match kindOf 2 with
      | some c => (s.updTarget c).bind sectionsOf
      | none => if s.upd.salvage then s.bestCharter.bind (fun c => sectionsOf c.2.raw) else some s.runSections
    let good : Bool := match cs.find? Component.oneByOne, target with
      | some c, _ =>
        s.matrixOk c.kind ((s.updTarget c).getD []) &&
          (if c.kind = 0x10 then decide (leAt fw 24 1 ≤ c.sver) && decide (c.sver ≤ leAt fw 25 1)
           else decide (leAt fw 26 1 ≤ c.sver) && decide (c.sver ≤ leAt fw 27 1))
      | none, some secs =>
        (s.upd.salvage || (kindOf 2).isNone ||
          (secGet secs 3 = secGet s.runSections 3 && secGet secs 2 = secGet s.runSections 2)) &&
          (match secGet secs 3, secGet secs 2 with
           | some t, some n => fwAccepts fw t.sver n.sver 4
           | _, _ => false)
      | none, none => false
    let s := if cs.any (fun c => c.kind = 0x11) then s.drew else s
    if target.isNone then s.commitFail .imageBad
    else if !good then s.commitFail .incompatible
    else
      let s := s.putMark 256 s.upd.session
      match kindOf 1 with
      | some _ => s.planStart 5 (slotPlan (fwBase s.updFwSlot) s.norPage 1 fw)
      | none => s.commitCharter

/-- KX_UPD_COMMIT and KX_SALVAGE_COMMIT: none where the command now runs in the background, else its refusal. `busy`: a
background command runs (R169). -/
def Dev.updCommit (s : Dev) (p : Port) (session : Nat) (salvage busy : Bool) : Dev × Option St :=
  if !s.updMine p session salvage then (s, some .noSession)
  else
    let s := s.updTouch
    if s.upd.st ≠ 1 then (s, some .busy)
    else if s.upd.held.length ≠ uhPieces s.upd.header then (s, some .notReady)
    else if !salvage && s.core.mode = .service && !s.updOneByOne then (s, some .wrongMode)
    else if busy then (s, some .busy)
    else
      let s := (s.bgStart p (if salvage then 0xC062 else 0xC043)).modUpd (fun u => { u with
        st := 2, percent := 0, planTotal := 0, planDone := 0 })
      (s.commitRun, none)

/-! ### One-by-one components, activation and rollback (R436 to R438) -/

/-- The charter in force with a section's payload and its typed form replaced. -/
def Charter.withRaw (c : Charter) (raw : Bytes) : Charter := { c with raw := raw }

/-- A timetable that waits takes effect when no run is in progress (Table 19-7). -/
def Dev.applyTimetable (s : Dev) : Dev :=
  if !s.upd.ttPending || s.seq.run ≠ 0 then s
  else
    match s.charter, secOf 3 s.runSections with
    | some c, some b =>
      match timetablesOf c.rails b with
      | some tt =>
        let s := { s with charter := some { c with tt := tt } }
        let s := s.setRegF Reg.SEQ_BELL_CTL 16 16 tt.barrierMs
        (s.modUpd (fun u => { u with ttPending := false })).updLog LT.UPD_APPLIED s.upd.waitImage 3
      | none => s
    | _, _ => s

/-- The profile fields that take effect at the switch (Table 19-7). -/
def Profile.applyNow (old new : Profile) : Profile := { new with rate := old.rate, idMatch := old.idMatch }

/-- Profile fields that wait take effect at a cold landing. -/
def Dev.applyProfile (s : Dev) : Dev :=
  if !s.upd.npPending then s
  else
    match s.charter, (secOf 2 s.runSections).bind profileOf with
    | some c, some p =>
      let s := { s with charter := some { c with profile := p }, flsh := { s.flsh with prof := some p } }
      (s.modUpd (fun u => { u with npPending := false })).updLog LT.UPD_APPLIED s.upd.waitImage 2
    | _, _ => s

/-- The switch of a one-by-one component (R436). -/
def Dev.switchOne (s : Dev) (c : Component) : Dev :=
  let image := s.updImage
  match s.charter with
  | none => s.updFree
  | some ch =>
    let new := (s.updTarget c).getD []
    let secs := replaceSec s.runSections { ty := if c.kind = 0x10 then 3 else 2, sver := c.sver, payload := new }
    let build := match chHeader ch.raw with | some h => h.build | none => []
    let ch' := ch.withRaw (charterBytes ch.fwSlot ch.seq build secs)
    let s := s.bgFinish 0xC043 .ok []
    if c.kind = 0x10 then
      (({ s with charter := some ch' }.updFree).modUpd (fun u => { u with ttPending := true, waitImage := image, result := 0, percent := 100 })).applyTimetable
    else
      match profileOf new with
      | some p =>
        let now := ch.profile.applyNow p
        let later : Bool := p.rate ≠ ch.profile.rate || p.idMatch ≠ ch.profile.idMatch
        let s := { s with charter := some { ch' with profile := now }
                          flsh := { s.flsh with prof := if s.flsh.prof.isSome then some now else none } }
        let s := s.updFree.modUpd (fun u => { u with npPending := later, waitImage := image, result := 0, percent := 100 })
        if later then s else s.updLog LT.UPD_APPLIED image 2
      | none => s.updFree

/-- The switch (R435, Table 19-6). -/
def Dev.updSwitch (s : Dev) : Dev :=
  match (components (s.pieceBytes 0)).find? Component.oneByOne with
  | some c => s.switchOne c
  | none =>
    let s := (s.putMark 512 s.upd.newSeq).updLog LT.UPD_SWITCH s.updImage s.upd.newSeq
    let s := s.bgFinish s.commitOpcode .ok []
    s.modUpd (fun u => { u with st := 3, result := 0, percent := 100, reload := true, offAsked := false, step := 0, plan := [] })

/-- A store operation of the plan ends with its status. -/
def Dev.planDone (s : Dev) (st : St) : Dev :=
  if s.upd.st ≠ 2 then s
  else if st ≠ .ok then s.commitFail st
  else
    match s.upd.plan with
    | [] => s
    | (_, _, bs) :: rest =>
      let done := s.upd.planDone + bs.length
      let pct := min 99 (100 * done / max 1 s.upd.planTotal)
      let s := s.modUpd (fun u => { u with plan := rest, planDone := done, percent := pct })
      let s := s.bgPercent pct
      if rest ≠ [] then s.planNext
      else if s.upd.step = 5 then
        if s.fwSlotOk s.updFwSlot then s.commitCharter else s.commitFail .imageBad
      else s.updSwitch

/-- The start of a trial: READY_FW sets with the switched charter running (Table 19-6). -/
def Dev.updFwReady (s : Dev) : Dev :=
  if s.upd.st = 3 && !s.upd.reload && s.runsSeq s.upd.newSeq then
    (s.putMark 768 (s.opSeconds % 2 ^ 32)).modUpd (fun u => { u with st := 4, trialS := s.opSeconds })
  else s

/-- The trial ends (Table 19-6). -/
def Dev.updConfirm (s : Dev) : Dev :=
  let image := s.updImage
  let session := s.upd.session
  (s.putMark 1024 session).updFree.updLog LT.UPD_CONFIRMED image session

/-- TRIAL_S operating seconds with READY_FW have passed. -/
def trialExpiry (s : Dev) : Dev := if s.upd.st = 4 && s.rdy Rdy.FW then s.updConfirm else s

/-- UPD_STATUS.PREV_VALID: both charter slots pass full verification and each names a firmware slot that passes R429. -/
def Dev.prevValid (s : Dev) : Bool :=
  [false, true].all (fun b => match s.slotCharter b with
    | some c => s.fwSlotOk (decide (c.2.fwSlot = 1))
    | none => false)

/-- R438: the charter slot with the higher SEQ is made invalid, and the device reloads. -/
def Dev.rollback (s : Dev) (cause : Nat) : Dev :=
  match s.bestCharter with
  | none => s
  | some (slot, _) =>
    let s := if s.chtr.st = 2 then { s with nor := Memory.writeBytes norByte s.nor (charterBase slot) [0, 0, 0, 0] } else s
    let s := (s.latch Reg.UPD_ERR 3).updLog LT.UPD_ROLLBACK s.updImage cause
    s.modUpd (fun u => { u with st := 5, reload := true, offAsked := false, rollbackWait := none })

/-- A FW_FAULT in TRIAL (R438). In SAVE it waits for the mode to change. -/
def Dev.updFwFault (s : Dev) : Dev :=
  if s.upd.st = 4 && s.prevValid then
    if s.core.mode = .save then s.modUpd (fun u => { u with rollbackWait := some 2 }) else s.rollback 2
  else s

/-- A rollback that waited. -/
def Dev.rollbackWaits (s : Dev) : Dev :=
  match s.upd.rollbackWait with
  | some c => if s.core.mode = .save then s else s.rollback c
  | none => s

/-- A reload (R437): OFF_REQ from a mode that holds data, RESET_FULL from STANDBY or RECOVERY. -/
def Dev.updReload (s : Dev) : Dev :=
  if !s.upd.reload || s.core.trans.isSome then s
  else
    match s.core.mode with
    | .standby => (s.modUpd (fun u => { u with reload := false })).note (.mode .resetFull)
    | .recovery => (s.modUpd (fun u => { u with reload := false })).note (.mode .resetFull)
    | .save => s
    | .unpowered => s
    | _ => if s.upd.offAsked then s else (s.modUpd (fun u => { u with offAsked := true })).note (.mode .offReq)

/-- UPD_CTL.ROLLBACK (R438, Table 19-6). -/
def Dev.ctlRollback (s : Dev) (src : Src) : Dev :=
  if s.core.mode ≠ .maintenance then s.writeStatus src .wrongMode
  else if !s.prevValid then s.writeStatus src .notReady
  else if s.upd.st ≠ 0 && s.upd.st ≠ 4 then s.writeStatus src .busy
  else (s.rollback 1).writeStatus src .ok

/-- UPD_CTL.CONFIRM. -/
def Dev.ctlConfirm (s : Dev) (src : Src) : Dev :=
  if s.upd.st ≠ 4 then s.writeStatus src .notReady else s.updConfirm.writeStatus src .ok

end Sys2Proof.Machine
end

