-- ==== Sys2Proof/Machine/Link.lean ====
section
/-!
DEFINITION. The host link (chapter 7): its states (Table 7-2), resets, LD allocations and HDM decoders, GPF, MSI-X, DOE and BAR2
accesses that break R3.
-/
namespace Sys2Proof.Machine

/-- The code of a link state (HLNK_LINK_STATUS.STATE). -/
def LinkSt.code : LinkSt → Nat
  | .down => 0 | .training => 1 | .io => 2 | .mem => 3 | .held => 4

/-- HLNK_LINK_STATUS (R180). -/
def Dev.linkStatus (s : Dev) : Nat :=
  let h := s.hlnk
  let m := h.mode
  h.link.code + (if h.trained then
    fieldAt 4 3 m.rate.val + fieldAt 8 5 (if m.x16 then 16 else 8) + fieldAt 13 1 (b2n m.flit256) + fieldAt 14 1 (b2n m.lopt) +
      fieldAt 15 1 (b2n h.noCxl) + fieldAt 16 1 (b2n (m.cxl && m.mld)) + fieldAt 17 5 (s.ldSizes.countP (fun n => decide (n ≠ 0))) +
      fieldAt 22 1 (b2n m.laneRev)
    else 0)

/-- A record of a link event: its BAR2 offset or 0, and HLNK_LINK_STATUS. -/
def Dev.logLink (s : Dev) (ty off : Nat) : Dev := s.logStd ty off s.linkStatus

/-- The link is up with CXL. -/
def Dev.linkUp (s : Dev) : Bool := s.hlnk.link = .io || s.hlnk.link = .mem


/-! ### Link states (Table 7-2) -/

/-- What the device offers limits what is negotiated (HLNK_LINK_CTL, Table 7-1): a rate of 8 to 64 GT/s, x16 or x8; the 68-byte flit
at 32 GT/s and below only, and the latency-optimized flit as a form of the 256-byte flit. -/
def Dev.negotiated (s : Dev) (m : LinkMode) : LinkMode :=
  let maxRate := max 1 (min 4 (s.regF Reg.HLNK_LINK_CTL 0 3))
  let rate : Fin 5 := Fin.ofNat 5 (max 1 (min maxRate m.rate.val))
  let flit256 : Bool := m.flit256 || decide (rate = 4)
  { m with
    rate := rate
    x16 := m.x16 && decide (s.regF Reg.HLNK_LINK_CTL 4 1 = 0)
    flit256 := flit256
    lopt := m.lopt && flit256 && decide (s.regF Reg.HLNK_LINK_CTL 5 1 = 1) }

/-- The LTSSM reaches L0: from TRAINING with what was negotiated; after a pass through Recovery only RETRAIN clears. -/
def linkL0 (m : LinkMode) (s : Dev) : Dev :=
  if s.linkUp then s.setRegF Reg.HLNK_LINK_CTL 6 1 0
  else if s.hlnk.link ≠ .training || s.hlnk.trained then s
  else
    let s := (s.setRegF Reg.HLNK_LINK_CTL 6 1 0).modHlnk (fun h => { h with mode := s.negotiated m, trained := true, noCxl := !m.cxl })
    if m.cxl then ((s.modHlnk (fun h => { h with link := .io })).setReady Rdy.LINK).evalAgain
    else (s.latch Reg.HLNK_ERR 5).logLink LT.LINK_NO_CXL 0

/-- The link leaves L0: READY_LINK clears, with what hangs on it, and the requests in flight are resolved (R160). -/
def Dev.linkLost (s : Dev) (dest : LinkSt) : Dev :=
  let s := ((s.clrReady Rdy.LINK).clrReady Rdy.MAILBOX).clrReady Rdy.HOSTMEM
  (s.resolveInFlight.modHlnk (fun h => { h with link := dest, trained := false, noCxl := false })).evalAgain

/-- The LTSSM leaves L0 for Detect or Disabled with PERST_N high: a link-level error, reported through AER (R178; PRESUMED:
assumption 114). -/
def linkDown (s : Dev) : Dev :=
  if !s.hlnk.trained || !s.pins.perstN then s
  else (((s.linkLost .training).latch Reg.HLNK_ERR 4).logLink LT.LINK_DOWN 0).emit .aerLinkDown

/-- The link domain is powered: its checkpoint has been passed, and no LINK rail is down (Table 7-2, R343). -/
def Dev.linkPowered (s : Dev) : Bool :=
  s.seq.linkUp && (List.range 24).all (fun n =>
    !(s.railRec n).populated || !(s.railRec n).link || (s.rail n).st = .ramp || (s.rail n).st = .on)

/-- The link domain loses power, or the down-timetable ends HELD. -/
def Dev.linkOff (s : Dev) : Dev := (s.linkLost .down).modHlnk (fun h => { h with memActive := false })

/-- The rows of Table 7-2 that follow from the device's own state: training starts (not in SAVE, Table 7-10), CXL.mem opens and
closes, and the link domain loses power. -/
def Dev.linkEval (s : Dev) : Dev :=
  if s.hlnk.link ≠ .down && !s.linkPowered then s.linkOff
  else
    match s.hlnk.link with
    | .down =>
      if s.pins.perstN && s.linkPowered && s.core.mode ≠ .save && (s.rdy Rdy.RAILS || s.core.mode = .recovery) then (s.modHlnk (fun h => { h with link := .training })).evalAgain
      else s
    | .io => if s.rdy Rdy.HOSTMEM then (s.modHlnk (fun h => { h with link := .mem, memActive := true })).evalAgain else s
    | .mem => if s.rdy Rdy.HOSTMEM || s.core.mode = .save then s else (s.modHlnk (fun h => { h with link := .io })).evalAgain
    | _ => s

/-- The first action of a crossing (R107): the PHY is parked. -/
def Dev.linkHold (s : Dev) : Dev :=
  if s.hlnk.link = .down then s
  else ((s.clrReady Rdy.LINK).clrReady Rdy.MAILBOX).modHlnk (fun h => { h with link := .held, trained := false, noCxl := false })

/-- A warm landing: training starts, or waits for the next rise of PERST_N. -/
def Dev.linkWarm (s : Dev) : Dev :=
  if s.hlnk.link ≠ .held then s else s.modHlnk (fun h => { h with link := if s.pins.perstN then .training else .down })

/-- The device's DevLoad changes (R157): HLNK_DEVLOAD counts it. -/
def Dev.devloadEval (s : Dev) : Dev :=
  if s.hlnk.devload = s.devload then s else (s.modHlnk (fun h => { h with devload := s.devload })).wrapReg Reg.HLNK_DEVLOAD 16 16 1

/-! ### Resets, LDs and decoders (R149, R151, R152) -/

/-- FLR resets an LD's mailbox, event logs and MSI-X state. -/
def Dev.ldReset (s : Dev) (ld : Fin 16) : Dev :=
  s.modLd ld (fun l => { l with
    logs := [[], [], [], []], overflow := [], ovfTimes := [], nextHandle := 1, intPolicy := 0, msixMask := 0xF, msixPend := 0 })

/-- A function-level reset. -/
def flr (ld : Fin 16) (s : Dev) : Dev := if s.linkUp then s.ldReset ld else s

/-- CXL Reset also uncommits the LD's decoders; no memory contents or granule state changes. -/
def cxlReset (ld : Fin 16) (s : Dev) : Dev :=
  if s.linkUp then (s.ldReset ld).modHlnk (fun h => { h with decoders := h.decoders.filter (fun d => d.ld ≠ ld.val) }) else s

/-- A base in an allocation, in GiB. -/
def baseIn (sizes : List Nat) (n : Nat) : Nat := (sizes.take n).foldl (· + ·) 0

/-- Set LD Allocations (R151): taken whole, unless it exceeds the host-visible capacity or moves an LD with a committed
decoder. -/
def setLdAllocations (sizes : List Nat) (s : Dev) : Dev :=
  if !s.linkUp then s
  else
    let old := s.ldSizes
    let moves (n : Nat) : Bool := decide (baseIn sizes n ≠ baseIn old n) || decide (sizes.getD n 0 ≠ old.getD n 0)
    let bad : Bool := decide (16 < sizes.length) || decide (s.installedGiB - 1 < sizes.foldl (· + ·) 0) ||
      s.hlnk.decoders.any (fun d => d.committed && moves d.ld) || !(s.hlnk.mode.cxl && s.hlnk.mode.mld)
    if bad then s.refuse (.host 0) 0x5402 St.badParam.ret .badParam
    else (s.modHlnk (fun h => { h with allocs := sizes })).postSt (.host 0) 0x5402 .ok []

/-- The ways and granularities of Table 7-1. -/
def hdmWays (w : Fin 8) : Nat := [1, 2, 3, 4, 6, 8, 12, 16].getD w.val 1
def hdmGran (g : Fin 7) : Nat := 256 * 2 ^ g.val

/-- A decoder may commit: base and size are whole units of 256 MiB × ways, its share lies in the LD after those below it, and
decoder 0 is committed first and lies lower (as CXL defines). -/
def Dev.decoderOk (s : Dev) (d : Decoder) : Bool :=
  decide (d.size ≠ 0) && decide (d.base % 2 ^ 28 = 0) && decide (d.size % (2 ^ 28 * d.ways) = 0) &&
    decide (d.base + d.size ≤ 2 ^ 52) &&
    decide (s.decoderBase d.ld d.n + d.skip + d.share ≤ s.ldSizes.getD d.ld 0 * 2 ^ 30) &&
    (d.n = 0 || s.hlnk.decoders.any (fun e => e.ld = d.ld && e.n = 0 && e.committed && decide (e.base + e.size ≤ d.base)))

/-- A write commits or uncommits an LD's HDM decoder (R152). -/
def hdmDecoderCommit (ld : Fin 16) (n : Fin 2) (commit : Bool) (base : BitVec 52) (size : Nat) (ways : Fin 8) (gran : Fin 7)
    (skip : Nat) (s : Dev) : Dev :=
  if !s.linkUp then s
  else
    let others := s.hlnk.decoders.filter (fun d => !(decide (d.ld = ld.val) && decide (d.n = n.val)))
    if !commit then s.modHlnk (fun h => { h with decoders := others })
    else
      let d : Decoder :=
        { ld := ld.val, n := n.val, base := base.toNat, size := size, ways := hdmWays ways, gran := hdmGran gran, skip := skip
          committed := true }
      let s' := s.modHlnk (fun h => { h with decoders := others })
      if s'.decoderOk d then s.modHlnk (fun h => { h with decoders := others ++ [d] }) else s

/-! ### GPF, MSI-X, DOE, BAR2 -/

/-- GPF Phase 1 has nothing to do (R32). -/
def gpfPhase1 (s : Dev) : Dev := if s.linkUp then s.emit .gpfPhase1Done else s

/-- GPF Phase 2 (R32, R162): it completes once every write received before it has been acknowledged. -/
def gpfPhase2 (s : Dev) : Dev :=
  if !s.linkUp then s
  else ((s.wrapReg Reg.HLNK_GPF 16 16 1).modHlnk (fun h => { h with gpf := h.gpf ++ [(s.ticks, h.seq)] })).gpfCheck

/-- With the engine HALTED, the oldest Phase 2 completes with writes still held (R32). -/
def gpfPartial (s : Dev) : Dev :=
  match s.hlnk.gpf with
  | (t, n) :: _ =>
    if s.fery.eng ≠ .halted then s
    else
      let held := s.gpfHeld n
      let s := (s.gpfDone t true).latch Reg.HLNK_ERR 8
      s.logStd LT.GPF_PARTIAL held (s.regN Reg.HLNK_GPF)
  | [] => s

/-- An unmask of a vector sends a message held while it was masked (R177). -/
def msixUnmask (ld : Fin 16) (v : Fin 4) (s : Dev) : Dev :=
  if !s.linkUp then s
  else
    let l := s.ld ld
    let bit := 1#4 <<< v.val
    let s := s.modLd ld (fun l => { l with msixMask := l.msixMask &&& ~~~bit, msixPend := l.msixPend &&& ~~~bit })
    if l.msixMask.getLsbD v.val && l.msixPend.getLsbD v.val then s.emit (.msix ld v.val) else s

/-- The CDAT of an LD (R149): one DSMAS entry over its capacity, in bytes, which is persistent; DSLBIS entries with the worst-corner
latency in ns and bandwidth in MB/s of Table 8-2. -/
def Dev.cdat (s : Dev) (ld : Fin 16) : List CdatEntry :=
  [.dsmas 0 0 (s.ldSize ld) true, .dslbisLatency 0 180, .dslbisBandwidth 0 200000]

/-- A read of an LD's CDAT through DOE. -/
def doeCdatRequest (ld : Fin 16) (s : Dev) : Dev :=
  if s.linkUp && decide (s.ldSize ld ≠ 0) then s.emit (.doe ld (s.cdat ld)) else s

/-- A BAR2 access that breaks R3 (R166). -/
def bar2BadAccess (off : BitVec 20) (write : Bool) (s : Dev) : Dev :=
  if !s.linkUp then s
  else
    let s := (((s.latch Reg.HLNK_ERR 0).setRegN Reg.HLNK_ERR_ADDR_LO off.toNat).setRegN Reg.HLNK_ERR_ADDR_HI 0).logLink
      LT.MMIO_BAD_ACCESS off.toNat
    if write then s else s.emit (.mmioRead off.toNat 0)

/-- READY_MAILBOX sets once READY_LINK is set and the mailbox is served: by firmware, or in RECOVERY by the Slipway ROM (R177,
Table 1-6). -/
def readyMailbox (s : Dev) : Dev :=
  let modeOk : Bool := s.core.mode = .restore || s.core.mode = .service || s.core.mode = .maintenance
  if s.rdy Rdy.LINK && ((modeOk && s.rdy Rdy.FW) || s.core.mode = .recovery) then s.setReady Rdy.MAILBOX else s

end Sys2Proof.Machine
end

