-- ==== Sys2Proof/Machine/Mailbox.lean ====
section
/-!
DEFINITION. The CXL standard mailbox commands (Table 7-5, R163, R170 to R173, R413). Layouts that the spec leaves to CXL 3.1 are the
family's (PRESUMED: assumption 16); bytes that neither states are Config.stdByte.
-/
namespace Sys2Proof.Machine

/-- Bytes of a standard output that the spec does not state. -/
def stdBytes (opcode key a n : Nat) : Bytes := (List.range n).map (fun i => Config.stdByte opcode key (a + i))

/-- The ST_ code of a command that the device does not support: one of the two that Table 17-3 maps to Unsupported; the spec does
not say which. -/
def Dev.unsupportedSt (s : Dev) : St := if Config.freeValue s.freeCtr % 2 = 0 then .noAuthority else .notAdminLd

/-- Serve a standard command of an LD: firmware serves the mailbox while READY_MAILBOX is set, and in RECOVERY the Slipway ROM
serves the commands that Table 7-5 marks R; the others are Unsupported there (R168, R170). -/
def Dev.mbox (s : Dev) (ld : Fin 16) (opcode : Nat) (rom : Bool) (act : Dev → Dev) : Dev :=
  if !s.rdy Rdy.MAILBOX || !s.hasLd ld then s
  else if s.core.mode = .recovery && !rom then (s.refuse (.host ld) opcode 3 s.unsupportedSt).drew
  else act s

/-- Complete a standard command with its output. -/
def Dev.mboxOk (s : Dev) (ld : Fin 16) (opcode : Nat) (payload : Bytes) : Dev := s.postSt (.host ld) opcode .ok payload

/-- Refuse a standard command. -/
def Dev.mboxBad (s : Dev) (ld : Fin 16) (opcode : Nat) (st : St) : Dev := s.refuse (.host ld) opcode st.ret st

/-! ### Identification and logs -/

/-- Identify: the identification bytes, the largest message as a power of two, and the component type of a Type 3 device. -/
def identify (ld : Fin 16) (s : Dev) : Dev :=
  s.mbox ld 0x0001 true (fun s => s.mboxOk ld 0x0001 (stdBytes 0x0001 0 0 16 ++ [16, 3]))

/-- Background Operation Status (R169). -/
def backgroundOperationStatus (ld : Fin 16) (s : Dev) : Dev :=
  s.mbox ld 0x0002 true (fun s =>
    s.mboxOk ld 0x0002 (match s.hlnk.bg with
      | some b => [BitVec.ofNat 8 (b2n b.running + fieldAt 1 7 b.percent), 0] ++ leBytes 2 b.opcode ++ leBytes 2 b.ret ++ leBytes 2 b.st.code
      | none => List.replicate 8 0))

/-- Get Response Message Limit: the 64 KiB payload (R168), as a power of two. -/
def getResponseMessageLimit (ld : Fin 16) (s : Dev) : Dev := s.mbox ld 0x0003 true (fun s => s.mboxOk ld 0x0003 [16])

/-- The opcodes of the commands of Tables 7-5 and 7-6. -/
def celOpcodes : List Nat :=
  [0x0001, 0x0002, 0x0003, 0x0100, 0x0101, 0x0102, 0x0103, 0x0200, 0x0300, 0x0301, 0x0400, 0x0401, 0x4000, 0x4100, 0x4102,
    0x4103, 0x4200, 0x4201, 0x4202, 0x4203, 0x4204, 0x4300, 0x4301, 0x4302] ++
  [0xC000, 0xC001, 0xC002, 0xC003, 0xC010, 0xC020, 0xC030, 0xC031, 0xC040, 0xC041, 0xC042, 0xC043, 0xC044, 0xC050, 0xC051,
    0xC060, 0xC061, 0xC062]

/-- The Command Effects Log: an opcode and its effects, of which the spec states the background bit (marked B in Table 7-6). -/
def celBytes : Bytes :=
  celOpcodes.flatMap (fun o =>
    let bg := if o = 0xC043 || o = 0xC051 || o = 0xC062 then 1 else 0
    let free := leVal (stdBytes 0x0401 o 0 2)
    leBytes 2 o ++ leBytes 2 (free - fieldAt 6 1 (bitsOf free 6 1) + fieldAt 6 1 bg))

/-- The identifier of the Command Effects Log, as CXL gives it. -/
def celUuid : Bytes :=
  [0x0D, 0xA9, 0xC0, 0xB5, 0xBF, 0x41, 0x4B, 0x78, 0x8F, 0x79, 0x96, 0xB1, 0x62, 0x3B, 0x3F, 0x17]

/-- Get Supported Logs: the Command Effects Log only (R170). -/
def getSupportedLogs (ld : Fin 16) (s : Dev) : Dev :=
  s.mbox ld 0x0400 false (fun s =>
    s.mboxOk ld 0x0400 (leBytes 2 1 ++ List.replicate 6 0 ++ celUuid ++ leBytes 4 celBytes.length))

/-- Get Log, of the log with an identifier (R170). -/
def getLog (ld : Fin 16) (uuid : BitVec 128) (off len : BitVec 32) (s : Dev) : Dev :=
  s.mbox ld 0x0401 false (fun s =>
    if leBytes 16 uuid.toNat ≠ celUuid || decide (celBytes.length < off.toNat + len.toNat) then s.mboxBad ld 0x0401 .badParam
    else s.mboxOk ld 0x0401 (subBytes celBytes off.toNat len.toNat))

/-- Get FW Info: two slots, with the active slot from CORE_BOOT (R170). -/
def getFwInfo (ld : Fin 16) (s : Dev) : Dev :=
  s.mbox ld 0x0200 true (fun s =>
    s.mboxOk ld 0x0200 ([2, BitVec.ofNat 8 (1 + b2n s.core.fwSlot), 0] ++ List.replicate 13 0 ++ stdBytes 0x0200 0 0 32 ++
      List.replicate 32 0))

/-! ### Event records (R170, R173) -/

/-- The event logs that the device has. -/
abbrev eventLogs : Nat := 4

/-- The identifier of a kind of record, as CXL gives it. -/
def evUuid (kind : Nat) : Bytes :=
  if kind = 0 then [0xFB, 0xCD, 0x0A, 0x77, 0xC2, 0x60, 0x41, 0x7F, 0x85, 0xA9, 0x08, 0x8B, 0x16, 0x21, 0xEB, 0xA6]
  else [0xFE, 0x92, 0x74, 0x75, 0xDD, 0x59, 0x43, 0x39, 0xA5, 0x86, 0x79, 0xBA, 0xB1, 0x13, 0xB7, 0x74]

/-- A record of 128 bytes. A General Media Event names its DPA. -/
def evBytes (log : Nat) (r : EvRec) : Bytes :=
  let head := evUuid r.kind ++ [128, BitVec.ofNat 8 log, 0, 0] ++ leBytes 2 r.handle ++ [0, 0] ++ leBytes 8 r.ts ++
    stdBytes 0x0100 r.handle 32 16
  if r.kind = 0 then head ++ leBytes 8 r.dpa ++ stdBytes 0x0100 r.handle 56 72 else head ++ stdBytes 0x0100 r.handle 48 80

/-- Get Event Records (R170). -/
def getEventRecords (ld : Fin 16) (log : Byte) (s : Dev) : Dev :=
  s.mbox ld 0x0100 false (fun s =>
    if eventLogs ≤ log.toNat then s.mboxBad ld 0x0100 .badParam
    else
      let l := s.ld ld
      let rs := l.logs.getD log.toNat []
      let n := l.overflow.getD log.toNat 0
      s.mboxOk ld 0x0100 ([BitVec.ofNat 8 (b2n (decide (n ≠ 0))), 0] ++ leBytes 2 n ++ leBytes 8 (l.ovfTimes.getD (2 * log.toNat) 0) ++
        leBytes 8 (l.ovfTimes.getD (2 * log.toNat + 1) 0) ++ leBytes 2 rs.length ++ List.replicate 10 0 ++ rs.flatMap (evBytes log.toNat)))

/-- Clear Event Records: all of them after an overflow, or those named, oldest first. -/
def clearEventRecords (ld : Fin 16) (log : Byte) (all : Bool) (handles : List (BitVec 16)) (s : Dev) : Dev :=
  s.mbox ld 0x0101 false (fun s =>
    let l := s.ld ld
    let n := log.toNat
    let rs := l.logs.getD n []
    let hs := handles.map (fun h => h.toNat)
    if eventLogs ≤ n then s.mboxBad ld 0x0101 .badParam
    else if all then
      if l.overflow.getD n 0 = 0 then s.mboxBad ld 0x0101 .badParam
      else (s.modLd ld (fun l => { l with
        logs := l.logs.set n [], overflow := setGrow l.overflow n 0
        ovfTimes := setGrow (setGrow l.ovfTimes (2 * n) 0) (2 * n + 1) 0 })).mboxOk ld 0x0101 []
    else if (rs.take hs.length).map (fun r => r.handle) ≠ hs then s.mboxBad ld 0x0101 .badParam
    else (s.modLd ld (fun l => { l with
      logs := l.logs.set n (rs.drop hs.length), overflow := setGrow l.overflow n 0
      ovfTimes := setGrow (setGrow l.ovfTimes (2 * n) 0) (2 * n + 1) 0 })).mboxOk ld 0x0101 [])

/-- Get Event Interrupt Policy: the mode of each log, and its message number, which is 1 (Table 7-4). -/
def getEventInterruptPolicy (ld : Fin 16) (s : Dev) : Dev :=
  s.mbox ld 0x0102 false (fun s =>
    s.mboxOk ld 0x0102 ((List.range 4).map (fun n => BitVec.ofNat 8 (bitsOf (s.ld ld).intPolicy.toNat (8 * n) 2 + 0x10))))

/-- Set Event Interrupt Policy: a byte for each log, whose bits [1:0] ask for no interrupt or for MSI-X; firmware interrupts are
not supported (Table 7-1). -/
def setEventInterruptPolicy (ld : Fin 16) (val : Word) (s : Dev) : Dev :=
  s.mbox ld 0x0103 false (fun s =>
    if (List.range 4).any (fun n => decide (1 < bitsOf val.toNat (8 * n) 2)) then s.mboxBad ld 0x0103 .badParam
    else (s.modLd ld (fun l => { l with intPolicy := val &&& 0x03030303 })).mboxOk ld 0x0103 [])

/-! ### Timestamps (R413) -/

/-- Get Timestamp. -/
def getTimestamp (ld : Fin 16) (s : Dev) : Dev := s.mbox ld 0x0300 false (fun s => s.mboxOk ld 0x0300 (leBytes 8 s.timestampNow))

/-- Set Timestamp writes a wall-clock record and never changes record time. -/
def setTimestamp (ld : Fin 16) (t : BitVec 64) (s : Dev) : Dev :=
  s.mbox ld 0x0301 false (fun s =>
    ((s.modHlnk (fun h => { h with timestamp := some (t.toNat, s.ticks) })).logEvent LT.WALL_CLOCK
      (leBytes 8 t.toNat ++ leBytes 1 ld.val ++ [0, 0, 0])).mboxOk ld 0x0301 [])

/-! ### Capacity and labels -/

/-- An LD's size in units of 256 MiB. -/
def Dev.ldUnits (s : Dev) (ld : Fin 16) : Nat := 4 * s.ldSizes.getD ld.val 0

/-- Identify Memory Device (Table 7-5). -/
def identifyMemoryDevice (ld : Fin 16) (s : Dev) : Dev :=
  s.mbox ld 0x4000 false (fun s =>
    s.mboxOk ld 0x4000 (stdBytes 0x4000 0 0 16 ++ leBytes 8 (s.ldUnits ld) ++ leBytes 8 0 ++ leBytes 8 (s.ldUnits ld) ++ leBytes 8 0 ++
      leBytes 2 64 ++ leBytes 2 64 ++ leBytes 2 64 ++ leBytes 2 64 ++ leBytes 4 131072 ++ leBytes 3 4094 ++ leBytes 2 0 ++
      stdBytes 0x4000 0 16 2))

/-- Get Partition Info: persistent only, with no pending change. -/
def getPartitionInfo (ld : Fin 16) (s : Dev) : Dev :=
  s.mbox ld 0x4100 false (fun s =>
    s.mboxOk ld 0x4100 (leBytes 8 0 ++ leBytes 8 (s.ldUnits ld) ++ leBytes 8 0 ++ leBytes 8 0))

/-- The PR1 blocks of 4,032 payload bytes that n bytes from an offset meet. -/
def lsaBlocks (off n : Nat) : List Nat := ((List.range 642).filter (fun b => decide (4032 * b < off + n) && decide (off < 4032 * (b + 1)) && decide (n ≠ 0)))

/-- What the label storage needs of the store: none where it serves (Table 12-8, R295). -/
def Dev.lsaRefusal (s : Dev) : Option St :=
  if !s.rdy Rdy.CIPHER then some .notReady else if s.chtr.st ≠ 2 then some .storeFailed else none

/-- Get LSA: LD n's 128 KiB lie at payload offset 131,072 × n of PR1. -/
def getLsa (ld : Fin 16) (off len : BitVec 32) (s : Dev) : Dev :=
  s.mbox ld 0x4102 false (fun s =>
    let a := 131072 * ld.val + off.toNat
    if 131072 < off.toNat + len.toNat || 65536 < len.toNat then s.mboxBad ld 0x4102 .badParam
    else
      match s.lsaRefusal with
      | some st => s.mboxBad ld 0x4102 st
      | none =>
        let blocks := lsaBlocks a len.toNat
        let s := blocks.foldl (fun s b => s.prNoteDamage 1 b) s
        match blocks.find? (fun b => (s.prRead 1 b).isNone) with
        | some b => (s.prDamage 1 b).mboxBad ld 0x4102 .prDamaged
        | none =>
          s.mboxOk ld 0x4102 ((List.range len.toNat).map (fun i => getD 0 ((a + i) % 4032) ((s.prRead 1 ((a + i) / 4032)).getD []))))

/-- Set LSA. -/
def setLsa (ld : Fin 16) (off : BitVec 32) (data : Bytes) (s : Dev) : Dev :=
  s.mbox ld 0x4103 false (fun s =>
    let a := 131072 * ld.val + off.toNat
    if 131072 < off.toNat + data.length || 65528 < data.length then s.mboxBad ld 0x4103 .badParam
    else
      match s.lsaRefusal with
      | some st => s.mboxBad ld 0x4103 st
      | none =>
        ((lsaBlocks a data.length).foldl (fun s b =>
          let lo := max a (4032 * b)
          let hi := min (a + data.length) (4032 * (b + 1))
          s.prMerge 1 b (lo - 4032 * b) (subBytes data (lo - a) (hi - lo))) s).mboxOk ld 0x4103 [])

/-! ### Health and alerts (R172, R173) -/

/-- Health Status: Maintenance Needed while the health cap is below 1,024; Performance Degraded while a NAND channel is excluded
or B = 0. -/
def Dev.healthNow (s : Dev) : Nat :=
  b2n (decide (s.healthCap < 1024)) + 2 * b2n (decide (s.flsh.chLost ≠ []) || decide (s.fery.b = 0))

/-- Life Used, in per cent (R269). -/
def Dev.lifeUsed (s : Dev) : Nat := min 255 (max s.lifeTlc s.lifeSlc)

/-- The corrected-error counts: DRAM corrections, and corrected NAND reads with attempt-2 reconstructions, saturating. -/
def Dev.ceVolatile (s : Dev) : Nat := min (2 ^ 32 - 1) (s.regN Reg.DCTL_CE_TOTAL_LO + 2 ^ 32 * s.regN Reg.DCTL_CE_TOTAL_HI)

/-- The warning thresholds of an LD that are crossed, apart from temperature: life used, and both corrected-error counts. -/
def Dev.alertsNow (s : Dev) (l : LdSt) : Byte :=
  BitVec.ofNat 8
    (b2n (l.alertEnable.getLsbD 0 && decide (l.alertLife.toNat ≤ s.lifeUsed)) +
      8 * b2n (l.alertEnable.getLsbD 3 && decide (l.alertCeVol.toNat ≤ s.ceVolatile)) +
      16 * b2n (l.alertEnable.getLsbD 4 && decide (l.alertCePers.toNat ≤ s.flsh.ceReads)))

/-- The temperature thresholds that are crossed, as signed °C. -/
def tempAlerts (l : LdSt) (t : BitVec 16) : Byte :=
  BitVec.ofNat 8 (2 * b2n (l.alertEnable.getLsbD 1 && l.alertTempHi.sle t) + 4 * b2n (l.alertEnable.getLsbD 2 && t.sle l.alertTempLo))

/-- A Memory Module Event for each threshold newly crossed among `mask` (R173). -/
def Dev.alertStep (s : Dev) (ld : Fin 16) (mask now : Byte) : Dev :=
  let l := s.ld ld
  let s' := s.modLd ld (fun l => { l with alertHit := (l.alertHit &&& ~~~mask) ||| now })
  if now &&& ~~~l.alertHit = 0 then s' else s'.event evWarn evModule s.healthNow

/-- Health Status and the alerts are watched while the landing, the service or the maintenance of an image runs (R173). -/
def Dev.healthEval (s : Dev) : Dev :=
  if s.core.mode = .restore || s.core.mode = .service || s.core.mode = .maintenance then
    let n := s.healthNow
    let s := if s.hlnk.health = n then s else (s.modHlnk (fun h => { h with health := n })).event evWarn evModule n
    (List.finRange 16).foldl (fun s ld =>
      if (s.ld ld).alertEnable = 0 && (s.ld ld).alertHit = 0 then s else s.alertStep ld 0x19 (s.alertsNow (s.ld ld))) s
  else s

/-- Get Health Info, with the die temperature as the device reads it. -/
def getHealthInfo (ld : Fin 16) (temp : BitVec 16) (s : Dev) : Dev :=
  s.mbox ld 0x4200 false (fun s =>
    let s := s.alertStep ld 0x06 (tempAlerts (s.ld ld) temp)
    let l := s.ld ld
    let hit (n : Nat) : Nat := b2n (l.alertHit.getLsbD n)
    let more := hit 0 + 4 * (if l.alertHit.getLsbD 1 || l.alertHit.getLsbD 2 then 1 else 0) + 16 * hit 3 + 32 * hit 4
    s.mboxOk ld 0x4200 ([BitVec.ofNat 8 s.healthNow, BitVec.ofNat 8 (if s.hlnk.memActive then 0 else 1), BitVec.ofNat 8 more,
      BitVec.ofNat 8 s.lifeUsed] ++ leBytes 2 temp.toNat ++ leBytes 4 s.hlnk.dsc ++ leBytes 4 s.ceVolatile ++ leBytes 4 s.flsh.ceReads))

/-- Get Alert Config: the warning thresholds that are set, and the ones that may be programmed (life used, temperature and both
corrected-error counts). -/
def getAlertConfig (ld : Fin 16) (s : Dev) : Dev :=
  s.mbox ld 0x4201 false (fun s =>
    let l := s.ld ld
    s.mboxOk ld 0x4201 ([l.alertValid, 0x1F] ++ stdBytes 0x4201 0 2 1 ++ [l.alertLife] ++ stdBytes 0x4201 0 4 4 ++ leBytes 2 l.alertTempHi.toNat ++
      leBytes 2 l.alertTempLo.toNat ++ leBytes 2 l.alertCeVol.toNat ++ leBytes 2 l.alertCePers.toNat))

/-- Set Alert Config: for each threshold named in `valid`, its value and its enable. -/
def setAlertConfig (ld : Fin 16) (valid enable life : Byte) (hi lo vol pers : BitVec 16) (s : Dev) : Dev :=
  s.mbox ld 0x4202 false (fun s =>
    if valid.toNat / 32 ≠ 0 || enable.toNat / 32 ≠ 0 || (valid.getLsbD 0 && decide (100 < life.toNat)) then s.mboxBad ld 0x4202 .badParam
    else (s.modLd ld (fun l => { l with
      alertValid := l.alertValid ||| valid
      alertEnable := (l.alertEnable &&& ~~~valid) ||| (enable &&& valid)
      alertLife := if valid.getLsbD 0 then life else l.alertLife
      alertTempHi := if valid.getLsbD 1 then hi else l.alertTempHi
      alertTempLo := if valid.getLsbD 2 then lo else l.alertTempLo
      alertCeVol := if valid.getLsbD 3 then vol else l.alertCeVol
      alertCePers := if valid.getLsbD 4 then pers else l.alertCePers })).mboxOk ld 0x4202 [])

/-! ### Shutdown state and poison (R163, R171) -/

/-- Get Shutdown State. -/
def getShutdownState (ld : Fin 16) (s : Dev) : Dev :=
  s.mbox ld 0x4203 false (fun s => s.mboxOk ld 0x4203 [BitVec.ofNat 8 (s.hlnk.shutdown.getD ld.val 0)])

/-- Set Shutdown State: PR2 keeps it, and it takes no part in the Dirty Shutdown Count. -/
def setShutdownState (ld : Fin 16) (dirty : Bool) (s : Dev) : Dev :=
  s.mbox ld 0x4204 false (fun s =>
    match s.lsaRefusal with
    | some st => s.mboxBad ld 0x4204 st
    | none =>
      ((s.modHlnk (fun h => { h with shutdown := h.shutdown.set ld.val (b2n dirty) })).prMerge 2 0 (4 + ld.val)
        [BitVec.ofNat 8 (b2n dirty)]).mboxOk ld 0x4204 [])

/-- The poisoned lines of a granule: the marks in DRAM, or of one not yet restored the bitmap of its copy (R71). -/
def Dev.poisonOf (s : Dev) (g : Nat) : List Nat :=
  let e := s.entry g
  if e.st = .unrestored || e.st = .fetching then
    match e.loc with
    | some loc => match s.unitAt loc e.xr with | some u => u.poison | none => []
    | none => []
  else s.granulePoison g

/-- Runs of consecutive numbers, as (first, length). -/
def runsOf : List Nat → List (Nat × Nat)
  | [] => []
  | a :: t =>
    match runsOf t with
    | (b, n) :: r => if b = a + 1 then (a, n + 1) :: r else (a, 1) :: (b, n) :: r
    | [] => [(a, 1)]

/-- The records of Get Poison List: runs within one granule, in ascending DPA order, of the lines from `lo` up to `hi`. -/
def Dev.poisonRuns (s : Dev) (lo hi : Nat) : List (Nat × Nat) :=
  (s.poisonGs.filter (fun g => decide (256 * g < hi) && decide (lo < 256 * (g + 1)))).flatMap (fun g =>
    runsOf (((s.poisonOf g).map (fun n => 256 * g + n)).filter (fun l => decide (lo ≤ l) && decide (l < hi))))

/-- Get Poison List, from a DPA of the LD, over a length in units of 64 bytes. -/
def getPoisonList (ld : Fin 16) (dpa : BitVec 64) (len : BitVec 64) (s : Dev) : Dev :=
  s.mbox ld 0x4300 false (fun s =>
    let first := dpa.toNat / 64
    if s.ldSize ld < 64 * (first + len.toNat) then s.mboxBad ld 0x4300 .badParam
    else
      let base := s.ldBase ld / 64
      let runs := s.poisonRuns (base + first) (base + first + len.toNat)
      let flags := b2n (decide (4094 < runs.length)) + 2 * b2n s.gmap.poisonOvf
      let out := runs.take 4094
      s.mboxOk ld 0x4300 ([BitVec.ofNat 8 flags, 0] ++ leBytes 8 (if s.gmap.poisonOvf then s.gmap.poisonOvfTime else 0) ++
        leBytes 2 out.length ++ List.replicate 20 0 ++
        out.flatMap (fun r => leBytes 8 (64 * (r.1 - base)) ++ leBytes 4 r.2 ++ List.replicate 4 0)))

/-- A line of an LD that a poison command names, or why not: the image must be usable. -/
def Dev.poisonCmd (s : Dev) (ld : Fin 16) (opcode : Nat) (dpa : BitVec 64) (act : Dpa → Dev → Dev) : Dev :=
  s.mbox ld opcode false (fun s =>
    if s.ldSize ld ≤ dpa.toNat then s.mboxBad ld opcode .badParam
    else if !s.rdy Rdy.HOSTMEM then s.mboxBad ld opcode .notReady
    else act (BitVec.ofNat 40 (s.ldBase ld + dpa.toNat / 64 * 64)) s)

/-- Inject Poison poisons the line as a poisoned RwD does; its completion is the write's acknowledgement (DEDUCED: assumption 113). -/
def injectPoison (ld : Fin 16) (dpa : BitVec 64) (damaged : Bool) (s : Dev) : Dev :=
  s.poisonCmd ld 0x4301 dpa (fun a s =>
    s.memArrive { op := .inject, ld := ld, tag := 0, dpa := a, data := 0, poison := true, seq := 0 } noErrs damaged)

/-- Clear Poison writes the line; its completion is the write's acknowledgement. -/
def clearPoison (ld : Fin 16) (dpa : BitVec 64) (data : Line) (damaged : Bool) (s : Dev) : Dev :=
  s.poisonCmd ld 0x4302 dpa (fun a s =>
    s.memArrive { op := .clear, ld := ld, tag := 0, dpa := a, data := data, poison := false, seq := 0 } noErrs damaged)

/-- A standard command that is not in Table 7-5 returns Unsupported (R170). -/
def unsupportedCommand (ld : Fin 16) (opcode : BitVec 16) (s : Dev) : Dev :=
  s.mbox ld opcode.toNat true (fun s => (s.refuse (.host ld) opcode.toNat 3 s.unsupportedSt).drew)

end Sys2Proof.Machine
end

