-- ==== Sys2Proof/Machine/Nand.lean ====
section
/-!
DEFINITION. The NAND dies at work (chapter 11): issue and completion of descriptors, suspension, lost dies and channels,
initialisation, and firmware's raw access (R406).
-/
namespace Sys2Proof.Machine

/-! ### Completion status (Table 11-5) -/

/-- The code of a completion status. -/
def nandCode : NandStatus → Nat
  | .ok _ => 0x00 | .okRetry _ _ => 0x01 | .uncorrectable => 0x10 | .metaCrc => 0x11 | .erased => 0x12
  | .programFail => 0x20 | .eraseFail => 0x21 | .withdrawn => 0x30 | .dieGone => 0x31 | .timeout => 0x40

/-- The operation passed. -/
def nandPass : NandStatus → Bool
  | .ok _ => true | .okRetry _ _ => true | _ => false

/-- The four blocks of a die that one share covers. -/
def dieBlocks (ch d block : Nat) : List Nat := (List.range 4).map (fun pl => mkLoc ch d pl block 0)

/-! ### Reads (R260, R266, R274) -/

/-- A read decoded at a level with so many bits corrected: counters, and the block is marked when the read was deep (R266). -/
def Dev.readDecoded (s : Dev) (loc level corrected : Nat) : Dev :=
  let s := if 0 < level || 0 < corrected then s.modFlsh (fun x => { x with ceReads := satAdd (2 ^ 32 - 1) x.ceReads 1 }) else s
  let s := if 0 < level then
      let s := (s.flshErr 0 loc).countReg Reg.FLSH_COUNT_RETRY 0 16 1
      let off := Reg.FLSH_CH + 4 * locCh loc
      s.setRegF off 8 4 (max (s.regF off 8 4) (min 15 level))
    else s
  if max 1 (s.regF Reg.FLSH_RETIRE 12 4) ≤ level || (0 < corrected && s.regF Reg.FLSH_RETIRE 0 10 ≤ corrected) then s.markBlock loc 4 else s

/-- What every read's status leaves. -/
def Dev.readStatus (s : Dev) (loc : Nat) (who : ReadFor) (st : NandStatus) : Dev :=
  let wants := match who with | .restore _ => true | .refetch _ => true | _ => false
  match st with
  | .ok c => s.readDecoded loc 0 c
  | .okRetry l c => s.readDecoded loc l c
  | .uncorrectable =>
    let s := s.flshErr 1 loc
    if wants then s.logStd LT.NAND_REBUILD loc (nandCode st) else s
  | .metaCrc => s.flshErr 2 loc
  | _ => s

/-! ### Firmware's raw access (R406) -/


/-- The offset of the NAND page buffer in the data RAM (Table 17-4). -/
abbrev pageBuffer : Nat := 0x38000

/-- The page buffer's bytes for one page. -/
def Dev.pageSlice (s : Dev) : List (Nat × Byte) := Memory.slice s.fram pageBuffer (min 0x8000 s.geo.pageBytes)

/-- A page of a system block holds a record or a journal page (R257). -/
def Dev.sysWritten (s : Dev) (loc : Nat) : Bool :=
  let k := 2048 * locBlock loc + locPage loc
  decide (locDie loc = 0) && decide (locPlane loc = 0) && (locCh loc = 0 || locCh loc = 8) &&
    ((decide (locBlock loc < 2) && s.flsh.records.any (fun r => r.1 = 4096 * locCh loc + k)) || s.flsh.journalPages.any (fun p => p.1 = k))

/-- The raw bytes of a page, as the buffer holds them: what firmware programmed, an erased page, or the stored codewords, whose
bytes the spec does not give; beyond byte 17,664 a page that holds a unit was written as 0xFF (R247). A page read in the other
mode than the one in which it was written gives bytes that the spec does not state. -/
def Dev.rawPage (s : Dev) (loc : Nat) (slc : Bool) : List Byte :=
  let n := min 0x8000 s.geo.pageBytes
  let page (w : Nat) : List Byte := (List.range n).map (fun i => if i < 17664 then Config.rawPageByte loc w i else 0xFF)
  match s.unitAt loc slc with
  | some u =>
    match u.payload with
    | .raw d => (List.range n).map (fun i => getD 0 i d)
    | _ => page u.wseq
  | none =>
    if slc && s.sysWritten loc then page (2 ^ 49)
    else if (s.unitAt loc (!slc)).isSome || (!slc && s.sysWritten loc) then (List.range n).map (fun i => Config.rawPageByte loc (2 ^ 48) i)
    else List.replicate n 0xFF

/-- A page that firmware programmed. -/
def rawUnit (data : List (Nat × Byte)) : NUnit :=
  { kind := 0x0F, idx := 0, gen := 0, wseq := 0, epoch := 0, poison := [], payload := .raw data, next := none, mask := 0,
    parity := 0, crossSeq := 0 }

/-- A firmware operation ends. -/
def Dev.fwNandDone (s : Dev) (op : DOp) (st : NandStatus) : Dev :=
  let s := s.fwNandEnd (nandCode st) St.ok
  match op with
  | .read loc slc _ =>
    if nandPass st || st = .uncorrectable || st = .metaCrc || st = .erased then
      { s with fram := Memory.writeBytes 0 s.fram pageBuffer (s.rawPage loc slc) }
    else s
  | .fwProgram loc slc data =>
    if nandPass st then
      s.modFlsh (fun x => { x with units := insertK (unitKey loc slc) (rawUnit data) x.units })
    else if st = .programFail then
      ((s.flshErr 3 loc).logStd LT.NAND_PROG_FAIL loc (nandCode st)).markBlock loc 2
    else s
  | .fwErase loc =>
    if nandPass st then
      s.modFlsh (fun x => { x with
        units := x.units.filter (fun p => locPos (p.1 % 2 ^ 32) ≠ locPos loc), blockErase := eraseK (locPos loc) x.blockErase })
    else if st = .eraseFail then
      ((s.flshErr 4 loc).logStd LT.NAND_ERASE_FAIL loc (nandCode st)).markBlock loc 3
    else s
  | _ => s

/-- A block is a spare-pool block with no block-table entry (BH02): it serves no position, and is itself no position. -/
def Dev.freeSpare (s : Dev) (loc : Nat) : Bool :=
  s.isSpare (locPos loc) && (lookupK (locPos loc) s.flsh.blockTable).isNone &&
    !s.flsh.blockTable.any (fun e => e.1 % 512 = loc % 512 && decide (e.2.1 = locBlock loc))

/-- A write of CORE_FW_NAND_CMD with GO: READ reaches NAND always, PROGRAM and ERASE only under BH02. -/
def fwNand (src : Src) (val : Word) (op : Nat) (s : Dev) : Dev :=
  s.guarded src Reg.CORE_FW_NAND_CMD (fun s =>
    if s.regF Reg.CORE_FW_NAND_CMD 3 1 = 1 then s
    else
      let s := s.setRegF Reg.CORE_FW_NAND_CMD 0 3 (op + 4 * bitsOf val.toNat 2 1)
      let loc := s.regN Reg.CORE_FW_NAND_LOC
      let slc := val.getLsbD 2
      let pc := match src with | .firmware pc => pc | .port _ => 0
      if op ≠ 1 && !(s.core.mode = .maintenance && s.freeSpare loc) then
        let s := if s.isXr (locBlock loc) then s.latch Reg.XING_ERR 7 else s
        (s.bulkhead 2 3 .bulkhead loc pc).fwNandEnd 0xFF .bulkhead
      else if s.flsh.st < 2 then s.fwNandEnd 0xFF .notReady
      else if !s.dieWorks (locCh loc) (locDie loc) then s.fwNandEnd 0x31 .ok
      else
        let x : DOp := if op = 1 then .read loc slc .firmware else if op = 2 then .fwProgram loc slc s.pageSlice else .fwErase loc
        (s.setRegF Reg.CORE_FW_NAND_CMD 3 1 1).pushDesc (locCh loc) (locDie loc) { op := x, prio := 8 })

/-! ### Programs (R253, R267) -/

/-- A group's program has ended on every member. -/
def Dev.groupEnded (s : Dev) (g : Group) : Dev × List (Nat × Nat × Desc) :=
  let s := s.modFlsh (fun x => { x with groups := x.groups.filter (fun y => y.id ≠ g.id) })
  let s := (s.fillers g).foldl Dev.putUnit s
  let s := if g.failed.isEmpty then s
    else s.expose (fun u => locBlock (u.1 % 2 ^ 32) = g.block && locDie u.1 = g.row && (groupPages g.stream g.page).contains (locPage (u.1 % 2 ^ 32)))
  let one (s : Dev) (id : Nat) : Dev :=
    match s.copy? id with
    | none => s
    | some c =>
      if g.failed.contains (locCh (c.loc.getD 0)) then (if c.cls.isX then s.crossFailed c else s.ferryFailed c)
      else if c.cls.isX then s.crossDone c (s.unitOf c g) else s.ferryDone c (s.unitOf c g)
  ((g.copies.foldl one s).frontLow, [])

/-- One share of a group ends. -/
def Dev.shareEnd (s : Dev) (ch d id : Nat) (st : NandStatus) : Dev × List (Nat × Nat × Desc) :=
  match s.flsh.groups.find? (fun g => g.id = id) with
  | none => (s, [])
  | some g =>
    let page := (groupPages g.stream g.page).headD 0
    let loc := mkLoc ch d 0 g.block page
    let g := { g with left := g.left.erase ch, failed := if nandPass st then g.failed else g.failed ++ [ch] }
    let s := s.modFlsh (fun x => { x with groups := x.groups.map (fun y => if y.id = id then g else y) })
    let s := if st = .programFail then
        (dieBlocks ch d g.block).foldl (fun s b => s.markBlock b 2) ((s.flshErr 3 loc).logStd LT.NAND_PROG_FAIL loc (nandCode st))
      else s
    let (s, gone) := if !nandPass st && st ≠ .dieGone && g.stream ≠ 0 then s.crossDieFail ch d else (s, [])
    let gone := gone.map (fun x => (ch, d, x))
    if g.left.isEmpty then
      let (s, more) := s.groupEnded g
      (s, gone ++ more)
    else (s, gone)

/-- An erase fails: recorded, and its blocks are marked (R266, R274). -/
def Dev.eraseFailed (s : Dev) (loc : Nat) (blocks : List Nat) (st : NandStatus) : Dev :=
  if st = .eraseFail then
    blocks.foldl (fun s b => s.markBlock b 3) ((s.flshErr 4 loc).logStd LT.NAND_ERASE_FAIL loc (nandCode st))
  else s

/-- One erase of a row ends (R263). -/
def Dev.eraseEnd (s : Dev) (ch d k : Nat) (st : NandStatus) : Dev :=
  (s.eraseFailed (mkLoc ch d 0 (k / 8) 0) (dieBlocks ch d (k / 8)) st).rowShareErased ch d k (nandPass st) (decide (st = .dieGone))

/-- The erase of a single block ends; a system block that is marked retires now that it holds no page. -/
def Dev.eraseOneEnd (s : Dev) (a : Nat) (st : NandStatus) : Dev :=
  ((s.eraseFailed a [a] st).blockErased a (nandPass st) (decide (st = .dieGone))).retireIdle

/-- A program of a system block fails (R266, R274). -/
def Dev.sysProgFailed (s : Dev) (ch blk page : Nat) (st : NandStatus) : Dev :=
  let loc := mkLoc ch 0 0 blk page
  if st = .programFail then ((s.flshErr 3 loc).logStd LT.NAND_PROG_FAIL loc (nandCode st)).markBlock loc 2 else s

/-- One program of a journal page ends; a CKPT entry that comes into force commits its checkpoint (R255), and the session
record may follow (R143). -/
def Dev.journalEnd (s : Dev) (ch : Nat) (st : NandStatus) : Dev :=
  let (s, cks) := (s.sysProgFailed ch s.flsh.journalBlock s.flsh.journalPage st).journalDone (nandPass st)
  (cks.foldl (fun s e => (s.ckptCommit e.2).sessionAsk) s).journalStep

/-- One program of a record ends: the copy stands in NAND where it passed, and the record's two copies are judged when both have
ended. -/
def Dev.recordEnd (s : Dev) (ch : Nat) (commit second : Bool) (st : NandStatus) : Dev :=
  match s.fery.copies.find? (fun c => c.cls = (if commit then .commitRec else .opening) && c.idx = b2n second) with
  | some c => (s.sysProgFailed ch s.flsh.recordBlock s.flsh.recordPage st).recordCopy c (nandPass st)
  | none => s

/-- A read of a peer for the redundancy rebuild ends (R261, R270): with the last, the unit is rebuilt, or its stripe is
unrebuildable. -/
def Dev.rebuildPeerEnd (s : Dev) (k : Nat) (st : NandStatus) : Dev :=
  match lookupK k s.flsh.rebuilds with
  | none => s
  | some (n, ok) =>
    let ok := ok && nandPass st
    if 1 < n then s.modFlsh (fun x => { x with rebuilds := insertK k (n - 1, ok) x.rebuilds })
    else
      let s := s.modFlsh (fun x => { x with rebuilds := eraseK k x.rebuilds, rebuilt := insertN k x.rebuilt })
      if ok then s.countReg Reg.FLSH_COUNT_RETRY 16 16 1 else s

/-- A descriptor ends with a status: its requester is told. Descriptors of dies that this loses are handed back. -/
def Dev.descEnd (s : Dev) (ch d : Nat) (x : Desc) (st : NandStatus) : Dev × List (Nat × Nat × Desc) :=
  match x.op with
  | .read loc _ who =>
    let s := s.readStatus loc who st
    match who with
    | .restore g => (s.restoreReadEnd g st, [])
    | .restorePeer g => (s.restorePeerEnd g st, [])
    | .refetch g => (s.refetchReadEnd g st, [])
    | .refetchPeer g => (s.refetchPeerEnd g st, [])
    | .rebuild k => (s.rebuildPeerEnd k st, [])
    | .firmware => (s.fwNandDone x.op st, [])
  | .program id => s.shareEnd ch d id st
  | .erase k => (s.eraseEnd ch d k st, [])
  | .eraseOne a => (s.eraseOneEnd a st, [])
  | .journal _ => (s.journalEnd ch st, [])
  | .record commit second =>
    let (s, gone) := if !nandPass st && st ≠ .dieGone && s.crossing then s.crossDieFail ch d else (s, [])
    (s.recordEnd ch commit second st, gone.map (fun y => (ch, d, y)))
  | .feature => (s, [])
  | .fwProgram _ _ _ => (s.fwNandDone x.op st, [])
  | .fwErase _ => (s.fwNandDone x.op st, [])

/-- Complete a list of descriptors DIE_GONE (R270). -/
def Dev.goneAll : Nat → List (Nat × Nat × Desc) → Dev → Dev
  | 0, _, s => s
  | _, [], s => s
  | n + 1, (ch, d, x) :: t, s =>
    let (s, more) := s.descEnd ch d x .dieGone
    Dev.goneAll n (t ++ more) s

/-- How many descriptors one loss can return: every queue's entries, and what their completions lose in turn. -/
abbrev goneFuel : Nat := 8192

/-! ### Lost dies and channels (R270, Table 5-8) -/

/-- The controller is FAILED when too few channels have a working die in some die row (R271). -/
def Dev.flshCheck (s : Dev) : Dev := if s.flsh.st = 2 && s.flshFailed then s.modFlsh (fun x => { x with st := 3 }) else s

/-- A channel is lost; during a crossing it is also excluded from it (Table 5-8). -/
def Dev.dropChannel (s : Dev) (ch status : Nat) : Dev :=
  if s.flsh.chLost.contains ch then s
  else
    let gone := (List.range 8).flatMap (fun d => (s.dieDescs ch d).map (fun x => (ch, d, x)))
    let (s, _) := s.loseChannel ch status
    let s := if s.core.mode = .save then
        (s.modXing (fun x => { x with channelLost := true, lostChannel := ch })).latch Reg.XING_ERR 2 else s
    (Dev.goneAll goneFuel gone s).flshCheck.evalAgain

/-- Two dies of a channel lost within 1 ms lose the channel (R270). -/
def Dev.twoLost (s : Dev) (ch status : Nat) : Dev :=
  let recent := (List.range 8).countP (fun i => (s.die ch i).st = .lost && decide (s.ticks ≤ (s.die ch i).lostAt + 25000))
  if 2 ≤ recent then s.dropChannel ch status else s

/-- A die is lost. -/
def Dev.dropDie (s : Dev) (ch d status : Nat) : Dev :=
  let (s, gone) := s.loseDie ch d status
  ((Dev.goneAll goneFuel (gone.map (fun x => (ch, d, x))) s).flshCheck.evalAgain).twoLost ch status

/-- What R270 counts on a die: time-outs in a row, and blocks that failed within 1 s. -/
def Dev.dieCounts (s : Dev) (ch d : Nat) (x : Desc) (st : NandStatus) : Dev :=
  let block : Option Nat :=
    match x.op with
    | .program id => (s.flsh.groups.find? (fun g => g.id = id)).map (fun g => g.block)
    | .erase k => some (k / 8)
    | .eraseOne a => some (locBlock a)
    | .journal _ => some s.flsh.journalBlock
    | .record _ _ => some s.flsh.recordBlock
    | .feature => none
    | .fwProgram loc _ _ => some (locBlock loc)
    | .fwErase loc => some (locBlock loc)
    | .read _ _ _ => none
  s.modDie ch d (fun c =>
    let fails := c.fails.filter (fun p => decide (s.ticks ≤ p.2 + 25000000))
    { c with
      timeouts := if st = .timeout then c.timeouts + 1 else 0
      fails := if st = .programFail || st = .eraseFail then
          match block with | some b => fails.filter (fun p => p.1 ≠ b) ++ [(b, s.ticks)] | none => fails
        else fails })

/-! ### Issue, completion and suspension (R259, R262, Table 11-7) -/

/-- A demand read: a read at the first place of R130. -/
def Desc.demand (x : Desc) : Bool := match x.op with | .read _ _ _ => x.prio = 0 | _ => false

/-! ### Shares of program time (R87, R94) -/

/-- The share of background ferry, in per cent (Table 4-3). -/
def Dev.bgShare (s : Dev) : Nat :=
  if s.urgent then 100 else if s.fery.stage = 0 then s.regF Reg.FERY_SHARE 0 8 else s.regF Reg.FERY_SHARE 8 8

/-- The share of folds: FERY_SHARE.FOLD, and the background share while BIND reads region (R94). -/
def Dev.foldShare (s : Dev) : Nat := if s.fery.bind = 2 then s.bgShare else s.regF Reg.FERY_SHARE 16 8

/-- The share of relocation (R267, R268): FLSH_GC.URGENT_SHARE while an image die row has no erased block row or live units stand
exposed, else SHARE. -/
def Dev.relocShare (s : Dev) : Nat :=
  if !s.flsh.exposed.isEmpty || (List.range s.geo.diesPerCh).any (fun d => s.erasedImgRows d = 0) then s.regF Reg.FLSH_GC 16 8
  else s.regF Reg.FLSH_GC 8 8

/-- Program time that background ferry, folds and relocation have been charged on a channel in the present window of 1 ms (R87,
R94, R268). -/
def Dev.progUsedNow (s : Dev) (ch : Nat) : Nat × Nat × Nat :=
  if s.flsh.progWin = s.ticks / 25000 then getD (0, 0, 0) ch s.flsh.progUsed else (0, 0, 0)

/-- Program time of a channel in a window: that of its working dies. DEDUCED: assumption 100. -/
def Dev.progTime (s : Dev) (ch : Nat) : Nat := 25000 * (List.range 8).countP (fun d => s.dieWorks ch d)

/-- The arbiter lets a descriptor use program time: at urgent priority background ferry has what the classes above it leave, and
below it the programs of background ferry and of folds stop at their shares. -/
def Dev.shareFree (s : Dev) (ch : Nat) (x : Desc) : Bool :=
  let u := s.progUsedNow ch
  match x.op with
  | .program _ =>
    if x.prio = 5 then s.urgent || decide (100 * u.1 < s.bgShare * s.progTime ch)
    else if x.prio = 6 then decide (100 * u.2.1 < s.foldShare * s.progTime ch)
    else if x.prio = 7 then decide (100 * u.2.2 < s.relocShare * s.progTime ch)
    else true
  | _ => true

/-- A program that starts is charged its profile's program time, where it is background ferry's, a fold's or a relocation's. -/
def Dev.chargeProg (s : Dev) (ch : Nat) (x : Desc) : Dev :=
  let t := 25 * s.geo.tprogTlcUs
  let (b, f, r) := s.progUsedNow ch
  let used := if s.flsh.progWin = s.ticks / 25000 then s.flsh.progUsed else []
  match x.op with
  | .program _ =>
    if x.prio = 5 || x.prio = 6 || x.prio = 7 then
      s.modFlsh (fun y => { y with
        progWin := s.ticks / 25000
        progUsed := insertK ch (if x.prio = 5 then (b + t, f, r) else if x.prio = 6 then (b, f + t, r) else (b, f, r + t)) used })
    else s
  | _ => s

/-- A program takes its data from the staging slots of the copies of its group on the channel (R82, R84). -/
def Dev.readStaging (s : Dev) (ch : Nat) (x : Desc) : Dev :=
  match x.op with
  | .program id =>
    match s.flsh.groups.find? (fun g => g.id = id) with
    | some g => ((g.copies.filterMap s.copy?).filter (fun c => locCh (c.loc.getD 0) = ch)).foldl
        (fun s c => s.enqueueUnit (s.stagingAt c.slot) false c.cls.who) s
    | none => s
  | _ => s

/-- A descriptor starts on its die. -/
def Dev.startDesc (s : Dev) (ch d : Nat) (x : Desc) (st : DieState) : Dev :=
  let s := s.modDie ch d (fun c => { c with st := st, cur := some x, queue := c.queue.erase x, resumed := none })
  ((s.chargeProg ch x).readStaging ch x).admitDescs

/-- A die takes the first descriptor of its queue that the shares let run: when idle, or for a demand read at its head while it
has an operation suspended. -/
def nandOpIssue (ch d : Nat) (s : Dev) : Dev :=
  let c := s.die ch d
  if c.st = .idle then
    match c.queue.find? (s.shareFree ch) with
    | some x => s.startDesc ch d x .busy
    | none => s
  else
    match c.queue with
    | [] => s
    | x :: _ => if c.st = .suspended && c.cur.isNone && x.demand then s.startDesc ch d x .suspended else s

/-- After an operation: a suspended one resumes when no demand read waits for the die (R138). -/
def Dev.dieNext (s : Dev) (ch d : Nat) : Dev :=
  let c := s.die ch d
  match c.st with
  | .busy => if c.cur.isNone then s.modDie ch d (fun c => { c with st := .idle }) else s
  | .suspended =>
    if c.cur.isNone && !(match c.queue with | x :: _ => x.demand | [] => false) then
      s.modDie ch d (fun c => { c with st := .busy, cur := c.susp, susp := none, resumed := some s.ticks })
    else s
  | _ => s

/-- A status that an operation in progress may end with. WITHDRAWN (Table 11-5) names one that never started; a read decodes at a
retry level of the profile (R260). -/
def Dev.mayEnd (s : Dev) (st : NandStatus) : Bool :=
  match st with
  | .withdrawn => false
  | .okRetry l _ => decide (1 ≤ l) && decide (l ≤ s.geo.retryLevels)
  | _ => true

/-- A die operation ends and posts its status. -/
def nandOpComplete (ch d : Nat) (st : NandStatus) (s : Dev) : Dev :=
  match (s.die ch d).cur with
  | none => s
  | some x =>
    if !s.mayEnd st || (s.die ch d).st = .init then s
    else
      let s := s.dieCounts ch d x st
      let s := s.modDie ch d (fun c => { c with cur := none })
      let s := if st = .timeout then s.latch Reg.FLSH_ERR 8 else s
      let (s, gone) := s.descEnd ch d x st
      let s := Dev.goneAll goneFuel gone s
      let c := s.die ch d
      let s := if c.works && (decide (2 ≤ c.timeouts) || decide (4 ≤ c.fails.length)) then s.dropDie ch d (nandCode st) else s
      (s.dieNext ch d).evalAgain

/-- The operation of a die has run for FLSH_SUSPEND.MIN_RUN_US since its last resume (R262). -/
def Dev.minRun (s : Dev) (c : DieSt) : Bool :=
  match c.resumed with
  | none => true
  | some t => decide (t + 25 * s.regF Reg.FLSH_SUSPEND 0 8 ≤ s.ticks)

/-- A demand read at the head of a busy die's queue suspends its erase, or its program where the profile allows (R138, R262). -/
def nandSuspend (ch d : Nat) (s : Dev) : Dev :=
  let c := s.die ch d
  match c.st, c.cur, c.queue with
  | .busy, some x, y :: _ =>
    let may : Bool := match x.op with
      | .erase _ => true
      | .eraseOne _ => true
      | .fwErase _ => true
      | .program _ => s.geo.progSuspend
      | _ => false
    if !may || !y.demand || !s.minRun c then s
    else
      let s := s.modDie ch d (fun c => { c with st := .suspended, susp := some x, cur := none })
      let s := s.wrapReg Reg.FLSH_SUSPEND 16 16 1
      let landing : Bool := match y.op with
        | .read _ _ (.restore _) => true
        | .read _ _ (.restorePeer _) => true
        | _ => false
      if landing then s.wrapReg Reg.XING_LAND_SUSPENDS 0 32 1 else s
  | _, _, _ => s

/-! ### Initialisation (R271, R272) and power-down -/

/-- READY_RAILS sets: every die of the profile is reset and checked (Table 11-7). -/
def Dev.flshStart (s : Dev) : Dev :=
  match s.charter with
  | none => s
  | some c =>
    if s.flsh.st ≠ 0 then s
    else
      let dies := (List.range 128).map (fun n =>
        if n % 8 < c.profile.diesPerCh then { DieSt.reset with st := .init, cur := some { op := .feature, prio := 0 } } else DieSt.reset)
      s.modFlsh (fun x => { x with st := 1, prof := some c.profile, dies := dies, chLost := [] })

/-- The checks of one die end: what READ ID and the parameter page gave, none for no answer; whether PHY training passed; and at
first start the positions of the die's factory bad blocks, from their markers (R265). First start is taken as a block table that
has never been written. DEDUCED: assumption 104. -/
def nandDieCheckEnd (ch d : Nat) (id : Option Bytes) (phy : Bool) (bad : List (Fin 4 × Fin 4096)) (s : Dev) : Dev :=
  if (s.die ch d).st ≠ .init || s.flsh.chLost.contains ch then s
  else
    let s := s.modDie ch d (fun c => { c with cur := none })
    match id with
    | none => s.dropDie ch d 0x31
    | some b =>
      if b ≠ s.geo.idMatch then
        let loc := mkLoc ch d 0 0 0
        let s := s.modDie ch d (fun _ => { DieSt.reset with st := .lost, lostAt := s.ticks })
        ((((s.latch Reg.FLSH_ERR 9).latch Reg.FLSH_ERR 6).logStd LT.NAND_PROFILE_MISMATCH loc 0x31).expose
          (fun u => locDie u.1 = d && u.2.mask.testBit ch)).twoLost ch 0x31
      else if !phy then s.dropChannel ch 0x31
      else
        let s := s.modDie ch d (fun c => { c with st := .idle })
        if s.flsh.factoryDone then s
        else s.factoryBlocks ((bad.filter (fun b => decide (b.2.val < s.geo.blocks))).map (fun b => mkLoc ch d b.1.val b.2.val 0))

/-- Undefined blocks are recorded (R263, R264). -/
def Dev.logUndefined (s : Dev) (k : Nat) : Dev :=
  (s.rowBlocks k).foldl (fun s a => (s.latch Reg.FLSH_ERR 10).logStd LT.NAND_UNDEFINED a 0) s

/-- A block row in which a wordline was interrupted is closed, with its CLOSED entries (R264). -/
def Dev.closeRow (s : Dev) (k : Nat) : Dev :=
  let s := s.modRow k (fun r => { r with st := .closed })
  (s.logUndefined k).modFlsh (fun x => { x with journalNext := x.journalNext ++ (s.rowBlocks k).map (fun a => (3, a)) })

/-- READY_NAND: the journal and the record blocks have been scanned (Table 11-8). -/
def readyNand (s : Dev) : Dev :=
  if s.flsh.st ≠ 1 || s.flsh.dies.any (fun c => c.st = .init) then s
  else if s.flshFailed then (s.modFlsh (fun x => { x with st := 3 })).evalAgain
  else
    let undef := (s.flsh.rows.filter (fun p => p.2.st = .undefinedRow)).map (fun p => p.1)
    let s := undef.foldl Dev.logUndefined s
    let cut := (s.flsh.cut.map (fun c => rowKey (c / 2 ^ 14) (bitsOf c 11 3))).eraseDups
    let s := cut.foldl Dev.closeRow s
    let xr := (s.flsh.rows.filter (fun p => s.isXr (p.1 / 8) && p.2.st = .opened)).map (fun p => p.1)
    let s := xr.foldl (fun s k => s.modRow k (fun r => { r with st := .closed })) s
    let s := (s.flsh.blockErase.filter (fun p => p.2.2)).foldl
      (fun s p => (s.latch Reg.FLSH_ERR 10).logStd LT.NAND_UNDEFINED p.1 0) s
    let s := s.modFlsh (fun x => { x with st := 2, cut := [], factoryDone := true })
    ((s.endurance.setReady Rdy.NAND).journalStep).evalAgain

/-- A row as power-down leaves it: an erase whose intent is in the journal and whose end is not leaves it undefined. -/
def Dev.rowAtOff (s : Dev) (p : Nat × Row) : Nat × Row :=
  if p.2.st = .erasing then
    let held := s.journal.any (fun j => j.1 = 1 && rowKey (locBlock j.2) (locDie j.2) = p.1)
    (p.1, { p.2 with st := if held then .undefinedRow else .closed, left := [] })
  else p

/-- Single blocks as power-down leaves them: those with an open intent, and those that were undefined, are undefined. -/
def Dev.blocksAtOff (s : Dev) : List (Nat × (Bool × Bool)) :=
  (s.flsh.blockErase.filter (fun p => p.2.2 || s.journal.contains (1, p.1))).map (fun p => (p.1, (false, true)))

/-- The allocation of listed groups goes back to what the committed checkpoint lists. -/
def rewind (alloc : List (Nat × (Nat × Nat))) (pend : List Nat) : List (Nat × (Nat × Nat)) :=
  pend.reverse.foldl (fun a c => insertK (bitsOf c 11 3) (c / 2 ^ 14, bitsOf c 0 11) a) alloc

/-- The record and the journal page under way as power-down leaves them: a journal page of which a copy has passed is in NAND, and
a page whose program has begun is not free. -/
def Dev.sysAtOff (s : Dev) : Dev :=
  let runs (p : DOp → Bool) : Bool := s.flsh.dies.any (fun d => (d.cur.toList ++ d.susp.toList).any (fun x => p x.op))
  let rec_ : Bool := runs (fun o => match o with | .record _ _ => true | _ => false) ||
    [0, 8].any (fun c => (lookupK (4096 * c + 2048 * s.flsh.recordBlock + s.flsh.recordPage) s.flsh.records).isSome)
  let jour : Bool := runs (fun o => match o with | .journal _ => true | _ => false) || (s.flsh.journalBusy && s.flsh.journalOk)
  s.modFlsh (fun x => { x with
    recordPage := if rec_ then x.recordPage + 1 else x.recordPage
    journalPages := if x.journalBusy && x.journalOk then
        x.journalPages ++ [(2048 * x.journalBlock + x.journalPage, x.journalFly)] else x.journalPages
    journalPage := if jour then x.journalPage + 1 else x.journalPage })

/-- Power goes from the NAND: dies OFF; groups cut off while programming are interrupted, the others return to the frontier. -/
def Dev.flshOff (s : Dev) : Dev :=
  let s := s.sysAtOff
  let img := s.flsh.groups.filter (fun g => g.stream = 0)
  let cut := (img.filter s.groupBegun).map (fun g => frontCode g.block g.row g.page)
  let back := (img.filter (fun g => !s.groupBegun g)).map (fun g => frontCode g.block g.row g.page)
  let s := if s.regF Reg.CORE_FW_NAND_CMD 3 1 = 1 then s.fwNandEnd 0x31 .ok else s
  (s.modFlsh (fun x => { x with
    st := 0, prof := none, dies := x.dies.map (fun _ => DieSt.reset), groups := []
    cut := x.cut ++ cut, frontier := back ++ x.frontier, frontWritten := x.frontWritten.filter (fun c => !back.contains c)
    imgAlloc := rewind x.imgAlloc x.frontPend, frontPend := [], xpos := [], rows := x.rows.map s.rowAtOff
    blockErase := s.blocksAtOff, rebuilds := [], rebuilt := [], waitQ := []
    journalNext := [], journalFly := [], journalBusy := false, journalLeft := 0, journalOk := false, commitWait := [] })).clrReady
      Rdy.NAND

end Sys2Proof.Machine
end

