-- ==== Sys2Proof/Machine/Twb.lean ====
section
/-!
DEFINITION. The two-wire ports (chapter 16): the port states of Table 16-3, PM transfers and their retries, firmware
transfers, Host Notify, and the sideband commands that need no register and no KX_ command.
-/
namespace Sys2Proof.Machine

/-- A port's state. -/
def Dev.port (s : Dev) (n : Nat) : TwbPort := s.twb.ports.getD n TwbPort.reset

/-- Change TWB's state. -/
def Dev.modTwbSt (s : Dev) (f : TwbSt → TwbSt) : Dev := { s with twb := f s.twb }

/-- The register of a port at an offset within its bank (R392). -/
abbrev twbReg (n off : Nat) : Nat := 0xD0000 + 0x100 * n + off

/-- An event of an ERR bit: the bit latches and COUNT.ERRORS rises. -/
def Dev.twbErr (s : Dev) (n bit : Nat) : Dev := (s.latch (twbReg n 8) bit).countReg (twbReg n 0xC) 16 16 1

/-- A message or transfer completed. -/
def Dev.twbCount (s : Dev) (n : Nat) : Dev := s.wrapReg (twbReg n 0xC) 0 16 1

/-- TWB_x_LAST. -/
def Dev.twbLast (s : Dev) (n st code peer : Nat) : Dev :=
  s.modTwb n (fun t => { t with lastStatus := st, lastCode := code, lastPeer := peer })

/-- An error record (Table 18-4): port and peer, and the ST_ code. -/
def Dev.twbLog (s : Dev) (ty n peer : Nat) (st : St) : Dev := s.logStd ty (n + 256 * peer) st.code

/-- The device table in force. -/
def Dev.twbDevs (s : Dev) : List TwbDev := match s.charter with | some c => c.twb | none => []

/-! ### Starting and stopping a port (Table 16-3, R376) -/

/-- Load a port's SELF entry. -/
def Dev.twbSelf (s : Dev) (n : Nat) : Dev :=
  match s.twbDevs.find? (fun d => d.port = n && d.self) with
  | some d => s.modTwb n (fun t => { t with addr := d.addr, speed := d.speed, pecReq := d.pec })
  | none => s

/-- READY_AON: SB and PM start, and SV where it is live. -/
def Dev.twbStart (s : Dev) : Dev :=
  (List.range 3).foldl (fun s n =>
    if n = 2 && !s.twb.svLive then s
    else (s.modTwb n (fun t => { t with st := 1, scl := true, sda := true })).twbSelf n) s

/-- The charter load ends: the SELF entries that it holds are in force. -/
def Dev.twbCharter (s : Dev) : Dev := (List.range 3).foldl (fun s n => if n = 2 && !s.twb.svLive then s else s.twbSelf n) s

/-- YARD_EN is sampled (R376). -/
def Dev.twbSample (s : Dev) (yardEn : Bool) : Dev := s.modTwbSt (fun t => { t with svLive := yardEn })

/-- RESET_FULL: YARD_EN is sampled again, and SV follows it (R376). -/
def Dev.twbResample (s : Dev) : Dev :=
  let s := s.twbSample s.pins.yardEn
  if !s.twb.svLive then s.modTwb 2 (fun _ => TwbPort.reset)
  else if (s.port 2).st = 0 then (s.modTwb 2 (fun t => { t with st := 1, scl := true, sda := true })).twbSelf 2
  else s

/-- YARD_EN has stayed low for 1 ms: SV ends its message and is off until the next sample (R376). -/
def yardEnLow (s : Dev) : Dev :=
  if s.twb.svLive then
    ((s.modTwb 2 (fun t => { t with st := 0, scl := true, sda := true })).modTwbSt (fun t => { t with svLive := false }))
  else s

/-! ### The PM controller (R377 to R379) -/

/-- The peer address and register of a PM transfer. -/
def Dev.pmTarget (s : Dev) : PmXfer → Nat × Nat
  | .firmware => (s.regF Reg.TWB_XFER_CTL 0 7, s.regF Reg.TWB_XFER_CTL 8 8)
  | .unit w _ =>
    match w with
    | .enable n => ((s.railRec n).pmAddr, (s.railRec n).enReg)
    | .disable n => ((s.railRec n).pmAddr, (s.railRec n).enReg)
    | .setv n => ((s.railRec n).pmAddr, (s.railRec n).voutReg)
    | .margin n => ((s.railRec n).pmAddr, (s.railRec n).voutReg)
    | .avs => match s.avsRail with | some n => ((s.railRec n).pmAddr, (s.railRec n).voutReg) | none => (0, 0)
    | .charger _ => match s.charter with
      | some c => match c.batt with | some b => (b.chgAddr, b.chgEnReg) | none => (0, 0)
      | none => (0, 0)

/-- A transfer of the sequencer is retried (R377). -/
def PmFor.retried : PmFor → Bool
  | .avs => false
  | .charger _ => false
  | _ => true

/-- Bytes received, or sent, in TWB_XFER_DATA: one register of it. -/
def wordOf (bs : Bytes) (k old : Nat) : Nat :=
  (List.range 4).foldl (fun v i =>
    match bs[4 * k + i]? with
    | some b => v - fieldAt (8 * i) 8 (bitsOf v (8 * i) 8) + fieldAt (8 * i) 8 b.toNat
    | none => v) old

/-- The requester of a transfer learns how it ended (R377, R368, TWB_XFER_STATUS). -/
def Dev.pmEnd (s : Dev) (x : PmXfer) (st : St) (data : Bytes) : Dev :=
  match x with
  | .firmware =>
    let s := s.modTwbSt (fun t => { t with xferGo := false, xferStatus := st.code })
    if st = .ok && s.regF Reg.TWB_XFER_CTL 7 1 = 1 then
      (List.range 8).foldl (fun s k => s.setRegN (Reg.TWB_XFER_DATA + 4 * k)
        (wordOf (data.take (s.regF Reg.TWB_XFER_CTL 16 6)) k (s.regN (Reg.TWB_XFER_DATA + 4 * k)))) s
    else s
  | .unit (.charger on) _ => s.chargerDone on (decide (st = St.ok)) st.code
  | .unit w _ => s.pmDone w (decide (st = St.ok))

/-- The running transfer ends: it leaves the queue; one of the sequencer that failed with a timeout, a missing acknowledge or
a wrong PEC is retried twice (R377). -/
def Dev.pmFinish (s : Dev) (st : St) (data : Bytes) : Dev :=
  match s.twb.pm with
  | [] => s
  | x :: rest =>
    let (peer, code) := s.pmTarget x
    let s := s.modTwbSt (fun t => { t with pm := rest })
    let s := s.modTwb 1 (fun t => { t with st := if t.st = 2 then 1 else t.st })
    let s := s.twbLast 1 st.code code peer
    let s := if st = .ok then s.twbCount 1 else s
    let again : Bool := match x with
      | .unit w k => w.retried && decide (k < 2) && (st = .twbTimeout || st = .twbNack || st = .twbPec)
      | .firmware => false
    match x with
    | .unit w k => if again then s.modTwbSt (fun t => { t with pmRetry := t.pmRetry ++ [.unit w (k + 1)] }) else s.pmEnd x st data
    | .firmware => s.pmEnd x st data

/-- Every transfer that waits completes at once on a FAILED bus (R378). -/
def Dev.pmFailAll : Nat → Dev → Dev
  | 0, s => s
  | k + 1, s => if s.twb.pm.isEmpty then s else Dev.pmFailAll k (s.pmFinish .twbBusFailed [])

/-- The controller starts on the transfer at the head of its queue. -/
def Dev.pmKick (s : Dev) : Dev :=
  if s.twb.pm.isEmpty then s
  else if (s.port 1).st = 5 then Dev.pmFailAll (s.twb.pm.length + 64) s
  else if (s.port 1).st = 1 then s.modTwb 1 (fun t => { t with st := 2 })
  else s

/-- SDA stays low past nine clocks: the bus is FAILED (R378). -/
def Dev.busStuck (s : Dev) (n peer : Nat) : Dev :=
  ((s.modTwb n (fun t => { t with st := 5, sda := false })).twbErr n 6).twbLog LT.TWB_BUS_STUCK n peer .twbBusFailed

/-- A controller transfer on PM completes (R377 to R379, Table 16-6). -/
def Dev.transferDone (s : Dev) (e : XferEnd) (data : Bytes) : Dev :=
  if (s.port 1).st ≠ 2 then s
  else
    let peer := match s.twb.pm with | x :: _ => (s.pmTarget x).1 | [] => 0
    match e with
    | .ok => s.pmFinish .ok data
    | .nack => (s.twbErr 1 2).pmFinish .twbNack []
    | .pec => (s.twbErr 1 1).pmFinish .twbPec []
    | .arbLost => (s.twbErr 1 5).pmFinish .twbArbLost []
    | .stuck => (s.busStuck 1 peer).pmFinish .twbBusFailed []

/-- A target stretches past the tolerance (R377): `sda` tells whether SDA then reads low, and whether the bus then clears. -/
def Dev.stretchTimeout (s : Dev) (sda : Option Bool) : Dev :=
  if (s.port 1).st ≠ 2 then s
  else
    let peer := match s.twb.pm with | x :: _ => (s.pmTarget x).1 | [] => 0
    let s := (s.twbErr 1 3).twbLog LT.TWB_TIMEOUT 1 peer .twbTimeout
    let s := s.pmFinish .twbTimeout []
    if sda = some false then s.busStuck 1 peer else s

/-- 100 µs after a failed transfer of the sequencer it is retried (R377). -/
def pmRetry (s : Dev) : Dev :=
  match s.twb.pmRetry with
  | x :: rest =>
    let s := s.modTwbSt (fun t => { t with pmRetry := rest, pm := t.pm ++ [x] })
    (if (s.port 1).st = 1 then s.modTwb 1 (fun t => { t with st := 2 }) else s)
  | [] => s

/-- Both lines have been high for 100 ms: the port leaves FAILED (R378). -/
def busFailedRecover (p : Fin 3) (s : Dev) : Dev :=
  if (s.port p.val).st = 5 then
    ((s.modTwb p.val (fun t => { t with st := 1, scl := true, sda := true })).twbLog LT.TWB_BUS_RECOVERED p.val 0 .ok)
  else s

/-! ### Firmware transfers (R375, R405, BH03, BH07) -/

/-- The code is an enable or output register of a rail, or the charger's enable or current register (BH03). -/
def Dev.bh03 (s : Dev) (addr code : Nat) : Bool :=
  s.railRecs.any (fun r => r.populated && r.pm && r.pmAddr = addr && (r.enReg = code || (r.vtrim && r.voutReg = code))) ||
    (match s.charter with
     | some c => match c.batt with | some b => b.chgAddr = addr && (b.chgEnReg = code || b.ilimReg = code) | none => false
     | none => false)

/-- The device table lets firmware use a code of an address (R375). -/
def Dev.bh07Ok (s : Dev) (addr code : Nat) : Bool :=
  s.twbDevs.any (fun d => d.port = 1 && !d.self && d.fw && d.addr = addr && d.regLo ≤ code && code ≤ d.regHi)

/-- A refused firmware transfer: ERR.REFUSED, TWB_XFER_STATUS and, for the cores, the bulkhead's record. -/
def Dev.xferRefused (s : Dev) (src : Src) (bh addr code : Nat) : Dev :=
  let s := (s.twbErr 1 7).modTwbSt (fun t => { t with xferStatus := St.bulkhead.code })
  match src with
  | .firmware pc => s.bulkhead bh 5 .bulkhead (256 * addr + code) pc
  | .port _ => s

/-- A write of TWB_XFER_CTL: with GO it starts a transfer. -/
def Dev.xferWrite (s : Dev) (src : Src) (val : Word) : Dev :=
  if s.twb.xferGo then (s.modTwbSt (fun t => { t with xferStatus := St.busy.code })).writeStatus src .busy
  else
    let s := (s.storeReg Reg.TWB_XFER_CTL val).writeStatus src .ok
    if bitsOf val.toNat 31 1 = 0 then s
    else
      let addr := bitsOf val.toNat 0 7
      let code := bitsOf val.toNat 8 8
      let isRead := bitsOf val.toNat 7 1 = 1
      let m := s.core.mode
      if !isRead && s.bh03 addr code then s.xferRefused src 3 addr code
      else if !s.bh07Ok addr code then s.xferRefused src 7 addr code
      else if !(m = .restore || m = .service || m = .maintenance) then
        s.modTwbSt (fun t => { t with xferStatus := St.wrongMode.code })
      else if 32 < bitsOf val.toNat 16 6 then s.modTwbSt (fun t => { t with xferStatus := St.badParam.code })
      else s.modTwbSt (fun t => { t with xferGo := true, pm := t.pm ++ [.firmware] })

/-! ### Host Notify (R388) -/

/-- The pending set is sent, and how that ended. -/
def Dev.notifySend (s : Dev) (e : XferEnd) : Dev :=
  let addr := (s.port 0).addr
  let fail (s : Dev) (st : St) : Dev :=
    ((s.twbErr 0 8).modTwbSt (fun t => { t with notifyWait := true })).twbLast 0 st.code (2 * addr) 0x08
  match e with
  | .ok =>
    let set := s.twb.notifyPend.toNat
    let s := s.modTwbSt (fun t => { t with notifyPend := 0, notifyWait := false, notifySent := (t.notifySent + 1) % 65536 })
    let s := (s.emit (.twoWire 0 [0x10, BitVec.ofNat 8 (2 * addr), BitVec.ofNat 8 set, 0])).emit (.notifySent set)
    (s.twbCount 0).twbLast 0 0 (2 * addr) 0x08
  | .arbLost => fail (s.twbErr 0 5) .twbArbLost
  | .stuck => fail (s.busStuck 0 0x08) .twbBusFailed
  | _ => fail (s.twbErr 0 2) .twbNack

/-- SB sends the pending set within 1 ms of its becoming non-empty. On a FAILED bus it completes at once and is not delivered. -/
def hostNotify (e : XferEnd) (s : Dev) : Dev :=
  if s.twb.notifyPend = 0 || s.twb.notifyWait then s
  else if (s.port 0).st = 5 then
    (((s.twbErr 0 8).modTwbSt (fun t => { t with notifyWait := true })).twbLast 0 St.twbBusFailed.code (2 * (s.port 0).addr) 0x08)
  else if (s.port 0).st ≠ 1 then s
  else (s.notifySend e)

/-- RETRY_MS after a notify that failed, it is sent again. -/
def hostNotifyRetry (e : XferEnd) (s : Dev) : Dev :=
  if s.twb.notifyPend = 0 || !s.twb.notifyWait then s
  else if (s.port 0).st = 5 then ((s.twbErr 0 8).twbLast 0 St.twbBusFailed.code (2 * (s.port 0).addr) 0x08)
  else if (s.port 0).st ≠ 1 then s
  else (s.notifySend e)

/-! ### Target behaviour (R379 to R383) -/

/-- A target stretch reaches TGT_US: the read is answered with 0xFF and STATUS becomes ST_BUSY (R380). -/
def targetStretchLimit (sv : Bool) (s : Dev) : Dev :=
  let n := if sv then 2 else 0
  if (s.port n).st = 1 then
    ((s.modTwb n (fun t => { t with status := St.busy.code, lastStatus := St.busy.code })).emit (.twoWire n [0xFF]))
  else s

/-- A START where an acknowledge was due: the message is aborted, and STATUS stays (R381). -/
def repeatedStartAbort (p : Fin 3) (s : Dev) : Dev :=
  if (s.port p.val).st = 1 then (s.twbErr p.val 0) else s

/-- SCL held low for 30 ms: the interface is reset and the message discarded (R382). -/
def targetSclTimeout (p : Fin 3) (s : Dev) : Dev :=
  if (s.port p.val).st = 1 then (s.twbErr p.val 4) else s

/-- A START with an address that is not the port's own: the port releases and is IDLE again (Table 16-3). -/
def addressNotOwn (p : Fin 3) (s : Dev) : Dev :=
  if (s.port p.val).st = 1 then (s.modTwb p.val (fun t => { t with st := 1 })) else s

/-- A power part sends Host Notify to PM: the message is received; nothing acts on it (Table 16-1). -/
def powerPartHostNotify (addr : BitVec 7) (_data : BitVec 16) (s : Dev) : Dev :=
  if (s.port 1).st = 1 then ((s.twbCount 1).twbLast 1 0 (2 * addr.toNat) addr.toNat) else s

/-! ### The sideband protocol (R383, R385) -/

/-- The port index of a sideband port, and its authority. -/
abbrev sbPort (sv : Bool) : Nat := if sv then 2 else 0
abbrev sbSrc (sv : Bool) : Port := if sv then .yard else .chassis

/-- STATUS and LAST after a sideband message. The peer that a message comes from does not show on the bus. -/
def Dev.sbStatus (s : Dev) (sv : Bool) (code : Nat) (st : St) : Dev :=
  (s.modTwb (sbPort sv) (fun t => { t with
    status := st.code, lastStatus := st.code, lastCode := code, lastPeer := Config.freeValue s.freeCtr % 128 })).drew

/-- A message that is discarded. -/
def Dev.sbDiscard (s : Dev) (sv : Bool) (code : Nat) (st : St) : Dev := s.sbStatus sv code st

/-- A message that was acted on: it counts, and its status is the one that `status` holds. -/
def Dev.sbDone (s : Dev) (sv : Bool) (code : Nat) : Dev :=
  let st := (s.port (sbPort sv)).status
  ((s.modTwb (sbPort sv) (fun t => { t with
    lastStatus := st, lastCode := code, lastPeer := Config.freeValue s.freeCtr % 128 })).drew).twbCount (sbPort sv)

/-- A Block Write: its count byte, its data, and the PEC byte if one came (R383, R385). A message that ends before its count is
met, or a count that the table does not give, is discarded with ST_BAD_PARAM; a wrong or missing PEC with ST_TWB_PEC. -/
def Dev.sbWrite (s : Dev) (sv : Bool) (code : Nat) (count : Byte) (data : Bytes) (pec : Option Byte) (okCount : Nat → Bool)
    (act : Dev → Dev) : Dev :=
  let n := sbPort sv
  let p := s.port n
  if p.st ≠ 1 then s
  else if data.length ≠ count.toNat then s.sbDiscard sv code .badParam
  else
    let want := BitVec.ofNat 8 (crc8 ([BitVec.ofNat 8 (2 * p.addr), BitVec.ofNat 8 code, count] ++ data))
    let bad : Bool := match pec with | some x => decide (x ≠ want) | none => p.pecReq
    if bad then (s.twbErr n 1).sbDiscard sv code .twbPec
    else if !okCount count.toNat then s.sbDiscard sv code .badParam
    else act s

/-- A read's bytes on the bus: the data, then PEC where the controller acknowledges the last byte (R383). -/
def Dev.sbRead (s : Dev) (sv : Bool) (code : Nat) (wantPec : Bool) (bytes : Bytes) : Dev :=
  let a := 2 * (s.port (sbPort sv)).addr
  let pec := crc8 ([BitVec.ofNat 8 a, BitVec.ofNat 8 code, BitVec.ofNat 8 (a + 1)] ++ bytes)
  s.emit (.twoWire (sbPort sv) (bytes ++ (if wantPec then [BitVec.ofNat 8 pec] else [])))

/-- A Block Read of data bytes: the count, then the data; the command completes with ST_OK. -/
def Dev.sbBlockRead (s : Dev) (sv : Bool) (code : Nat) (wantPec : Bool) (data : Bytes) : Dev :=
  ((s.sbRead sv code wantPec (BitVec.ofNat 8 data.length :: data)).modTwb (sbPort sv) (fun t => { t with status := 0 })).sbDone sv code

/-- A port's target is in service. -/
def Dev.sbLive (s : Dev) (sv : Bool) : Bool := decide ((s.port (sbPort sv)).st = 1)

/-- WIN_ADDR (R386). -/
def winAddr (sv : Bool) (count : Byte) (data : Bytes) (pec : Option Byte) (s : Dev) : Dev :=
  (s.sbWrite sv 0x01 count data pec (· == 4) (fun s =>
    let off := leAt data 0 4
    if off % 4 ≠ 0 || 0x100000 ≤ off then s.sbDiscard sv 0x01 .badParam
    else (s.modTwb (sbPort sv) (fun t => { t with window := off, status := 0 })).sbDone sv 0x01))

/-- STATUS: the ST_ code of the last command that completed or was discarded; reading it leaves it (Table 16-4). -/
def status (sv wantPec : Bool) (s : Dev) : Dev :=
  if s.sbLive sv then ((s.sbRead sv 0x04 wantPec (leBytes 2 (s.port (sbPort sv)).status)).sbDone sv 0x04) else s

/-- INFO (Table 16-4). `mode` is what CORE_MODE reads. -/
def Dev.sbInfo (s : Dev) (sv wantPec : Bool) (mode : Nat) : Dev :=
  if s.sbLive sv then s.sbBlockRead sv 0x05 wantPec ([0x01, BitVec.ofNat 8 (sbPort sv), 0, 0] ++ leBytes 4 mode) else s

/-- BUF_PTR (Table 16-4). -/
def bufPtr (sv : Bool) (count : Byte) (data : Bytes) (pec : Option Byte) (s : Dev) : Dev :=
  (s.sbWrite sv 0x10 count data pec (· == 4) (fun s =>
    let pos := leAt data 0 4
    if 65535 < pos then s.sbDiscard sv 0x10 .badParam
    else (s.modTwb (sbPort sv) (fun t => { t with bufPos := pos, status := 0 })).sbDone sv 0x10))

/-- BUF_DATA as a write (Table 16-4): bytes past the buffer's end are not stored. -/
def bufDataWrite (sv : Bool) (count : Byte) (data : Bytes) (pec : Option Byte) (s : Dev) : Dev :=
  (s.sbWrite sv 0x11 count data pec (fun n => decide (1 ≤ n) && decide (n ≤ 240)) (fun s =>
    (s.modTwb (sbPort sv) (fun t => { t with
      buf := putBuf t.buf t.bufPos data, bufPos := t.bufPos + data.length, status := 0 })).sbDone sv 0x11))

/-- BUF_DATA as a read: min(240, OUT_LEN − position) bytes. -/
def bufDataRead (sv wantPec : Bool) (s : Dev) : Dev :=
  if s.sbLive sv then
    let p := s.port (sbPort sv)
    let n := min 240 (p.outLen - p.bufPos)
    ((s.modTwb (sbPort sv) (fun t => { t with bufPos := t.bufPos + n })).sbBlockRead sv 0x11 wantPec
      (Memory.readBytes 0 p.buf p.bufPos n))
  else s

/-- RESULT (Table 16-4). -/
def result (sv wantPec : Bool) (s : Dev) : Dev :=
  if s.sbLive sv then
    let p := s.port (sbPort sv)
    (s.sbBlockRead sv 0x13 wantPec ([BitVec.ofNat 8 p.execSt, 0] ++ leBytes 2 p.execRes ++ leBytes 4 p.outLen))
  else s

/-- A message with a code that Table 16-4 does not list (R385). -/
def sidebandUnknownCode (sv : Bool) (code : Byte) (s : Dev) : Dev :=
  if s.sbLive sv then (s.sbDiscard sv code.toNat .badParam) else s

/-- AUX_OFF: the ports are OFF. -/
def Dev.twbOff (s : Dev) : Dev := { s with twb := TwbSt.reset }

end Sys2Proof.Machine
end

