-- ==== Sys2Proof/Machine/Boot.lean ====
section
/-!
DEFINITION. Power of the always-on domain, the charter load and the migration write (R16, R19 to R21, R286, R448, R455, R466).
-/
namespace Sys2Proof.Machine

/-- Change CORE. -/
def Dev.modCore (s : Dev) (f : CoreSt → CoreSt) : Dev := { s with core := f s.core }

/-- PWR_FAIL_N is high and PRSNT_N is low. -/
def Dev.pinsGood (s : Dev) : Bool := s.pins.pwrFailN && !s.pins.prsntN

/-! ### Supplies of the always-on domain (R448, R455) -/

/-- A migration write is cut off: the slot's TAG stays erased, so the slot fails its check, and what else was written is not
given (R21, R286). -/
def Dev.migCut (s : Dev) : Dev :=
  match s.chtr.migrating with
  | none => s
  | some (slot, bs) =>
    let a := charterBase (decide (slot = 1))
    let s := { s with nor := Memory.clear s.nor a 0x100000 }
    (s.norUnsure (a + 4) (bs.drop 4)).modChtr (fun c => { c with migrating := none })

/-- The always-on domain stops: what the serial NOR and the NAND hold remains, and all else is lost (Table 1-3, R286, R360). -/
def Dev.powerLost (s : Dev) : Dev :=
  let s := s.chCut.migCut.flshOff
  { Dev.reset with
    ticks := s.ticks, pins := s.pins, nor := s.nor, flsh := s.flsh, freeCtr := s.freeCtr, out := s.out
    hlnk := { HlnkSt.reset with dsc := s.hlnk.dsc, shutdown := s.hlnk.shutdown }
    chtr := { ChtrSt.reset with
      pr := s.chtr.pr, pw := s.chtr.pw.map (fun r => { PwSt.reset with verifier := r.verifier }) } }

/-- The pack can feed the module: it is present and has not reached its cut-off. -/
def Dev.packFeeds (s : Dev) : Bool := s.batt.present && !s.batt.empty

/-- The always-on domain has lost every supply: auxiliary power, the main input and the pack (R455). -/
def Dev.unfed (s : Dev) : Bool := s.aonUp && !s.core.auxGood && !s.pins.pwrFailN && !s.packFeeds

/-- AUX_ON (R448): power-on reset; YARD_EN is sampled; the charter load begins. The supply returning in a mode is no event
(R11). -/
def auxOn (pins : PinLevels) (s : Dev) : Dev :=
  if s.core.mode = .unpowered && s.core.trans.isNone then
    let s := { s with pins := pins, log := { s.log with auxTick := s.ticks } }
    (s.modCore (fun _ => { CoreSt.reset with trans := some .auxOn, auxGood := true })).twbSample pins.yardEn
  else ({ s with pins := pins }).modCore (fun c => { c with auxGood := c.auxGood || s.aonUp })

/-- AUX_OFF (Table 1-3). -/
def auxOff (pins : PinLevels) (s : Dev) : Dev :=
  if !s.aonUp then { s with pins := pins }
  else
    let s := ({ s with pins := pins }).modCore (fun c => { c with auxGood := false })
    match s.core.mode with
    | .unpowered => s.powerLost
    | .standby => s.powerLost
    | .recovery => if pins.pwrFailN then s else s.powerLost
    | _ => s

/-- READY_AON: the ROM leaves reset, the always-on domain runs (R16 step 1, R299). -/
def readyAon (s : Dev) : Dev :=
  if s.core.trans ≠ some .auxOn || s.rdy Rdy.AON then s
  else ((s.setReady Rdy.AON).modCore (fun c => { c with fwState := 1 })).modChtr (fun c => { c with st := 1 }) |>.twbStart.bellReady

/-! ### Charter load (R19 to R21) -/

/-- The slots whose header check passes, in the order in which the ROM takes them: the higher SEQ first, slot A if both are equal. -/
def Dev.slotOrder (s : Dev) : List Bool :=
  match s.slotHeader false, s.slotHeader true with
  | some a, some b => if a.seq < b.seq then [true, false] else [false, true]
  | some _, none => [false]
  | none, some _ => [true]
  | none, none => []

/-- The calibration row cannot be used (R293). -/
def Dev.calBad (s : Dev) : Dev :=
  ((s.modChtr (fun c => { c with calValid := false, cal := [] })).latch Reg.CHTR_ERR 5).logStd LT.CAL_BAD 0 0

/-- The registers and parts that a loaded charter sets: REGISTER_IMAGE for the always-on domain, rails, ports, and the logical
devices (R289, R290, R343, R354). -/
def Dev.charterInForce (s : Dev) (c : Charter) : Dev :=
  let s := { s with charter := some c }
  let s := (c.image.filter (fun e => !inMain e.1)).foldl Dev.imageEntry s
  let s := s.seqCharter.twbCharter.modHlnk (fun h => { h with allocs := [] })
  let s := s.setReady Rdy.CHARTER
  if s.batt.held then s.packAct else s

/-- The migration write starts in the background, to the slot that does not hold the source (R21). -/
def Dev.migStart (s : Dev) (slot : Bool) (c : Charter) : Dev :=
  s.modChtr (fun x => { x with migrating := some (if slot then 0 else 1, c.raw) })

/-- The charter load: the charter and the firmware slot, and whether both are valid. -/
def Dev.loadCharter (s : Dev) : Dev × Bool :=
  let up : Bool := s.chtr.st = 2
  let s := if up then s.loadCal else s.calBad
  let order := if up then s.slotOrder else []
  let bad := order.takeWhile (fun b => (s.slotCharter b).isNone)
  let s := bad.foldl (fun s b => s.logStd LT.CHARTER_SLOT_BAD (b2n b) 0) s
  let s := s.modCore (fun c => { c with
    migrated := false, migWriteFail := false, fwRestarts := 0, locked := false, lockEarly := false, charterVer := 0 })
  match (order.drop bad.length).head? with
  | none => (({ s with charter := none }).modCore (fun c => { c with charterSlot := false, otherCharterBad := true }) |>.logStart.logRestart, false)
  | some slot =>
    match s.slotCharter slot with
    | none => (s, false)
    | some (h, c) =>
      let named : Bool := decide (c.fwSlot = 1)
      let okNamed := s.fwSlotOk named
      let okOther := s.fwSlotOk (!named)
      let s := if okNamed then s else s.logStd LT.FW_SLOT_BAD (b2n named) 0
      let started := if okNamed || !okOther then named else !named
      let s := s.modCore (fun k => { k with
        charterSlot := slot, charterVer := h.ver, migrated := decide (h.ver < 4)
        otherCharterBad := (s.slotHeader (!slot)).isNone || bad.contains (!slot)
        fwSlot := started, otherFwBad := !s.fwSlotOk (!started) })
      let s := s.charterInForce c
      let s := if h.ver < 4 then s.migStart slot c else s
      (s.logStart.logRestart.updScan, okNamed || okOther)

/-- The background migration write completes (R21). CORE_BOOT.OTHER_CHARTER_BAD keeps the value that the charter load gave it:
the spec does not say that it changes. DESIGN CHOICE: assumption 85. -/
def charterMigrated (s : Dev) : Dev :=
  match s.chtr.migrating with
  | none => s
  | some (slot, bs) =>
    let a := charterBase (decide (slot = 1))
    let nor := Memory.writeBytes norByte (Memory.clear s.nor a 0x100000) a bs
    let s := ({ s with nor := nor }).modChtr (fun c => { c with migrating := none })
    s.logStd LT.CHARTER_MIGRATED (s.core.charterVer + 256 * 4) 0

/-- The migration write fails, by a verify failure or a timeout of the store (R21). -/
def charterMigrateFail (timeout : Bool) (s : Dev) : Dev :=
  if s.chtr.migrating.isNone then s
  else
    let st := if timeout then St.storeTimeout else St.verifyFail
    (s.migCut.modCore (fun c => { c with migWriteFail := true })).logStd LT.CHARTER_MIGRATE_FAIL (s.core.charterVer + 256 * 4) st.code

/-- RESET_FULL, before the charter load (R22, R286, R399, R466): admitted commands and queued store descriptors are aborted, and
registers, counters and latched status return to reset, ROS fields and live state apart. -/
def Dev.resetForLoad (s : Dev) : Dev :=
  let s := s.bgAbandon.commitAbort
  let s := s.chtr.queue.foldl (fun s d => s.chPosted d .aborted) s
  let s := s.migCut
  let s := (s.clrReady Rdy.CHARTER).clrReady Rdy.FW
  let s := s.modChtr (fun c => { c with
    queue := [], timeouts := 0, romA := none, prStatus := if c.prBusy then c.prStatus else 0, pwStatus := 0
    ports := c.ports.map (fun _ => ChPort.reset)
    st := if c.st = 3 then 1 else c.st, partReady := if c.st = 3 then true else c.partReady })
  let s := s.modCore (fun c => { c with
    locked := false, lockEarly := false, proxy := none, fwState := 1, fwCause := 0, modeResult := .ok, landAttempts := 0
    charterSlot := false, fwSlot := false, migrated := false, migWriteFail := false, otherCharterBad := false,
    otherFwBad := false, charterVer := 0 })
  let s := { s.resetRegs (fun _ => true) with
    pairLatch := [], chk := (List.range 8).map ChkCtx.reset, trn := TrnSt.reset, land := LandSt.reset
    gmap := GmapSt.reset
    ciph := { CiphSt.reset with damaged := s.ciph.damaged }
    fery := { FerySt.reset with wseq := s.fery.wseq, nextCopy := s.fery.nextCopy } }
  let s := s.modHlnk (fun h => { h with bg := none, lds := h.lds.map (fun _ => LdSt.reset), timestamp := h.timestamp })
  let ports := s.twb.ports.map (fun p => { p with window := 0, lastStatus := 0, lastCode := 0, lastPeer := 0, arbLost := 0 })
  let s := { s with
    batt := { s.batt with throughput := 0, tapers := 0, rests := 0, calKind := 0, calTick := 0, recal := false, learnCount := 0 },
    twb := { s.twb with notifySent := 0, xferStatus := 0, ports := ports },
    upd := { s.upd with result := 0, percent := 0, kind := 0 } }
  let s := s.modChtr (fun c => { c with charterSeq := 0, charterLen := 0 })
  (s.modSeq (fun q => { q with
    marginApplied := 0, marginStatus := 0, stopped := false, lastCp := 0, step := 0, bellLast := none,
    bellTimedOut := false })).twbResample

end Sys2Proof.Machine
end

