-- ==== Sys2Proof/Machine/CipherMsg.lean ====
section
/-!
DEFINITION. The cipher engine's messages: a lane starts one, and it ends (R307, R310, R311, R137).
-/
namespace Sys2Proof.Machine

/-- The message belongs to a background restore (R130), or to a demand fetch or a clean refetch (R137, R217). -/
def Dev.msgBg (s : Dev) (m : Msg) : Bool :=
  match m.who with
  | .restore g => (match s.restore? g with | some r => !r.demand | none => false)
  | _ => false
def Dev.msgDemand (s : Dev) (m : Msg) : Bool :=
  match m.who with
  | .restore g => (match s.restore? g with | some r => r.demand | none => false)
  | .refetch _ => true
  | _ => false

/-- Lanes that background restore uses, and may use (XING_LAND_CTL). -/
def Dev.bgLanes (s : Dev) : Nat := s.ciph.lanes.countP (fun l => match l with | some m => s.msgBg m | none => false)

/-- A waiting message may start: its kind is served now, and background restore has a lane of its share left. -/
def Dev.msgMay (s : Dev) (m : Msg) : Bool :=
  (if m.isSeal then s.sealsNow else s.opensNow) && (!s.msgBg m || decide (s.bgLanes < s.regF Reg.XING_LAND_CTL 8 4))

/-- The lowest free lane, and the lowest that holds a background-restore message. -/
def Dev.freeLane (s : Dev) : Option Nat := (List.range 16).find? (fun n => ((s.ciph.lanes.getD n none).isNone))
def Dev.bgLane (s : Dev) : Option Nat :=
  (List.range 16).find? (fun n => match s.ciph.lanes.getD n none with | some m => s.msgBg m | none => false)

/-- Draw a value from the write-sequence counter (R308). -/
def Dev.drawSeq (s : Dev) : Dev := s.modFery (fun f => { f with wseq := f.wseq + 1 })

/-- Put a message on a lane; a seal takes the current epoch and its invocation number (R307), and the unit of a journal page, a
record, a checkpoint, an index, a directory or a poison list its write sequence (R308). -/
def Dev.onLane (s : Dev) (n : Nat) (m : Msg) : Dev :=
  let m := if m.isSeal then { m with epoch := s.ciph.epoch } else m
  let s := s.modCiph (fun c => ({ c with lanes := c.lanes.set n (some m) }).touch m.epoch)
  if m.isSeal then
    let s := match m.who with
      | .copy id =>
        let own : Bool := match s.copy? id with | some c => c.cls.kind = 1 || c.cls.kind = 2 | none => false
        if own then s.modCopy id (fun c => { c with epoch := m.epoch, stage := .sealing })
        else s.drawSeq.modCopy id (fun c => { c with epoch := m.epoch, stage := .sealing, wseq := s.fery.wseq + 1 })
      | .journal _ => s.drawSeq
      | _ => s
    s.countSeal
  else s

/-- A crossing has a seal to make and no key may make one more: it is abandoned (R318, Table 5-8). -/
def Dev.sealsExhausted (s : Dev) : Bool :=
  s.core.mode = .save && s.ciph.st = .stalled && decide (2 ^ 28 ≤ s.ciph.used) && s.ciph.waiting.any (fun m => m.isSeal)

/-- Take the waiting message that a test picks first, or a suspended one. -/
def Dev.takeMsg (s : Dev) (n : Nat) (m : Msg) : Dev := (s.modCiph (fun c => { c with waiting := c.waiting.erase m })).onLane n m

/-- A lane starts a message (R307): a demand fetch's first, suspending background restore where no lane is free (R137); then a
suspended one; then the first that waits and may start. -/
def cipherMessageStart (s : Dev) : Dev :=
  if s.sealsExhausted then s.abandon
  else
    match s.ciph.waiting.find? (fun m => s.msgDemand m && s.msgMay m) with
    | some m =>
      (match s.freeLane with
       | some n => s.takeMsg n m
       | none =>
         match s.bgLane with
         | some n =>
           if 16 ≤ s.ciph.suspended.length then s
           else
             let s := s.modCiph (fun c => { c with
               suspended := c.suspended ++ (c.lanes.getD n none).toList, lanes := c.lanes.set n none })
             s.takeMsg n m
         | none => s)
    | none =>
      match s.freeLane with
      | none => s
      | some n =>
        match s.ciph.suspended with
        | m :: rest => s.modCiph (fun c => { c with suspended := rest, lanes := c.lanes.set n (some { m with resumed := true }) })
        | [] =>
          match s.ciph.waiting.find? s.msgMay with
          | some m => s.takeMsg n m
          | none => s

/-- A message ends at its lane: a seal's unit is ready to be programmed; an open's tag is checked (R311), and a mismatch that the
metadata shows is reported by its requester (R132). -/
def cipherMessageDone (lane : Nat) (res : MsgEnd) (s : Dev) : Dev :=
  match s.ciph.lanes.getD lane none with
  | none => s
  | some m =>
    let s := s.modCiph (fun c => { c with lanes := c.lanes.set lane none })
    match m.who with
    | .copy id =>
      (match s.copy? id with
       | none => s
       | some c =>
         if c.cls.stream.isNone then (s.modCopy id (fun c => { c with stage := .sealed })).recordProgram c
         else s.copySealed id)
    | .journal second => s.journalProgram second
    | .restore g =>
      (match res with
       | .good => s.restoreGood g
       | .tagFail => (s.tagFailed true).restoreFail g true
       | .metaFail => s.restoreFail g false)
    | .refetch g =>
      (match res with
       | .good => s.refetchResult g true
       | .tagFail => (s.tagFailed true).refetchFail g
       | .metaFail => s.refetchFail g)

end Sys2Proof.Machine
end

