-- ==== Sys2Proof/Machine/Trn.lean ====
section
/-!
DEFINITION. DRAM training, frequency change and self-refresh (chapter 10).
-/
namespace Sys2Proof.Machine

/-- The subchannels of a mask. -/
def subsOf (m : BitVec 8) : List Nat := (List.range 8).filter (fun n => m.getLsbD n)

/-- The code of a frequency-change phase (DCTL_FREQ_STATUS.PHASE). -/
def FreqPhase.code : FreqPhase → Nat
  | .idle => 0 | .deferred => 1 | .enter => 2 | .relock => 3 | .train => 4

/-- Subchannels in self-refresh leave it (R240). -/
def Dev.srExit (s : Dev) (m : BitVec 8) : Dev :=
  (subsOf m).foldl (fun s n => if (s.sub n).st = .selfRefresh then s.setSub n { s.sub n with st := .ready } else s) s

/-- A subchannel enters self-refresh: its ranks leave power-down first, its rows close, and the entry is counted (R240). -/
def Dev.srEnter (s : Dev) (n : Nat) : Dev :=
  let s := ((s.setSub n { s.sub n with st := .selfRefresh }).wakeRanks n).closeRows n
  s.wrapReg Reg.DCTL_SR_STATUS 16 16 1

/-- READY_DRAM sets; the first time after a charter load it sets the charter lock (R22). -/
def Dev.dramReady (s : Dev) : Dev :=
  let s := s.setReady Rdy.DRAM
  let s := if s.core.locked then s else { s with core := { s.core with locked := true, lockEarly := false } }
  s.evalAgain

/-- READY_DRAM clears for the length of a change or a retraining (Table 1-6). -/
def Dev.dramUnready (s : Dev) : Dev := (s.clrReady Rdy.DRAM).evalAgain

/-- The eye register of a lane, by eye index (R244). -/
def eyeReg (i : Nat) : Nat := Reg.DCTL_TRN_EYE + 4 * i

/-- The key of what an OP sets on a lane, and of a subchannel's read-enable position. -/
def laneKey (op i : Nat) : Nat := 320 * op + i
def rdEnKey (n : Nat) : Nat := 2560 + n

/-- Set a delay, a reference voltage or a read-enable position (R229). -/
def Dev.setDelay (s : Dev) (k v : Nat) : Dev := { s with trn := { s.trn with applied := putD 0 k v s.trn.applied } }

/-- DCTL_TRN_EYE.CENTRE shows the delay of the subchannel's last applied OP of 1 to 5 (R244). -/
def Dev.showCentre (s : Dev) (i : Nat) : Dev :=
  s.setRegF (eyeReg i) 16 8 (getD 0 (laneKey (getD 0 (i / 40) s.trn.eyeOp) i) s.trn.applied)

/-- The components of a subchannel with a lane on which the last gather found no passing step (R231). -/
def Dev.badComps (s : Dev) (n : Nat) : List Nat :=
  (List.range 10).filter (fun c => (List.range 4).any (fun k => s.regF (eyeReg (40 * n + 4 * c + k)) 24 1 = 0))

/-- The components of a subchannel that failed in some OP of the present training (R231). -/
def Dev.failedComps (s : Dev) (n : Nat) : List Nat := (s.trn.bad.filter (fun k => k / 10 = n)).map (fun k => k % 10)

/-- Apply one lane's result under an OP: (LEFT + RIGHT) ÷ 2 (R227). An OP of 6 or 7 sets a reference voltage, and CENTRE stays
(DEDUCED: assumption 98). -/
def Dev.applyLane (s : Dev) (op i : Nat) : Dev :=
  if s.regF (eyeReg i) 24 1 = 0 then s
  else
    let s := s.setDelay (laneKey op i) ((s.regF (eyeReg i) 0 8 + s.regF (eyeReg i) 8 8) / 2)
    let s := { s with trn := { s.trn with drift := eraseK (laneKey op i) s.trn.drift } }
    if op ≤ 5 then s.showCentre i else s

/-- A lane of a masked component takes its default delay, which the spec does not give, and is flagged MASKED (R231). -/
def Dev.maskLane (s : Dev) (i : Nat) : Dev :=
  let v := Config.freeValue s.freeCtr % 256
  let s := [1, 2, 3, 4, 5].foldl (fun s op => s.setDelay (laneKey op i) v) s.drew
  (s.showCentre i).setRegF (eyeReg i) 25 1 1

/-- Mask a component (R231). -/
def Dev.maskComp (s : Dev) (n c : Nat) : Dev :=
  let s := (List.range 4).foldl (fun s k => s.maskLane (40 * n + 4 * c + k)) s
  let s := (s.setRegF Reg.DCTL_STATUS 25 1 1).latch Reg.DCTL_TRN_ERR 0
  s.logStd LT.DRAM_TRAIN_COMP n c

/-- Step 8 on a subchannel: a component that failed is masked, and the others are not (R231). -/
def Dev.bringUp (s : Dev) (n : Nat) : Dev :=
  let s := (List.range 40).foldl (fun s l => s.setRegF (eyeReg (40 * n + l)) 25 1 0) s
  match s.failedComps n with
  | c :: _ => s.maskComp n c
  | [] => s

/-- The seven OPs of a training have been applied on a subchannel (Table 10-2, steps 3 to 7). -/
def Dev.trained (s : Dev) (n : Nat) : Bool := [1, 2, 3, 4, 5, 6, 7].all (fun o => (s.trn.done.getD n []).contains o)

/-- Start the steps of a training again on the subchannels of a list. -/
def Dev.resetDone (s : Dev) (l : List Nat) : Dev :=
  { s with trn := { s.trn with
    done := l.foldl (fun d n => d.set n []) s.trn.done, bad := s.trn.bad.filter (fun k => !l.contains (k / 10)) } }

/-- Store the applied results as the set of their speed; a speed without one replaces the set of the speed not in use (R236). -/
def Dev.storeSet (s : Dev) (speed : Nat) : Dev :=
  let l := s.trn.applied
  if s.trn.setA = speed then { s with trn := { s.trn with delaysA := l, inA := true } }
  else if s.trn.setB = speed then { s with trn := { s.trn with delaysB := l, inA := false } }
  else if s.trn.setA = 0 || !s.trn.inA then { s with trn := { s.trn with setA := speed, delaysA := l, inA := true } }
  else { s with trn := { s.trn with setB := speed, delaysB := l, inA := false } }

/-- Load the stored set of a speed (R238). -/
def Dev.loadSet (s : Dev) (speed : Nat) : Dev :=
  let inA := decide (s.trn.setA = speed)
  let s := { s with trn := { s.trn with applied := if inA then s.trn.delaysA else s.trn.delaysB, drift := [], inA := inA } }
  (List.range 320).foldl Dev.showCentre s

/-- The gather that runs is cut, and GO clears (R239, R244). -/
def Dev.gatherCut (s : Dev) : Dev :=
  { s with trn := { s.trn with gather := none } }.setRegF Reg.DCTL_TRN_CMD 12 1 0

/-- A frequency change ends at a speed with LAST_RESULT. -/
def Dev.freqEnd (s : Dev) (speed result : Nat) : Dev :=
  let s := { s with trn := { s.trn with phase := .idle, lastResult := result } }
  let s := (s.setRegF Reg.DCTL_CONFIG 0 4 speed).setRegF Reg.DCTL_FREQ_REQ 0 4 speed
  (s.mapSubs (fun c => if c.st = .off || c.st = .failed then c else { c with st := .ready })).dramReady

/-- A change returns to the old speed, with its set and its CL and CWL (R238 failure row, R239). Results that are pending stay
so: R237 names the two cases in which they are discarded. -/
def Dev.freqRevert (s : Dev) (result : Nat) : Dev :=
  ((s.gatherCut.loadSet s.trn.oldSpeed).setCas s.trn.oldSpeed).freqEnd s.trn.oldSpeed result

/-- The failure row of Table 10-3. -/
def Dev.freqFail (s : Dev) : Dev :=
  ((s.freqRevert 2).latch Reg.DCTL_TRN_ERR 3).logStd LT.DRAM_FREQ_FAIL 0 s.trn.newSpeed

/-- A KX_DRAM_RETRAIN in progress ends: its subchannels go on with the delays they have. -/
def Dev.retrainCut (s : Dev) : Dev :=
  match s.trn.retrain with
  | none => s
  | some m =>
    let s := (subsOf m).foldl (fun s n =>
      if (s.sub n).st = .paused && !(s.sub n).fromReplay then s.setSub n { s.sub n with st := .ready } else s) s
    ({ s.gatherCut with trn := { s.gatherCut.trn with retrain := none } }).dramReady

/-- READY_DRAM of a landing sets when every subchannel is READY (R230, Table 9-4), at the TARGET then held (R236). -/
def Dev.dramCheck (s : Dev) : Dev :=
  if !s.rdy Rdy.DRAM && s.allSubs (fun c => c.st = .ready) && s.trn.phase = .idle && s.trn.retrain.isNone then
    let speed := s.regF Reg.DCTL_FREQ_REQ 0 4
    ((s.storeSet speed).setRegF Reg.DCTL_CONFIG 0 4 speed).dramReady
  else s

/-- What follows once results are applied: a landing's last subchannel sets READY_DRAM (R230); a KX_DRAM_RETRAIN whose
subchannels are trained ends (R234); a change that trains ends (R238). -/
def Dev.trnSettle (s : Dev) : Dev :=
  match s.trn.retrain with
  | some m =>
    if (subsOf m).all s.trained then
      let s := (subsOf m).foldl (fun s n => (s.bringUp n).setSub n { s.sub n with st := .ready }) s
      let s := { s with trn := { s.trn with retrain := none, advised := s.trn.advised &&& ~~~m } }
      (((s.storeSet (s.regF Reg.DCTL_CONFIG 0 4)).dramReady).bgFinish 0xC051 .ok [])
    else s
  | none =>
    if s.trn.phase = .train then
      if (List.range 8).all (fun n => s.trained n || (s.sub n).st = .failed) then
        let s := (List.range 8).foldl Dev.bringUp s
        ((s.storeSet s.trn.newSpeed).freqEnd s.trn.newSpeed 1).logStd LT.DRAM_FREQ_CHANGE 0 s.trn.newSpeed
      else s
    else s.dramCheck

/-- The OP of a subchannel's pending results, applied: the lanes' results (R227), the read-enable position with the read
centring, and the baseline of the oscillators (R233). The last two are values that the spec does not give. -/
def Dev.applyOp (s : Dev) (n op : Nat) : Dev :=
  let s := if op ≤ 5 then { s with trn := { s.trn with eyeOp := insertK n op s.trn.eyeOp } } else s
  let s := (List.range 40).foldl (fun s l => s.applyLane op (40 * n + l)) s
  let s := if op = 4 then (s.setDelay (rdEnKey n) (Config.freeValue s.freeCtr)).drew else s
  (List.range 10).foldl (fun s c =>
    { s with trn := { s.trn with oscBase := insertK (10 * n + c) (Config.freeValue s.freeCtr) s.trn.oscBase } }.drew) s

/-- Apply a subchannel's pending results (R227, R231): with two failed components the steps are repeated once, and then the
subchannel fails. -/
def Dev.applySub (s : Dev) (n : Nat) : Dev :=
  let op := (getD (0, 0) n s.trn.pendBy).1
  let s := s.applyOp n op
  let s := { s with trn := { s.trn with
    pending := s.trn.pending &&& ~~~(1#8 <<< n), pendBy := eraseK n s.trn.pendBy
    bad := (s.badComps n).foldl (fun l c => insertN (10 * n + c) l) s.trn.bad } }
  if (s.failedComps n).length < 2 then
    { s with trn := { s.trn with done := s.trn.done.set n (s.trn.done.getD n [] ++ [op]) } }
  else if s.trn.repeated.getLsbD n then
    let s := ((s.failSub n).latch Reg.DCTL_TRN_ERR 1).logStd LT.DRAM_TRAIN_FAIL n 0
    if s.trn.phase = .train then s.freqFail
    else if s.trn.retrain.isSome then s.retrainCut.bgFinish 0xC051 .notReady []
    else s
  else ({ s with trn := { s.trn with repeated := s.trn.repeated ||| (1#8 <<< n) } }).resetDone [n]

/-- A subchannel in TRAINING whose steps are all applied is READY (Table 9-4). -/
def Dev.openTrained (s : Dev) (n : Nat) : Dev :=
  if (s.sub n).st = .training && s.trained n then (s.bringUp n).setSub n { s.sub n with st := .ready } else s

/-- What a DCTL_TRN_CMD write stores: the RW fields, and APPLY and DISCARD where they are written with 1. -/
def Dev.putTrnCmd (s : Dev) (val : Word) : Dev :=
  s.setRegN Reg.DCTL_TRN_CMD (bitsOf val.toNat 0 12 + fieldAt 12 1 (s.regF Reg.DCTL_TRN_CMD 12 1) +
    fieldAt 13 2 (bitsOf val.toNat 13 2 ||| s.regF Reg.DCTL_TRN_CMD 13 2))

/-- Firmware trains a subchannel in the kinds of Table 10-1 (R226, R243): in RESTORE while it is in TRAINING, and in MAINTENANCE
while it is held for retraining at length. -/
def Dev.trainable (s : Dev) (n : Nat) : Bool :=
  ((s.sub n).st = .training && s.core.mode = .restore) ||
    ((s.sub n).st = .paused && s.trnHeld n && s.core.mode = .maintenance)

/-- Modes in which firmware trains (Table 10-6). In the others GO and APPLY are refused; the spec does not name their ST_ code.
DESIGN CHOICE: ST_WRONG_MODE (assumption 99). -/
def Dev.trainMode (s : Dev) : Bool := s.core.mode = .restore || s.core.mode = .maintenance

/-- A write of DCTL_TRN_CMD with GO (R226, R227, R240, R244): an OP outside 1 to 7 is rejected; a gather that runs goes on. -/
def dctlTrnGo (src : Src) (val : Word) (s : Dev) : Dev :=
  (s.guarded src Reg.DCTL_TRN_CMD (fun s =>
    let s := s.putTrnCmd val
    let op := bitsOf val.toNat 8 4
    if op = 0 || 7 < op then s.writeStatus src .badParam
    else if !s.trainMode then s.writeStatus src .wrongMode
    else if s.trn.gather.isSome then s.writeStatus src .busy
    else
      let m := BitVec.ofNat 8 (bitsOf val.toNat 0 8)
      let s := s.srExit m
      let m := ((subsOf m).filter s.trainable).foldl (fun a n => a ||| (1#8 <<< n)) 0#8
      if m = 0 then s.writeStatus src .ok
      else ({ s with trn := { s.trn with gather := some (m, op) } }.setRegF Reg.DCTL_TRN_CMD 12 1 1).writeStatus src .ok))

/-- The delays of DCTL_TRN_SWEEP: START, and COUNT steps of STEP, as far as 255 (R227, R244). -/
def Dev.sweepDelays (s : Dev) : List Nat :=
  let step := max 1 (s.regF Reg.DCTL_TRN_SWEEP 8 8)
  let count := clampN 1 128 (s.regF Reg.DCTL_TRN_SWEEP 16 8)
  ((List.range count).map (fun i => s.regF Reg.DCTL_TRN_SWEEP 0 8 + step * i)).filter (fun d => decide (d ≤ 255))

/-- One step of the search for the widest passing run: the run that is open and the widest, each as its first delay, its last
and its number of steps. -/
def runStep (acc : Option (Nat × Nat × Nat) × Option (Nat × Nat × Nat)) (x : Nat × Bool) :
    Option (Nat × Nat × Nat) × Option (Nat × Nat × Nat) :=
  if !x.2 then (none, acc.2)
  else
    let cur := match acc.1 with | some (f, _, n) => (f, x.1, n + 1) | none => (x.1, x.1, 1)
    (some cur, match acc.2 with | some b => if b.2.2 < cur.2.2 then some cur else some b | none => some cur)

/-- The widest run of passing steps (R227). DESIGN CHOICE: among equals the first (assumption 98). -/
def widestRun (l : List (Nat × Bool)) : Option (Nat × Nat) := (l.foldl runStep (none, none)).2.map (fun r => (r.1, r.2.1))

/-- Record a lane's result: LEFT and RIGHT of its widest passing run, or VALID 0 (R227). -/
def Dev.recordLane (s : Dev) (i : Nat) (passes : BitVec 128) : Dev :=
  match widestRun (s.sweepDelays.zipIdx.map (fun p => (p.1, passes.getLsbD p.2))) with
  | some (l, r) => ((s.setRegF (eyeReg i) 0 8 l).setRegF (eyeReg i) 8 8 r).setRegF (eyeReg i) 24 1 1
  | none => s.setRegF (eyeReg i) 24 1 0

/-- A gather ends (R227): the rows of its subchannels hold the selected pattern, each lane's result is recorded from the steps
that passed, and the results are pending. -/
def gatherEnd (passes : List (Fin 320 × BitVec 128)) (s : Dev) : Dev :=
  match s.trn.gather with
  | none => s
  | some (m, op) =>
    let pat := s.regF Reg.DCTL_TRN_SWEEP 24 4
    let s := (subsOf m).foldl (fun s n => (List.range 40).foldl (fun s l =>
      s.recordLane (40 * n + l) (((passes.find? (fun e => e.1.val = 40 * n + l)).map (fun e => e.2)).getD 0)) s) s
    let s := { s with trn := { s.trn with
      gather := none, pending := s.trn.pending ||| m
      pendBy := (subsOf m).foldl (fun l n => insertK n (op, s.ticks) l) s.trn.pendBy
      rows := (subsOf m).foldl (fun l n => insertK n (if pat ≤ 3 then pat else 0) l) s.trn.rows } }
    (s.setRegF Reg.DCTL_TRN_CMD 12 1 0)

/-- A write of DCTL_TRN_CMD with APPLY (R226, R227, R231): the pending results of the subchannels of SUBCH that train are
applied, and what that completes. -/
def applyResults (src : Src) (val : Word) (s : Dev) : Dev :=
  s.guarded src Reg.DCTL_TRN_CMD (fun s =>
    let s := s.putTrnCmd val
    if !s.trainMode then s.writeStatus src .wrongMode
    else
      let m := BitVec.ofNat 8 (bitsOf val.toNat 0 8) &&& s.trn.pending
      let l := (subsOf m).filter s.trainable
      let s := l.foldl (fun s n => (s.applySub n).openTrained n) s
      (if l.isEmpty then s else s.trnSettle).writeStatus src .ok)

/-- Pending results of the subchannels of a mask are dropped. -/
def Dev.trnDrop (s : Dev) (m : BitVec 8) : Dev :=
  { s with trn := { s.trn with
    pending := s.trn.pending &&& ~~~m, pendBy := s.trn.pendBy.filter (fun p => !m.getLsbD p.1) } }

/-- A write of DCTL_TRN_CMD with DISCARD (R227): the pending results of SUBCH are dropped. -/
def dctlTrnDiscard (src : Src) (val : Word) (s : Dev) : Dev :=
  (s.guarded src Reg.DCTL_TRN_CMD (fun s =>
    ((s.putTrnCmd val).trnDrop (BitVec.ofNat 8 (bitsOf val.toNat 0 8))).writeStatus src .ok))

/-- The device discards pending results of the subchannels of a mask (R237). -/
def Dev.trnDiscardOf (s : Dev) (m : BitVec 8) : Dev :=
  if s.trn.pending &&& m = 0 then s
  else ((s.trnDrop m).latch Reg.DCTL_TRN_ERR 4).logStd LT.DRAM_TRN_DISCARD ((subsOf (s.trn.pending &&& m)).headD 0) 0

/-- The device discards every pending result (R237). -/
def Dev.trnDiscard (s : Dev) : Dev := s.trnDiscardOf 0xFF#8

/-- The subchannels whose pending results are the oldest. -/
def Dev.oldestResults (s : Dev) : BitVec 8 :=
  let t := s.trn.pendBy.foldl (fun m p => min m p.2.2) s.ticks
  (s.trn.pendBy.filter (fun p => p.2.2 = t)).foldl (fun a p => a ||| (1#8 <<< p.1)) 0#8

/-- 100 ms after their gather the oldest results are still pending, and are discarded (R237). -/
def trnResultsTimeout (s : Dev) : Dev := s.trnDiscardOf s.oldestResults

/-- A FW_FAULT in training (R232, R237, R238): gathers and pending results are discarded, the unfinished subchannels start
again at step 2, and a change that trains fails. -/
def Dev.trnFwFault (s : Dev) : Dev :=
  let s := s.trnDiscard
  let open' := (List.range 8).filter (fun n => (s.sub n).st = .training)
  let s := s.gatherCut.resetDone open'
  if s.trn.phase = .train then s.freqFail else s

/-- R237: nothing that a change must wait for is under way. -/
def Dev.freqClear (s : Dev) : Bool :=
  s.trn.gather.isNone && s.trn.pending = 0 && s.trn.retrain.isNone && !s.dctl.subs.any (fun c => c.st = .paused)

/-- A change starts (Table 10-3): READY_DRAM clears and every READY subchannel enters self-refresh. -/
def Dev.freqStart (s : Dev) : Dev :=
  let s := { s with trn := { s.trn with
    phase := .enter, oldSpeed := s.regF Reg.DCTL_CONFIG 0 4, newSpeed := s.regF Reg.DCTL_FREQ_REQ 0 4 } }
  ((List.range 8).foldl (fun s n => if (s.sub n).st = .ready then s.srEnter n else s) s).dramUnready

/-- A write of DCTL_FREQ_REQ.TARGET (R236, R237): refused outside MAINTENANCE, out of range, or past DEFERRED; otherwise it
starts or is deferred. -/
def freqRequest (src : Src) (val : Word) (s : Dev) : Dev :=
  s.guarded src Reg.DCTL_FREQ_REQ (fun s =>
    let t := bitsOf val.toNat 0 4
    if s.core.mode ≠ .maintenance then s.writeStatus src .wrongMode
    else if t = 0 || s.regF Reg.DCTL_CONFIG 4 4 < t then s.writeStatus src .badParam
    else if s.trn.phase ≠ .idle && s.trn.phase ≠ .deferred then s.writeStatus src .busy
    else
      let s := (s.setRegF Reg.DCTL_FREQ_REQ 0 4 t).writeStatus src .ok
      if s.freqClear then s.freqStart else { s with trn := { s.trn with phase := .deferred } })

/-- A deferred change finds R237 holding (R237, Table 10-3). -/
def freqDeferredStart (s : Dev) : Dev :=
  if s.trn.phase = .deferred && s.core.mode = .maintenance && s.freqClear then s.freqStart else s

/-- Every subchannel is in self-refresh (Table 10-3): the PLL is relocked at TARGET. -/
def freqEnterDone (s : Dev) : Dev :=
  if s.trn.phase = .enter && s.allSubs (fun c => c.st = .selfRefresh || c.st = .failed) then
    { s with trn := { s.trn with phase := .relock } }
  else s

/-- The PLL locks (Table 10-3): a stored set is loaded, or training at the new speed starts; CL and CWL are written. -/
def pllLock (s : Dev) : Dev :=
  if s.trn.phase ≠ .relock then s
  else
    let t := s.trn.newSpeed
    if s.trn.setA = t || s.trn.setB = t then
      (((s.loadSet t).setCas t).freqEnd t 1).logStd LT.DRAM_FREQ_CHANGE 0 t
    else
      let s := { s with trn := { s.trn with phase := .train, repeated := 0 } }
      ((s.setCas t).mapSubs (fun c => if c.st = .selfRefresh then { c with st := .paused, fromReplay := false } else c)).resetDone
        (List.range 8)

/-- The frequency change is cut back at the first action of a crossing (R239). -/
def Dev.freqCut (s : Dev) : Dev :=
  match s.trn.phase with
  | .enter => s.freqRevert 3
  | .relock => s.freqRevert 3
  | .train => s.freqRevert 3
  | .deferred => { s with trn := { s.trn with phase := .idle } }
  | .idle => s

/-- MAINTENANCE is left during a change (Table 10-6: no change runs in SERVICE): it returns to the old speed as under the failure
row, and a deferred one ends. DESIGN CHOICE: assumption 73. -/
def Dev.freqLeave (s : Dev) : Dev :=
  match s.trn.phase with
  | .enter => s.freqFail
  | .relock => s.freqFail
  | .train => s.freqFail
  | .deferred => { s with trn := { s.trn with phase := .idle } }
  | .idle => s

/-- KX_DRAM_RETRAIN starts on a mask (R226, R240): the subchannels leave self-refresh and pause; READY_DRAM clears. -/
def Dev.retrainStart (s : Dev) (m : BitVec 8) : Dev :=
  let s := s.srExit m
  let m := ((subsOf m).filter (fun n => (s.sub n).st = .ready || ((s.sub n).st = .paused && !(s.sub n).fromReplay))).foldl
    (fun a n => a ||| (1#8 <<< n)) 0#8
  let s := (subsOf m).foldl (fun s n => (s.setSub n { s.sub n with st := .paused, fromReplay := false }).lateRefresh n) s
  let s := { s with trn := { s.trn with retrain := some m, repeated := s.trn.repeated &&& ~~~m } }.resetDone (subsOf m)
  s.dramUnready

/-! ### Replay's end and the CA retraining pause (R219, R220, R235) -/

/-- A replay ends without an alert (R221); a refresh that waited is issued (R206), and a landing's READY_DRAM may set (R230). -/
def replayEnd (sub : Fin 8) (s : Dev) : Dev :=
  let c := s.sub sub.val
  if c.st = .replay && !c.alertLow then
    ((s.setSub sub.val { c with st := .ready, alerts := 0, retrained := false }).lateRefresh sub.val).dramCheck
  else s

/-- A component's new CA delay: the centre of the steps that passed, of the 8 either side of its present value (R235). -/
def Dev.caCentre (s : Dev) (n : Nat) (f : Fin 10 × Fin 17 × Fin 17) : Dev :=
  (List.range 4).foldl (fun s k =>
    let key := laneKey 2 (40 * n + 4 * f.1.val + k)
    let c : Int := Int.ofNat (getD 0 key s.trn.applied) + ((f.2.1.val + f.2.2.val) / 2 : Nat) - 8
    s.setDelay key (max 0 (min 255 c)).toNat) s

/-- The CA retraining pause ends (R220, R235): the components with a passing step take their new centre, given as the first and
the last step that passed, 8 being the present value; the others keep their value. The subchannel replays once. -/
def caRetrainEnd (sub : Fin 8) (found : List (Fin 10 × Fin 17 × Fin 17)) (s : Dev) : Dev :=
  let c := s.sub sub.val
  if c.st = .paused && c.fromReplay then ((found.foldl (fun s f => s.caCentre sub.val f) s).startReplay sub.val true) else s

/-! ### Periodic tracking (R233, R234, R241) -/

/-- A delay moves with tracking: its drift, and CENTRE where CENTRE shows it (R233, R234). -/
def Dev.moveDelay (s : Dev) (op i : Nat) (d : Int) : Dev :=
  let k := laneKey op i
  let c : Int := Int.ofNat (getD 0 k s.trn.applied)
  let c' := max 0 (min 255 (c + d))
  let o := getD (0, 0) k s.trn.drift
  let t := o.1 + (c' - c)
  let s := s.setDelay k c'.toNat
  let s := { s with trn := { s.trn with drift := putD (0, 0) k (t, max o.2 t.natAbs) s.trn.drift } }
  if getD 0 (i / 40) s.trn.eyeOp = op then s.showCentre i else s

/-- Step 2 of R233: a component's write delays move by what its oscillator's count stands for, by at most 2 steps. -/
def Dev.writeMove (s : Dev) (n : Nat) (f : Fin 10 × BitVec 16) : Dev :=
  let d := max (-2) (min 2 (Config.oscSteps (getD 0 (10 * n + f.1.val) s.trn.oscBase) f.2.toNat))
  (List.range 4).foldl (fun s k => s.moveDelay 5 (40 * n + 4 * f.1.val + k) d) s

/-- Step 3 of R233: a lane's read delay moves one step toward the side that passed: CENTRE − 1 or CENTRE + 1. -/
def Dev.readMove (s : Dev) (n : Nat) (f : Fin 40 × Bool × Bool) : Dev :=
  match f.2 with
  | (true, false) => s.moveDelay 4 (40 * n + f.1.val) (-1)
  | (false, true) => s.moveDelay 4 (40 * n + f.1.val) 1
  | _ => s

/-- The largest drift of a subchannel's lanes now (R234). -/
def Dev.worstDrift (s : Dev) (n : Nat) : Nat :=
  s.trn.drift.foldl (fun m p => if p.1 % 320 / 40 = n then max m p.2.1.natAbs else m) 0

/-- A subchannel's tracking turn passes: the next in index order follows (R233). -/
def Dev.nextTurn (s : Dev) (n : Nat) : Dev :=
  { s with trn := { s.trn with
    turn := if s.trn.turn = n then (n + 1) % 8 else s.trn.turn, skipped := s.trn.skipped.erase n } }

/-- A tracking pause runs on a subchannel. -/
def Dev.tracking (s : Dev) (n : Nat) : Bool := (s.sub n).st = .paused && !(s.sub n).fromReplay && !s.trnHeld n

/-- The moves of a pause, the drift, and the advice to retrain (R233, R234). -/
def Dev.track (s : Dev) (n : Nat) (counts : List (Fin 10 × BitVec 16)) (passes : List (Fin 40 × Bool × Bool)) : Dev :=
  let s := passes.foldl (fun s f => s.readMove n f) (counts.foldl (fun s f => s.writeMove n f) s)
  if s.regF Reg.DCTL_TRN_PERIODIC 16 4 < s.worstDrift n then
    let s := { s with trn := { s.trn with advised := s.trn.advised ||| (1#8 <<< n) } }
    ((s.latch Reg.DCTL_TRN_ERR 2).logStd LT.DRAM_DRIFT n (s.worstDrift n))
  else s

/-- A subchannel's tracking falls due (R233, R241): in its turn, or where its turn was skipped, it is paused at the end of a
REFab while no other is; one in self-refresh is skipped, and one in another state loses its turn. `counts` are the oscillators'
counts, `passes` whether each lane passed at CENTRE − 1 and at CENTRE + 1. -/
def periodicPause (sub : Fin 8) (counts : List (Fin 10 × BitVec 16)) (passes : List (Fin 40 × Bool × Bool)) (s : Dev) : Dev :=
  let n := sub.val
  if !(s.core.mode = .service || s.core.mode = .maintenance) || s.regF Reg.DCTL_TRN_PERIODIC 31 1 = 0 ||
      !(s.trn.turn = n || s.trn.skipped.contains n) then s
  else
    match (s.sub n).st with
    | .ready =>
      if !s.dctl.afterRef || (List.range 8).any s.tracking then s
      else
        let s := (s.setSub n { s.sub n with st := .paused, fromReplay := false }).wrapReg Reg.DCTL_TRN_DRIFT 16 16 1
        (s.nextTurn n).track n counts passes
    | .selfRefresh =>
      let s := s.nextTurn n
      { s with trn := { s.trn with skipped := insertN n s.trn.skipped } }
    | _ => s.nextTurn n

/-- The tracking pause ends (R221); a refresh that waited is issued (R206). -/
def periodicPauseEnd (sub : Fin 8) (s : Dev) : Dev :=
  if s.tracking sub.val then (s.setSub sub.val { s.sub sub.val with st := .ready }).lateRefresh sub.val else s

/-- DCTL_TRN_DRIFT.MAX_STEPS and SUBCH: the largest drift of any lane since its last gather. -/
def Dev.maxDrift (s : Dev) : Nat × Nat :=
  s.trn.drift.foldl (fun m p => if m.1 < p.2.2 then (p.2.2, p.1 % 320 / 40) else m) (0, 0)

/-- A subchannel idle for IDLE_US enters self-refresh, in RESTORE from READY_DRAM or in MAINTENANCE (R240, R243). -/
def selfRefreshEntry (sub : Fin 8) (s : Dev) : Dev :=
  if (s.core.mode = .restore && s.rdy Rdy.DRAM || s.core.mode = .maintenance) && s.regF Reg.DCTL_SR_CTL 0 10 ≠ 0 &&
      (s.sub sub.val).st = .ready && s.subIdle sub.val then
    (s.srEnter sub.val)
  else s

end Sys2Proof.Machine
end

