-- ==== Sys2Proof/Machine/Modes.lean ====
section
/-!
DEFINITION. The mode machine: every row of Table 1-3, the readiness bits of Table 1-6 that follow from other state, and the
settling of what one part of the device tells another inside one step (R8 to R16, R22, R25).
-/
namespace Sys2Proof.Machine

/-! ### Mode changes (R10, R12) -/

/-- Firmware starts again from its slot: the ROM verifies it and the cores restart (R403). -/
def Dev.fwRestart (s : Dev) : Dev :=
  let s := s.modCore (fun c => { c with fwState := 1, fwRestarts := satAdd 255 c.fwRestarts 1, wdogAt := s.ticks })
  s.logStd LT.FW_FAULT s.core.fwCause s.core.fwRestarts

/-- SAVE is left: the flags of the crossing clear, and cores held in it restart (Table 1-3, R126). -/
def Dev.leaveSave (s : Dev) (dest : Mode) : Dev :=
  let s := s.modCore (fun c => { c with inputReturned := false, onPending := false, recovPending := false, resetPending := false })
  if s.core.fwState = 3 && dest ≠ .recovery then s.fwRestart else s

/-- RECOVERY is entered: the Slipway ROM runs alone; with input good the link domain is up (Table 1-1, Table 1-6). -/
def Dev.enterRecovery (s : Dev) (old : Mode) : Dev :=
  let s := (s.clrReady Rdy.FW).clrReady Rdy.MAILBOX
  let s := s.modCore (fun c => { c with fwState := 1, proxy := none })
  let s := if s.chtr.st = 2 then s.setReady Rdy.SALVAGE else s
  if s.pinsGood && (old = .standby || old = .restore || old = .save) then s.askUp true else s

/-- The mode changes, with its record and what hangs on it; a commit of the update manager is abandoned (R10, R169, Table 19-6). -/
def Dev.setMode (s : Dev) (m : Mode) (e : Ev) : Dev :=
  let old := s.core.mode
  if old = m then s
  else
    let s := s.commitAbort
    let s := s.modCore (fun c => { c with mode := m, prev := old.code, cause := e.code })
    let s := (s.logStd LT.MODE_CHANGE (old.code + 256 * m.code + 65536 * e.code) 0).notifyEv 1
    let s := if old = .save then s.leaveSave m else s
    let s := if old = .recovery then s.clrReady Rdy.SALVAGE else s
    let s := if m = .recovery then s.enterRecovery old else s
    ((s.recompute.chargeJudge).chNext).evalAgain

/-- A transition in progress is displaced: it is cancelled, unless it may not be (R12). -/
def Dev.displace (s : Dev) : Dev :=
  match s.core.trans with
  | some .maintDrain =>
    ((s.modCore (fun c => { c with trans := none })).logRefused .maintenance .maintEnter .aborted).ferryUndrain.recompute
  | some .offAtCheckpoint => (s.modCore (fun c => { c with trans := none })).logRefused .standby .offReq .aborted
  | some .resetFull | some .charterLoad =>
    if s.core.mode = .save then s else (s.modCore (fun c => { c with trans := none })).logRefused .standby .resetFull .aborted
  | _ => s

/-- A rail is raised, or a run is in progress. -/
def Dev.railsMove (s : Dev) : Bool := s.anyRaised || decide (s.seq.run ≠ 0)

/-- The transition in progress waits for the end of a down-timetable. -/
def Dev.wantsDown (s : Dev) : Bool :=
  match s.core.trans with
  | some (.landAbort _ _ _) => true
  | some .offAtCheckpoint => true
  | some (.afterCommit _) => true
  | some .railReland => true
  | some .resetFull => true
  | _ => false

/-- A transition that waits for the down-timetable has it asked for when no run is left to turn (R336, R339). -/
def Dev.ensureDown (s : Dev) : Dev := if s.wantsDown && s.seq.run = 0 then s.askDown false else s

/-- Up-timetable and cold landing: RESTORE. The reference of CORE_LAND_T1 and _T2 is the event that started it (R26). -/
def Dev.coldLanding (s : Dev) (e : Ev) (ref : Nat) : Dev :=
  let s := s.applyProfile.setMode .restore e
  let s := s.modCore (fun c => { c with
    landing := 1, landRef := some ref, t1Wanted := true, t2Wanted := true, heldMainGood := false
    landAttempts := min 3 ((if e = .mainGood then 0 else c.landAttempts) + 1) })
  s.landStart.askUp false

/-- A landing attempt after an abort keeps the reference of the first. -/
def Dev.landAgain (s : Dev) : Dev :=
  let s := s.modCore (fun c => { c with landAttempts := min 3 (c.landAttempts + 1) })
  s.landStart.askUp false

/-- Abort of a landing (Table 1-3): it is never cancelled, and a later abort moves only where it leads (R12). -/
def Dev.abortLanding (s : Dev) (dest : Mode) (e : Ev) (again : Bool) : Dev :=
  match s.core.trans with
  | some (.landAbort _ _ _) =>
    if again then s.ensureDown else (s.modCore (fun c => { c with trans := some (.landAbort dest e false) })).ensureDown
  | _ =>
    let s := s.displace
    ((s.landOff.mapOff).modCore (fun c => { c with trans := some (.landAbort dest e again) })).askDown false

/-- A crossing starts: its first action, in one step (R104, R107, R239, R240, R345, R368). -/
def Dev.cross (s : Dev) (cause : Nat) (e : Ev) (recov reset pack : Bool) : Dev :=
  let s := s.displace
  let s := s.modCore (fun c => { c with inputReturned := false, onPending := false, recovPending := recov, resetPending := reset })
  let s := (s.bgAbandon.firstAction cause pack).linkHold
  let s := (s.marginsEnd.freqCut.retrainCut.srExit 0xFF#8).chargerOff
  (s.notifyEv 2).setMode .save e

/-- RESTORE with READY_MAP set, SERVICE and MAINTENANCE: the modes from which a crossing starts. -/
def Dev.holdsData (s : Dev) : Bool :=
  (s.core.mode = .restore && s.rdy Rdy.MAP) || s.core.mode = .service || s.core.mode = .maintenance

/-- RESTORE with READY_MAP clear. -/
def Dev.landingOpen (s : Dev) : Bool := s.core.mode = .restore && !s.rdy Rdy.MAP

/-! ### The events of Table 1-3 -/

/-- INPUT_FAIL and REMOVAL (R9, R14). A MAIN_GOOD that is held (R11) is withdrawn: the spec does not say what becomes of it
when the input fails before the transition ends. DESIGN CHOICE: assumption 84. -/
def Dev.evInputLost (s : Dev) (e : Ev) (cause : Nat) : Dev :=
  let s := s.modCore (fun c => { c with inputGood := false, heldMainGood := false })
  if s.holdsData then s.cross cause e false false true
  else
    match s.core.mode with
    | .standby => if s.railsMove then s.askDown false else s
    | .restore => s.abortLanding .standby e false
    | .save => s.modCore (fun c => { c with inputReturned := false })
    | .recovery => if s.railsMove then s.askDown true else s
    | _ => s

/-- MAIN_GOOD: held while a charter load runs (R11, R16); in every mode the landing attempts count from it (R26). -/
def Dev.evMainGood (s : Dev) : Dev :=
  let s := s.modCore (fun c => { c with inputGood := true, landAttempts := 0 })
  if s.core.trans = some .auxOn || s.core.trans = some .charterLoad then
    s.modCore (fun c => { c with heldMainGood := true, landRef := some s.ticks })
  else
    match s.core.mode with
    | .standby => s.displace.coldLanding .mainGood s.ticks
    | .save => (s.modCore (fun c => { c with inputReturned := true })).modXing (fun x => { x with allBattery := false })
    | .recovery => s.displace.askUp true
    | _ => s


/-- PERST_ON: link reset, of a link that is held too (Table 7-2). -/
def Dev.evPerstOn (s : Dev) : Dev := if s.hlnk.link ≠ .down then s.linkLost .down else s

/-- A start from STANDBY on the levels of the pins: PERST_OFF and ON_REQ. -/
def Dev.startFrom (s : Dev) (e : Ev) : Dev := s.displace.coldLanding e s.ticks

/-- PERST_OFF: link training follows from the pin; in STANDBY a landing starts where the input is good. -/
def Dev.evPerstOff (s : Dev) : Dev := if s.core.mode = .standby && s.pinsGood then s.startFrom .perstOff else s

/-- HOST_ABSENT. -/
def Dev.evHostAbsent (s : Dev) : Dev :=
  if s.core.hostAbsentArmed && decide (s.regF Reg.CORE_POWER_TIMES 0 16 ≠ 0) then s.cross 5 .hostAbsent false false false else s

/-- RAIL_CRIT. -/
def Dev.evRailCrit (s : Dev) : Dev :=
  if s.holdsData then s.cross 3 .railCrit false false (!s.core.inputGood)
  else if s.core.mode ≠ .restore then s
  else
    match s.core.trans with
    | some (.landAbort _ _ _) => s.ensureDown
    | _ =>
      if s.core.landAttempts < 3 then s.abortLanding .restore .railCrit true
      else
        let s := s.logStd LT.LAND_ABORT (Mode.restore.code + 256 * Mode.standby.code + 65536 * Ev.railCrit.code) 0
        s.abortLanding .standby .railCrit false

/-- OFF_REQ. -/
def Dev.evOffReq (s : Dev) : Dev :=
  if s.holdsData then s.cross 4 .offReq false false false
  else
    match s.core.mode with
    | .restore =>
      (match s.core.trans with
       | some (.landAbort _ _ _) => s.abortLanding .standby .offReq false
       | some .offAtCheckpoint => s
       | _ => (s.modCore (fun c => { c with trans := some .offAtCheckpoint })).askDown false)
    | .save => s.modCore (fun c => { c with onPending := false })
    | .recovery => if s.railsMove then s.askDown true else s
    | _ => s

/-- ON_REQ, with its ST_ code. -/
def Dev.evOnReq (s : Dev) : Dev × St :=
  match s.core.mode with
  | .standby => if s.pinsGood then (s.startFrom .onReq, .ok) else (s, .noInput)
  | .save => (s.modCore (fun c => { c with onPending := true }), .ok)
  | _ => (s, .ok)

/-- MAINT_ENTER, with its ST_ code: the drain starts; MAINTENANCE is entered when it ends. -/
def Dev.evMaintEnter (s : Dev) : Dev × St :=
  if s.core.mode ≠ .service then (s.logRefused .maintenance .maintEnter .wrongMode, .wrongMode)
  else if s.core.trans = some .maintDrain then (s, .ok)
  else (((s.modCore (fun c => { c with trans := some .maintDrain })).ferryDrain.recompute).note .drainCheck, .ok)

/-- MAINT_EXIT, with its ST_ code. -/
def Dev.evMaintExit (s : Dev) : Dev × St :=
  if s.core.mode ≠ .maintenance then (s.logRefused .service .maintExit .wrongMode, .wrongMode)
  else
    let s := (s.bgAbandon.marginsEnd.retrainCut.freqLeave.srExit 0xFF#8).ferryUndrain
    ((s.setMode .service .maintExit).evalAgain, .ok)

/-- RECOV_REQ. -/
def Dev.evRecovReq (s : Dev) : Dev :=
  if s.holdsData then s.cross 4 .recovReq true false false
  else
    match s.core.mode with
    | .standby => s.displace.setMode .recovery .recovReq
    | .restore => s.abortLanding .recovery .recovReq false
    | .save => s.modCore (fun c => { c with recovPending := true })
    | _ => s

/-- LAND_DONE: SERVICE, and self-refresh is left (R240). -/
def Dev.evLandDone (s : Dev) : Dev :=
  match s.core.mode, s.core.trans with
  | .restore, some (.landAbort _ _ _) => s
  | .restore, _ => ((s.displace.srExit 0xFF#8).setMode .service .landDone).evalAgain
  | _, _ => s

/-- The charter load of RESET_FULL starts. -/
def Dev.startLoad (s : Dev) : Dev := s.resetForLoad.modCore (fun c => { c with trans := some .charterLoad })

/-- RESET_FULL, with its ST_ code: the down-timetable of every raised rail, then the charter load. -/
def Dev.evResetFull (s : Dev) : Dev × St :=
  match s.core.mode with
  | .standby | .recovery =>
    if s.core.trans.isSome then (s, .ok)
    else if s.railsMove then ((s.modCore (fun c => { c with trans := some .resetFull })).askDown false, .ok)
    else (s.startLoad, .ok)
  | .maintenance => (s.cross 4 .resetFull false true false, .ok)
  | .unpowered => (s, .ok)
  | _ => (s.logRefused .standby .resetFull .wrongMode, .wrongMode)

/-- COMMIT: the rows of Table 1-3 in table order (R13, R126). -/
def Dev.evCommit (s : Dev) : Dev :=
  let c := s.core
  let s := s.notifyEv 2
  let down (t : Trans) (s : Dev) : Dev := (s.modCore (fun c => { c with trans := some t })).askDown false
  let returned : Bool := c.inputReturned && (s.xing.cause = 1 || s.xing.cause = 2)
  let absent : Bool := s.pins.perstN && s.xing.cause = 5
  if c.mode ≠ .save || c.trans.isSome then s
  else if c.recovPending then down (.afterCommit .recovery) s
  else if c.resetPending then down .resetFull s
  else if s.xing.cause = 3 && s.pinsGood then down .railReland (s.modCore (fun c => { c with landRef := some s.ticks }))
  else if s.xing.cause ≠ 3 && s.pinsGood && (returned || c.onPending || absent) then
    ((s.modCore (fun c => { c with landing := 2 })).warmLanding.linkWarm).setMode .service .commit
  else down (.afterCommit .standby) s

/-- A FW_FAULT, with its cause (R401, R403, Table 1-3). -/
def Dev.fwFault (s : Dev) (cause : Nat) : Dev :=
  if s.core.mode = .unpowered || s.core.fwState = 0 || s.core.fwState = 3 then s
  else
    let s := (s.clrReady Rdy.FW).clrReady Rdy.MAILBOX
    let s := s.modCore (fun c => { c with proxy := none, fwCause := cause, fwFaults := c.fwFaults + 1 })
    let s := s.trnDiscard
    let s := (if s.trn.retrain.isSome then s.bgAbandon.retrainCut else s).trnFwFault
    let s := match s.core.mode with
      | .save => (s.modCore (fun c => { c with fwState := 3 })).latch Reg.XING_ERR 5
      | .recovery => s.bgAbandon.commitAbort.fwRestart
      | _ =>
        if 3 ≤ s.core.fwFaults then (s.modCore (fun c => { c with fwState := 1 })).evRecovReq
        else s.fwRestart
    s.updFwFault

/-- A mode event, with its ST_ code. -/
def Dev.modeEvent (s : Dev) (e : Ev) : Dev × St :=
  match e with
  | .mainGood => (s.evMainGood, .ok)
  | .inputFail => (s.evInputLost .inputFail 1, .ok)
  | .removal => (s.evInputLost .removal 2, .ok)
  | .perstOn => (s.evPerstOn, .ok)
  | .perstOff => (s.evPerstOff, .ok)
  | .hostAbsent => (s.evHostAbsent, .ok)
  | .railCrit => (s.evRailCrit, .ok)
  | .offReq => (s.evOffReq, .ok)
  | .onReq => s.evOnReq
  | .maintEnter => s.evMaintEnter
  | .maintExit => s.evMaintExit
  | .recovReq => (s.evRecovReq, .ok)
  | .landDone => (s.evLandDone, .ok)
  | .commit => (s.evCommit, .ok)
  | .resetFull => s.evResetFull
  | .auxOn | .auxOff | .fwFault => (s, .ok)

/-! ### The charter load ends (Table 1-3) -/

/-- READY_CHARTER: STANDBY or RECOVERY, and a MAIN_GOOD that was held or that RESET_FULL raises. -/
def readyCharter (s : Dev) : Dev :=
  let booting : Bool := s.core.trans = some .auxOn
  if !(booting && s.rdy Rdy.AON) && s.core.trans ≠ some .charterLoad then s
  else if s.chtr.st < 2 then s
  else
    let ev : Ev := if booting then .auxOn else if s.core.mode = .save then .commit else .resetFull
    let (s, good) := s.loadCharter
    let held := s.core.heldMainGood
    let ref := if held then s.core.landRef.getD s.ticks else s.ticks
    let s := s.modCore (fun c => { c with trans := none, heldMainGood := false, fwState := 1 })
    let s := if good then s.setMode .standby ev
      else
        let s := s.logStd LT.BOOT_FAIL (s.core.mode.code + 256 * Mode.recovery.code + 65536 * ev.code) 0
        s.setMode .recovery ev
    if (held || !booting) && s.pinsGood then
      let s := s.modCore (fun c => { c with inputGood := true })
      if good then s.coldLanding .mainGood ref else s.askUp true
    else s

/-- READY_FW: the firmware has started (R16, Table 1-6). -/
def readyFw (s : Dev) : Dev :=
  if s.core.mode = .unpowered || s.core.mode = .recovery || s.core.trans = some .charterLoad || s.core.fwState ≠ 1 || !s.rdy Rdy.CHARTER then s
  else ((s.modCore (fun c => { c with fwState := 2 })).setReady Rdy.FW).updFwReady

/-! ### Runs of the sequencer -/

/-- The up-timetable passes its persistence checkpoint (R16 step 4). -/
def Dev.railsUp (s : Dev) : Dev :=
  let s := if s.fery.k = 0 then s.seedEnergy else s
  s.flshStart.cipherStart.dctlStart

/-- DRAM training loses its state. -/
def Dev.trnOff (s : Dev) : Dev := { s with trn := TrnSt.reset }

/-- The down-timetable starts (Tables 1-6, 3-6, 4-5, 5-7, 6-4, 7-2, 9-4, 11-7, 13-3). -/
def Dev.downStart (s : Dev) : Dev :=
  let s := s.ferryOff.landOff.mapOff.flshOff.cipherOff.dctlOff
  let s := s.trnOff
  let s := (s.clrReady Rdy.DRAM).clrReady Rdy.PERSIST
  let s := s.modXing (fun (x : XingSt) => { x with st := if x.st = XState.abandoned then XState.abandoned else XState.disarmed })
  let s := s.modHlnk (fun (h : HlnkSt) => { h with wait := [], held := [], gpf := [], memActive := false })
  if s.hlnk.link = .held then s.linkOff else s

/-- The down-timetable ends: the transition that waited for it goes on. -/
def Dev.downEnd (s : Dev) : Dev :=
  let done (s : Dev) : Dev := s.modCore (fun c => { c with trans := none })
  match s.core.trans with
  | some (.landAbort dest e again) => if again then (done s).landAgain else (done s).setMode dest e
  | some .offAtCheckpoint => (done s).setMode .standby .offReq
  | some (.afterCommit dest) => (done s).setMode dest .commit
  | some .railReland => (done s).coldLanding .commit (s.core.landRef.getD s.ticks)
  | some .resetFull => s.startLoad
  | _ => s

/-! ### Notes and settling -/

/-- Take a note. -/
def Dev.takeNote (s : Dev) (n : Note) : Dev :=
  match n with
  | .mode e => (s.modeEvent e).1
  | .railsReady => s.railsUp
  | .linkCheckpoint => s
  | .upEnded => s.ensureDown
  | .downStarted => s.downStart
  | .downEnded => s.downEnd
  | .epochStall => s.ferryHalt
  | .epochOk => s.ferryResume
  | .nandRail ch => s.dropChannel ch 0x31
  | .committed => s.evCommit
  | .abandoned => s.askDown false
  | .pathOut => if s.crossing then s.abandon else s
  | .packCut => if s.crossing then s.abandon else s
  | .check | .retry | .drainCheck | .linkRail => s
  | .captured id => s.lostLines id

/-- READY_HOSTMEM (Table 1-6), and CORE_LAND_T1 when it first sets in a cold landing (R26). -/
def Dev.hostmemEval (s : Dev) : Dev :=
  let all := s.rdy Rdy.NAND && s.rdy Rdy.CIPHER && s.rdy Rdy.DRAM && s.rdy Rdy.MAP && s.rdy Rdy.LINK
  let want := (s.core.mode = .restore || s.core.mode = .service) && all
  let s := s.putReady Rdy.HOSTMEM want
  let ms := match s.core.landRef with | some t => min 0xFFFFFF ((s.ticks - t) / 25000) | none => 0
  let s := if want && s.core.t1Wanted then
      (s.setRegF Reg.CORE_LAND_T1 0 24 ms).modCore (fun c => { c with t1Wanted := false })
    else s
  if s.rdy Rdy.RESTORED && s.core.t2Wanted then
    (s.setRegF Reg.CORE_LAND_T2 0 24 ms).modCore (fun c => { c with t2Wanted := false })
  else s

/-- The ferry engine starts (Table 4-5). -/
def Dev.ferryEval (s : Dev) : Dev :=
  let s := if s.rdy Rdy.MAP && s.rdy Rdy.NAND && s.rdy Rdy.CIPHER && (s.core.mode = .restore || s.core.mode = .service) &&
      (match s.core.trans with | some (.landAbort _ _ _) => false | _ => true) then s.ferryStart else s
  s.drainEnd.idleDrain

/-- The drain of MAINT_ENTER ends: READY_HOSTMEM clears and MAINTENANCE is entered (Table 1-3). -/
def Dev.maintEval (s : Dev) : Dev :=
  if s.core.trans = some .maintDrain && s.fery.eng = .idle then
    ((s.modCore (fun c => { c with trans := none })).clrReady Rdy.HOSTMEM).setMode .maintenance .maintEnter
  else s

/-- The host-absent timer runs while PERST_N is low in SERVICE or MAINTENANCE (Table 1-2). -/
def Dev.absentEval (s : Dev) : Dev :=
  let arm : Bool := !s.pins.perstN && (s.core.mode = .service || s.core.mode = .maintenance)
  if s.core.hostAbsentArmed = arm then s else s.modCore (fun c => { c with hostAbsentArmed := arm })

/-- Everything that follows from the state as it stands. -/
def Dev.evalOnce (s : Dev) : Dev :=
  let s := s.rollbackWaits.updReload.applyTimetable.planNext.chNext
  let s := (s.mapStart.landCheck.demandTake 64).hostmemEval.linkEval
  let s := s.armEval.ferryEval.maintEval
  let s := s.admitDescs.memRetry s.hlnk.wait []
  let s := (s.retryCommits.thruGo 1024).frontLow.placeAll
  let s := (s.fillClosing []).launchAll.journalStep
  s.bellRelease.pmKick.absentEval.gpfCheck.healthEval.devloadEval.creditEval

/-- Notes are taken in order, and what follows from the state is evaluated, until nothing is left. -/
def Dev.settleLoop : Nat → Dev → Dev
  | 0, s => s
  | n + 1, s =>
    match s.todo with
    | [] =>
      let s := s.evalOnce
      if s.todo.isEmpty then s else Dev.settleLoop n s
    | x :: rest => Dev.settleLoop n ({ s with todo := rest }.takeNote x)

/-- The step settles. The notes that one command can cause, and those that they cause in turn, are far fewer than the rounds
given. -/
def Dev.settle (s : Dev) : Dev :=
  if !s.aonUp then { s with todo := [] }
  else
    let s := s.settleLoop 256
    if s.unfed then s.powerLost else s

end Sys2Proof.Machine
end

