-- ==== Sys2Proof/Machine/RegView.lean ====
section
/-!
DEFINITION. What a read of a register returns (R3 to R7, R463): registers that report live state are computed here; the others read
what the register file holds, with write-only bits reading 0; a register without power, or held in reset, reads 0 (R167, R468).
-/
namespace Sys2Proof.Machine

/-- A 64-bit value at a _LO / _HI pair. -/
def loHi (off lo v : Nat) : Option Nat :=
  if off = lo then some (v % 2 ^ 32) else if off = lo + 4 then some (v / 2 ^ 32 % 2 ^ 32) else none

/-- The index of an offset in an array of n words from `base`. -/
def arrIdx (off base n : Nat) : Option Nat := if base ≤ off && off < base + 4 * n then some ((off - base) / 4) else none

/-- A set of numbers as bits. -/
def setBits (l : List Nat) : Nat := l.foldl (fun m n => m ||| 2 ^ n) 0

/-- A signed 16-bit field. -/
def twos16 (i : Int) : Nat := (i % 65536).toNat

/-! ### CORE, HLNK and FAB -/

/-- CORE_MODE (R26). Until READY_CHARTER ends the AUX_ON transition, MODE reads its reset value, 1. -/
def Dev.coreMode (s : Dev) : Nat :=
  let c := s.core
  (if c.mode = .unpowered then 1 else c.mode.code) + fieldAt 4 4 c.prev + fieldAt 8 5 c.cause + fieldAt 13 2 c.landing + fieldAt 15 1 (b2n c.inputReturned) +
    fieldAt 16 1 (b2n c.onPending) + fieldAt 17 1 (b2n c.recovPending) + fieldAt 18 2 (min 3 c.fwFaults) + fieldAt 20 1 (b2n c.resetPending)

/-- CORE registers. -/
def Dev.viewCore (s : Dev) (off : Nat) : Option Nat :=
  let c := s.core
  if off = Reg.CORE_MODE then some s.coreMode
  else if off = Reg.CORE_MODE_RESULT then some c.modeResult.code
  else if off = Reg.CORE_READY then some c.ready.toNat
  else if off = Reg.CORE_BOOT then some s.coreBoot
  else if off = Reg.CORE_LOCK then some (b2n c.locked + fieldAt 1 1 (s.regF off 1 1) + fieldAt 2 1 (b2n c.lockEarly))
  else if off = Reg.CORE_FW_STATUS then
    some (c.fwState % 4 + fieldAt 2 2 c.fwCause + fieldAt 4 1 (b2n c.proxy.isSome) + fieldAt 8 8 (min 255 c.fwRestarts))
  else none

/-- CXL.mem requests in flight (HLNK_INFLIGHT, FAB_STATUS.INFLIGHT). -/
def Dev.inFlight (s : Dev) : Nat := min 8192 (s.hlnk.reqOut + s.hlnk.rwdOut)

/-- HLNK registers (R180). -/
def Dev.viewHlnk (s : Dev) (off : Nat) : Option Nat :=
  if off = Reg.HLNK_LINK_STATUS then some s.linkStatus
  else if off = Reg.HLNK_CREDITS then some (s.reqPool + fieldAt 16 12 s.rwdPoolNow)
  else if off = Reg.HLNK_INFLIGHT then some s.inFlight
  else if off = Reg.HLNK_DEVLOAD then some (s.hlnk.devload % 4 + fieldAt 16 16 (s.regF off 16 16))
  else (arrIdx off Reg.HLNK_LD_ALLOC 16).map (fun n =>
    let g := s.ldSizes.getD n 0
    fieldAt 0 11 (baseIn s.ldSizes n) + fieldAt 16 11 g + fieldAt 31 1 (b2n (decide (g ≠ 0))))

/-- FAB registers (R195). AT_FLOOR and AT_CEIL show the rail's voltage as it is (DEDUCED: assumption 110). -/
def Dev.viewFab (s : Dev) (off : Nat) : Option Nat :=
  let mv := s.regF Reg.FAB_AVS_STATUS 0 10
  if off = Reg.FAB_STATUS then some (b2n s.mainUp + fieldAt 16 14 s.inFlight)
  else if off = Reg.FAB_AVS_STATUS then
    some (mv + fieldAt 10 1 (b2n (mv = 700)) + fieldAt 11 1 (b2n (mv = 800)) + fieldAt 16 16 (s.regF off 16 16))
  else none

/-! ### DCTL -/

/-- A mask of the subchannels in a state. -/
def Dev.subMask (s : Dev) (p : SubCh → Bool) : Nat := setBits ((List.range 8).filter (fun n => p (s.sub n)))

/-- DCTL registers (R223, R241). -/
def Dev.viewDctl (s : Dev) (off : Nat) : Option Nat :=
  if off = Reg.DCTL_STATUS then
    some ((List.range 8).foldl (fun v n => v + fieldAt (3 * n) 3 (s.sub n).st.code) 0 + fieldAt 24 1 (b2n s.dctl.hot) +
      fieldAt 25 1 (s.regF off 25 1))
  else if off = Reg.DCTL_RH_STATUS then
    some (s.regF off 0 16 + fieldAt 16 8 (min 255 (s.dctl.banks.foldl (fun n b => n + b.2.flagged.length) 0)))
  else if off = Reg.DCTL_TRN_STATUS then
    some ((match s.trn.gather with | some (m, _) => m.toNat | none => 0) + fieldAt 8 8 s.trn.pending.toNat +
      fieldAt 16 8 s.trn.advised.toNat)
  else if off = Reg.DCTL_TRN_DRIFT then
    some (min 255 s.maxDrift.1 + fieldAt 8 3 s.maxDrift.2 + fieldAt 16 16 (s.regF off 16 16))
  else if off = Reg.DCTL_SR_STATUS then some (s.subMask (fun c => c.st = .selfRefresh) + fieldAt 16 16 (s.regF off 16 16))
  else if off = Reg.DCTL_FREQ_STATUS then
    some (s.trn.phase.code + fieldAt 4 4 s.trn.setA + fieldAt 8 4 s.trn.setB + fieldAt 12 3 s.trn.lastResult)
  else (arrIdx off Reg.DCTL_BQ_OCC 128).map (fun k =>
    (List.range 4).foldl (fun v j => v + fieldAt (8 * j) 8 (s.bank (4 * k + j)).queue.length) 0)

/-! ### GMAP and FERY -/

/-- An access waits for a cache way (R68). -/
def Dev.busyWait (s : Dev) : Bool :=
  s.hlnk.wait.any (fun r => (s.cacheAccess (granuleOf r.dpa)).isNone) ||
    s.flsh.commitWait.any (fun id => match s.copy? id with | some c => (s.cacheAccess c.idx).isNone | none => false) ||
    (match s.pickPinned with | some p => (s.cacheAccess p.g).isNone | none => false)

/-- The progress of a rebuild, in per mille; how far it is while it runs, nothing states. Before any rebuild it reads 0, and once
the scan has ended 1000 for as long as SOURCE reads 3: the spec is silent on both. DESIGN CHOICE: assumption 40. -/
def Dev.rebuildProgress (s : Dev) : Nat :=
  if s.gmap.phase = .rebuilding then Config.freeValue s.freeCtr % 1001 else if s.gmap.source = 3 then 1000 else 0

/-- GMAP registers (R81). -/
def Dev.viewGmap (s : Dev) (off : Nat) : Option Nat :=
  let m := s.gmap
  if off = Reg.GMAP_STATUS then some s.gmapStatus
  else if off = Reg.GMAP_GEOMETRY then some (s.hostGranules % 2 ^ 26)
  else if off = Reg.GMAP_REGION_BASE_LO || off = Reg.GMAP_REGION_BASE_HI then loHi off Reg.GMAP_REGION_BASE_LO (G * s.hostGranules)
  else if off = Reg.GMAP_CACHE_CTL then some (s.regF off 0 2 + fieldAt 2 1 (b2n s.busyWait))
  else if off = Reg.GMAP_MAPDIRTY then some (s.mapDirtyCount % 65536 + fieldAt 16 16 (s.regF off 16 16))
  else if off = Reg.GMAP_MAPDIRTY_CAP then some (s.capEff % 65536)
  else if off = Reg.GMAP_CKPT_SEQ_LO || off = Reg.GMAP_CKPT_SEQ_HI then loHi off Reg.GMAP_CKPT_SEQ_LO m.ckptSeq
  else if off = Reg.GMAP_COUNT_UNRESTORED then some (m.unrestored % 2 ^ 26)
  else if off = Reg.GMAP_COUNT_POISONED then some (m.entries.countP (fun e => e.2.poison) % 2 ^ 26)
  else if off = Reg.GMAP_LOOKUP_IDX then some (s.regF off 0 26 + fieldAt 31 1 (b2n m.lookupDone))
  else if off = Reg.GMAP_LOOKUP_LO || off = Reg.GMAP_LOOKUP_HI then loHi off Reg.GMAP_LOOKUP_LO m.lookup.toNat
  else if off = Reg.GMAP_REBUILD then some s.rebuildProgress
  else none

/-- The code of a ferry-engine state (Table 4-5). -/
def FeryMode.code : FeryMode → Nat
  | .off => 0 | .run => 1 | .drain => 2 | .idle => 3 | .lent => 4 | .halted => 5

/-- f in per cent (FERY_BUDGET_STATE.FILL). -/
def Dev.fillPct (s : Dev) : Nat := if s.fery.b = 0 || s.fery.b ≤ s.d then 100 else 100 * s.d / s.fery.b

/-- FERY_BUDGET_STATE (R54). -/
def Dev.budgetState (s : Dev) : Nat :=
  let f := s.fery
  f.stage % 8 + fieldAt 3 2 f.bind + fieldAt 5 1 (b2n (decide (f.b < s.d))) + fieldAt 6 1 (b2n f.breach) + fieldAt 8 7 s.fillPct

/-- Crossing-index records, or host granules, that the fold walk has still to visit (R94). -/
def Dev.foldPending (s : Dev) : Nat :=
  match s.fery.fold with
  | .none => 0
  | .index rest => rest.length
  | .table next => s.hostGranules - next

/-- FERY registers of chapter 2 (R54). -/
def Dev.viewBudget (s : Dev) (off : Nat) : Option Nat :=
  let f := s.fery
  let mib (v : Nat) : Option Nat := some (v / 2 ^ 20 % 2 ^ 24)
  if off = Reg.FERY_BUDGET_BYTES_LO || off = Reg.FERY_BUDGET_BYTES_HI then loHi off Reg.FERY_BUDGET_BYTES_LO f.b
  else if off = Reg.FERY_DIRTY_BYTES_LO || off = Reg.FERY_DIRTY_BYTES_HI then loHi off Reg.FERY_DIRTY_BYTES_LO s.d
  else if off = Reg.FERY_LIM_ENERGY then mib f.limEnergy
  else if off = Reg.FERY_LIM_HARD then mib f.limHard
  else if off = Reg.FERY_LIM_REGION then mib f.limRegion
  else if off = Reg.FERY_LIM_CFG then mib f.limCfg
  else if off = Reg.FERY_BUDGET_STATE then some s.budgetState
  else if off = Reg.FERY_PINNED then some f.pinned.length
  else if off = Reg.FERY_HEALTH_CAP then some s.healthCap
  else if off = Reg.FERY_ENERGY_K then
    some ((if f.k = 0 then 0x0C80 else f.k % 65536) + fieldAt 16 8 (min 255 f.kUpdates) + fieldAt 24 1 (b2n f.kFromRecord))
  else if off = Reg.FERY_ENERGY_INPUT then some (f.eInput % 2 ^ 24 + fieldAt 31 1 (b2n f.eInvalid))
  else none

/-- Queued candidates: those of the sweeper, and those that DRAIN_ONCE queued (R103), up to the queue's 8,192. -/
def Dev.candCount (s : Dev) : Nat :=
  min 8192 (s.fery.cand.length + s.fery.drainOnce.countP (fun g => !s.fery.cand.any (fun c => c.1 = g)))

/-- FERY registers of chapter 4 (R104). -/
def Dev.viewFery (s : Dev) (off : Nat) : Option Nat :=
  let f := s.fery
  if off = Reg.FERY_STATUS then
    some (f.eng.code + fieldAt 3 2 s.feryPriority + fieldAt 5 1 (b2n (decide (s.candCount ≠ 0) && !s.bgGate)) + fieldAt 6 1 (b2n f.atFloor) +
      fieldAt 7 1 (b2n f.drainPending) + fieldAt 8 7 s.moversBusy + fieldAt 16 13 s.ferryCopies.length)
  else if off = Reg.FERY_CTL then some (s.regF off 0 1 + fieldAt 1 1 (b2n (decide (f.drainOnce ≠ []))) + fieldAt 2 30 (s.regF off 2 30))
  else if off = Reg.FERY_SWEEP_STATUS then some (s.regF off 0 16 + fieldAt 16 16 f.sweepPasses)
  else if off = Reg.FERY_CANDIDATES then some s.candCount
  else if off = Reg.FERY_COMMITS_LO || off = Reg.FERY_COMMITS_HI then loHi off Reg.FERY_COMMITS_LO f.commits
  else if off = Reg.FERY_FOLD_PENDING then some (s.foldPending % 2 ^ 26)
  else if off = Reg.FERY_WEAR_RATE then some (s.dailyBytes / 86400 % 2 ^ 32)
  else if off = Reg.FERY_WEAR_BAL_LO || off = Reg.FERY_WEAR_BAL_HI then loHi off Reg.FERY_WEAR_BAL_LO (twos64 f.wear)
  else if off = Reg.FERY_WEAR_FLOOR_LO || off = Reg.FERY_WEAR_FLOOR_HI then loHi off Reg.FERY_WEAR_FLOOR_LO (twos64 s.wearFloor)
  else if off = Reg.FERY_WEAR_TOTAL_LO || off = Reg.FERY_WEAR_TOTAL_HI then loHi off Reg.FERY_WEAR_TOTAL_LO f.wearTotal
  else s.viewBudget off

/-! ### XING and FLSH -/

/-- The code of a landing state (Table 6-4). -/
def LState.code : LState → Nat
  | .off => 0 | .waiting => 1 | .restoring => 2 | .suspended => 3 | .done => 4

/-- The module runs from the pack (XING_STATUS.ON_BATTERY): rails are up and the input is not good. -/
def Dev.onBattery (s : Dev) : Bool := s.anyRaised && !s.core.inputGood

/-- XING_STATUS (R128). -/
def Dev.xingStatus (s : Dev) : Nat :=
  let x := s.xing
  x.st.code + fieldAt 4 3 x.cause + fieldAt 8 1 (b2n s.onBattery) + fieldAt 9 1 (b2n x.channelLost) + fieldAt 10 4 x.lostChannel +
    fieldAt 14 1 (b2n x.breach) + fieldAt 15 1 (b2n (s.core.fwState = 3))

/-- XING_LAND_STATUS (R148). -/
def Dev.landStatus (s : Dev) : Nat :=
  let l := s.land
  l.st.code + fieldAt 3 1 (b2n l.incomplete) + fieldAt 4 1 (b2n l.blank) +
    fieldAt 5 1 (b2n (decide (l.st ≠ .off) && (s.unrestoredIn s.prioBase s.prioLimit).isNone)) + fieldAt 6 1 (b2n l.sessionOpen)

/-- XING registers (R128, R148). -/
def Dev.viewXing (s : Dev) (off : Nat) : Option Nat :=
  if off = Reg.XING_STATUS then some s.xingStatus
  else if off = Reg.XING_ARM then some (s.armCond + fieldAt 8 1 (b2n (s.rdy Rdy.PERSIST)))
  else if off = Reg.XING_REMAIN then some s.xing.remain
  else if off = Reg.XING_CARRIED then some s.xing.carried
  else if off = Reg.XING_ENERGY_LIVE then some s.xing.energyMj
  else if off = Reg.XING_LAND_STATUS then some s.landStatus
  else if off = Reg.XING_RESTORED then some (s.land.restored % 2 ^ 26)
  else if off = Reg.XING_RESTORE_CURSOR then some (s.land.cursor % 2 ^ 26)
  else none

/-- Dies lost or excluded among 32 (FLSH_DIE_LOST). -/
def Dev.dieLostBits (s : Dev) (n : Nat) : Nat :=
  setBits ((List.range 32).filter (fun k =>
    let d := s.flsh.dies.getD (32 * n + k) DieSt.reset
    d.st = .lost || d.st = .excluded))


/-- FLSH registers (R276). -/
def Dev.viewFlsh (s : Dev) (off : Nat) : Option Nat :=
  let f := s.flsh
  let p := s.geo
  if off = Reg.FLSH_STATUS then some (f.st % 4 + fieldAt 8 8 s.workingDies + fieldAt 16 16 (setBits f.chLost))
  else if off = Reg.FLSH_PROFILE then
    some (if f.prof.isNone then 0 else p.id % 65536 + fieldAt 16 4 p.diesPerCh + fieldAt 20 1 (b2n p.toggle) + fieldAt 24 6 p.rate)
  else if off = Reg.FLSH_BLOCKS then
    some (if f.prof.isNone then 0 else p.blocks % 4096 + fieldAt 12 12 s.xrBlocks + fieldAt 24 8 p.spare)
  else if off = Reg.FLSH_XR_FREE then some (if f.prof.isNone then 0 else s.xrUsable / 2 ^ 20 % 2 ^ 24)
  else if off = Reg.FLSH_IR_FREE then
    some (if f.prof.isNone then 0 else min 65535 ((List.range p.diesPerCh).foldl (fun n d => n + s.erasedImgRows d) 0) +
      fieldAt 16 16 (f.groups.countP (fun g => g.stream = 0 && !g.launched)))
  else if off = Reg.FLSH_SUSPEND then some (s.regN off)
  else if off = Reg.FLSH_ENDURANCE then some (f.level % 8 + fieldAt 8 8 (min 255 s.lifeTlc) + fieldAt 16 8 (min 255 s.lifeSlc))
  else if off = Reg.FLSH_SPARE then
    let (n, loc) := if s.workingPlanes = [] then (0, 0) else s.minPool
    some (min 255 n + fieldAt 8 8 (s.regF off 8 8) + fieldAt 16 4 (locCh loc) + fieldAt 20 3 (locDie loc) + fieldAt 23 2 (locPlane loc))
  else if off = Reg.FLSH_COUNT_RETIRE then
    some (min 65535 (f.blockTable.countP (fun e => decide (1 < e.2.2))) + fieldAt 16 16 (s.regF off 16 16))
  else if off = Reg.FLSH_JOURNAL then
    some (min 65535 ((f.rows.filter (fun r => r.2.st = .undefinedRow)).foldl (fun n r => n + (s.rowBlocks r.1).length) 0 +
        f.blockErase.countP (fun b => b.2.2)) +
      fieldAt 16 16 (min 65535 (s.journal.countP (fun j => decide (j.1 = 1)))))
  else match arrIdx off Reg.FLSH_DIE_LOST 4 with
    | some n => some (s.dieLostBits n)
    | none => (arrIdx off Reg.FLSH_CH 16).map (fun ch =>
        fieldAt 0 8 (s.chQueued ch) + fieldAt 8 4 (s.regF off 8 4) + fieldAt 12 4 (s.chDies ch) + fieldAt 16 1 (b2n (f.chLost.contains ch)))

/-! ### CHTR, CIPH and CHK -/

/-- CHTR_PW_STATUS (R303). -/
def Dev.pwStatusWord (s : Dev) : Nat :=
  let one (pr : Nat) : Nat × Nat × Nat × Nat :=
    let p := s.pwOf pr
    (b2n p.verifier.isSome, b2n p.opened, min 5 p.fails, b2n p.lockout.isSome)
  let (a, b, c, d) := one 3
  let (e, f, g, h) := one 4
  a + 2 * b + 4 * e + 8 * f + fieldAt 4 3 c + fieldAt 7 3 g + fieldAt 10 1 d + fieldAt 11 1 h + fieldAt 16 16 s.chtr.pwStatus

/-- CHTR registers as a requester reads them: `i` is its copy (R297, R303). -/
def Dev.viewChtr (s : Dev) (i off : Nat) : Option Nat :=
  let c := s.chtr
  let q := s.chPort i
  if off = Reg.CHTR_STATUS then
    some (c.st % 4 + fieldAt 2 2 c.proto + fieldAt 4 1 (b2n c.refclk) + fieldAt 5 1 (b2n (decide (c.st = 2) && s.calSealed)) +
      fieldAt 6 1 (b2n c.calValid) + fieldAt 8 3 c.density + fieldAt 16 6 (min 32 c.queue.length))
  else if off = Reg.CHTR_PART then some (c.jedec % 2 ^ 24 + fieldAt 24 1 (b2n c.page512))
  else if off = Reg.CHTR_CHARTER_SEQ then some (c.charterSeq % 2 ^ 32)
  else if off = Reg.CHTR_CHARTER_LEN then some (c.charterLen % 2 ^ 20)
  else if off = Reg.CHTR_DESC_0 then some q.d0.toNat
  else if off = Reg.CHTR_DESC_1 then some q.d1.toNat
  else if off = Reg.CHTR_DESC_2 then some q.d2.toNat
  else if off = Reg.CHTR_CMPL then
    some (match q.cmpl with | (tag, st) :: _ => tag % 256 + fieldAt 8 1 1 + fieldAt 16 16 st | [] => 0)
  else if off = Reg.CHTR_PR_CMD then some (fieldAt 2 1 (b2n c.prBusy) + fieldAt 16 16 c.prStatus)
  else if off = Reg.CHTR_PW_STATUS then some s.pwStatusWord
  else (arrIdx off Reg.CHTR_BUF 1008).map (fun n => leVal (Memory.readBytes 0 q.buf (4 * n) 4))

/-- A lane (CIPH_LANE): how many blocks of a message are done, nothing states. -/
def Dev.laneWord (s : Dev) (n : Nat) : Nat :=
  match s.ciph.lanes.getD n none with
  | none => 0
  | some m => (if m.isSeal then 1 else 2) + fieldAt 2 1 (b2n m.resumed) + fieldAt 4 11 (Config.freeValue s.freeCtr % 1025)

/-- CIPH registers (R329). -/
def Dev.viewCiph (s : Dev) (off : Nat) : Option Nat :=
  let c := s.ciph
  if off = Reg.CIPH_STATUS then
    let st := match c.st with | .off => 0 | .reserve => 1 | .active => 2 | .stalled => 3 | .failed => 4
    some (st + fieldAt 3 1 (b2n c.reserved) + fieldAt 4 5 (c.lanes.countP (fun l => l.isSome)) + fieldAt 9 5 c.suspended.length +
      fieldAt 14 2 c.stallCause)
  else if off = Reg.CIPH_EPOCH then some (c.epoch % 2 ^ 24)
  else if off = Reg.CIPH_LIMIT then some (c.limit % 2 ^ 24)
  else if off = Reg.CIPH_USED then some (c.used % 2 ^ 29)
  else if off = Reg.CIPH_XING_NEED then some (s.nX % 2 ^ 27)
  else if off = Reg.CIPH_TAG_FAILS then some (min 65535 c.tagFailsNand + fieldAt 16 16 (min 65535 c.tagFailsPr))
  else if off = Reg.CIPH_SEALS_LO || off = Reg.CIPH_SEALS_HI then loHi off Reg.CIPH_SEALS_LO c.seals
  else (arrIdx off Reg.CIPH_LANE 16).map s.laneWord

/-- CHK registers (R330). -/
def Dev.viewChk (s : Dev) (off : Nat) : Option Nat :=
  if off < 0xA0100 then
    let c := s.chk.getD ((off - 0xA0000) / 32) (ChkCtx.reset 0)
    match off % 32 with
    | 0x00 => some (c.poly % 4)
    | 0x04 => some c.value.toNat
    | 0x08 => some (c.result % 2 ^ 32)
    | 0x1C => some (b2n c.isMatch + fieldAt 1 1 (b2n c.mismatch) + fieldAt 16 16 (min 65535 c.fed))
    | _ => some 0
  else none

/-! ### SEQ, BATT, TWB, LOG and UPD -/

/-- SEQ_RAIL_n (R354). -/
def Dev.railWord (s : Dev) (n : Nat) : Nat :=
  let r := s.rail n
  r.st.code + fieldAt 3 1 (b2n (decide (0 < r.outWarn))) + fieldAt 4 1 (b2n r.margin.isSome) + fieldAt 5 2 (min 3 r.restarts) +
    fieldAt 8 16 r.mv

/-- SEQ registers (R354). -/
def Dev.viewSeq (s : Dev) (off : Nat) : Option Nat :=
  let q := s.seq
  if off = Reg.SEQ_STATUS then
    some (q.run % 4 + fieldAt 2 1 (b2n q.linkOnly) + fieldAt 3 1 (b2n q.turn) + fieldAt 4 1 (b2n q.upQueued) +
      fieldAt 5 1 (b2n q.saveCommit) + fieldAt 6 1 (b2n q.stopped) + fieldAt 8 4 q.lastCp)
  else if off = Reg.SEQ_TT_STEP then some (q.step % 256 + fieldAt 8 4 (s.steps.getD q.step 0))
  else if off = Reg.SEQ_RAIL_ON then some s.railsOn
  else if off = Reg.SEQ_RAIL_LOCKOUT then some (setBits ((List.range 24).filter (fun n => (s.rail n).st = .lockout)))
  else if off = Reg.SEQ_MARGIN_STATUS then some (twos16 q.marginApplied + fieldAt 16 16 q.marginStatus)
  else if off = Reg.SEQ_BELL_STATUS then some s.bellStatus
  else (arrIdx off Reg.SEQ_RAIL 24).map s.railWord

/-- BATT registers (R372). -/
def Dev.viewBatt (s : Dev) (off : Nat) : Option Nat :=
  let b := s.batt
  if off = Reg.BATT_STATUS then
    let inhibit : Bool := b.due && (match s.packRec with
      | some p => decide (b.temp < 100 * p.tChgMin) || decide (100 * p.tChgMax < b.temp)
      | none => false)
    some (b.st.code + fieldAt 3 1 (b2n s.battValid) + fieldAt 4 1 (b2n b.charging) + fieldAt 5 1 (b2n b.empty) +
      fieldAt 6 1 (b2n b.learned) + fieldAt 7 1 (b2n b.worn) + fieldAt 8 2 b.bind + fieldAt 10 2 (b.rec_.getD 0) + fieldAt 12 1 (b2n inhibit))
  else if off = Reg.BATT_ELB then some (b.elb % 2 ^ 24 + fieldAt 31 1 (b2n (!s.battValid)))
  else if off = Reg.BATT_Q then some s.battQ
  else if off = Reg.BATT_QFULL then some (s.qFullMah % 65536 + fieldAt 16 16 (min 65535 b.learnCount))
  else if off = Reg.BATT_V then some (b.volt % 65536 + fieldAt 16 16 b.ocvLb)
  else if off = Reg.BATT_I then some (twos16 (Int.tdiv b.curAvg 1000))
  else if off = Reg.BATT_TEMP then some (twos16 (Int.tdiv b.temp 10) + fieldAt 16 12 b.idMv)
  else if off = Reg.BATT_CAL then
    some (b.calKind % 8 + fieldAt 8 24 (if b.calKind = 0 then 0 else min 0xFFFFFF ((s.ticks - b.calTick) / 25000000)))
  else if off = Reg.BATT_CTL then some (s.regF off 0 1 + fieldAt 1 1 (b2n b.recal))
  else if off = Reg.BATT_THROUGHPUT then some (b.throughput.floor.toNat % 2 ^ 32)
  else if off = Reg.BATT_TAPERS then some (min 65535 b.tapers + fieldAt 16 16 (min 65535 b.rests))
  else none

/-- The registers of a two-wire port (R392). -/
def Dev.viewPort (s : Dev) (n off : Nat) : Option Nat :=
  let p := s.port n
  match off % 0x100 with
  | 0x00 => some (p.st % 8 + fieldAt 3 2 p.speed + fieldAt 5 1 (b2n p.scl) + fieldAt 6 1 (b2n p.sda) + fieldAt 8 7 p.addr +
      fieldAt 15 1 (b2n p.pecReq))
  | 0x10 => some (p.lastStatus % 65536 + fieldAt 16 8 p.lastCode + fieldAt 24 7 p.lastPeer)
  | 0x14 => if n = 1 then none else some (p.window % 2 ^ 20)
  | 0x18 => if n = 1 then none else some (p.execOp % 65536 + fieldAt 16 2 p.execSt)
  | _ => none

/-- TWB registers (R392). -/
def Dev.viewTwb (s : Dev) (off : Nat) : Option Nat :=
  if off < 0xD0300 then s.viewPort ((off - 0xD0000) / 0x100) off
  else if off = Reg.TWB_XFER_CTL then some (s.regF off 0 22 + fieldAt 31 1 (b2n s.twb.xferGo))
  else if off = Reg.TWB_XFER_STATUS then some (s.twb.xferStatus % 65536)
  else if off = Reg.TWB_SB_NOTIFY_STATUS then some (s.twb.notifyPend.toNat + fieldAt 16 16 s.twb.notifySent)
  else none

/-- LOG registers (R424). -/
def Dev.viewLog (s : Dev) (off : Nat) : Option Nat :=
  let l := s.log
  if off = Reg.LOG_STATUS then some (l.st % 4 + fieldAt 2 6 l.queue.length + fieldAt 8 1 (b2n (decide (l.pending ≠ 0))))
  else if off = Reg.LOG_NEWEST_LO || off = Reg.LOG_NEWEST_HI then
    loHi off Reg.LOG_NEWEST_LO (if l.oldestRseq = 0 then 0 else l.nextRseq - 1)
  else if off = Reg.LOG_OLDEST_LO || off = Reg.LOG_OLDEST_HI then loHi off Reg.LOG_OLDEST_LO l.oldestRseq
  else if off = Reg.LOG_TIME_LO || off = Reg.LOG_TIME_HI then loHi off Reg.LOG_TIME_LO s.opSeconds
  else if off = Reg.LOG_CYCLES then some (l.cycles % 2 ^ 32)
  else none

/-- VERSION of a firmware slot, or 0 when it fails R429. -/
def Dev.fwVersion (s : Dev) (slot : Bool) : Nat := if s.fwSlotOk slot then leAt (s.fwBytes slot) 8 4 else 0

/-- UPD registers (R442). -/
def Dev.viewUpd (s : Dev) (off : Nat) : Option Nat :=
  let u := s.upd
  if off = Reg.UPD_STATUS then
    some (u.st % 8 + fieldAt 3 1 (b2n u.salvage) + fieldAt 4 2 u.owner +
      fieldAt 6 1 (b2n (decide (u.st ≠ 0) && decide (u.held.length = uhPieces u.header))) + fieldAt 7 1 (b2n (decide (u.st ≠ 0) && s.updOneByOne)) +
      fieldAt 8 1 (b2n s.prevValid) + fieldAt 9 1 (b2n u.ttPending) + fieldAt 10 1 (b2n u.npPending))
  else if off = Reg.UPD_SESSION then some (if u.st = 0 then 0 else u.session % 2 ^ 32)
  else if off = Reg.UPD_PIECES then some (if u.st = 0 then 0 else u.held.length % 2 ^ 13 + fieldAt 16 13 (uhPieces u.header))
  else if off = Reg.UPD_PROGRESS then some (u.percent % 128 + fieldAt 8 8 u.kind)
  else if off = Reg.UPD_RESULT then some (u.result % 65536)
  else if off = Reg.UPD_TRIAL then
    let len := max 60 (s.regF off 0 16)
    some (s.regF off 0 16 + fieldAt 16 16 (if u.st = 4 then min 65535 (len - (s.opSeconds - u.trialS)) else 0))
  else if off = Reg.UPD_FW_VER_A then some (s.fwVersion false)
  else if off = Reg.UPD_FW_VER_B then some (s.fwVersion true)
  else if off = Reg.UPD_OTHER_SEQ then
    some (match s.slotCharter (!s.core.charterSlot) with | some c => c.2.seq % 2 ^ 32 | none => 0)
  else none

/-! ### Reads -/

/-- What a register that reports live state reads; `i` is the requester's copy. -/
def Dev.viewReg (s : Dev) (i off : Nat) : Option Nat :=
  match off / 0x10000 with
  | 0x0 => s.viewCore off
  | 0x1 => s.viewHlnk off
  | 0x2 => s.viewFab off
  | 0x3 => s.viewDctl off
  | 0x4 => s.viewGmap off
  | 0x5 => s.viewFery off
  | 0x6 => s.viewXing off
  | 0x7 => s.viewFlsh off
  | 0x8 => s.viewChtr i off
  | 0x9 => s.viewCiph off
  | 0xA => s.viewChk off
  | 0xB => s.viewSeq off
  | 0xC => s.viewBatt off
  | 0xD => s.viewTwb off
  | 0xE => s.viewLog off
  | _ => s.viewUpd off

/-- What a register reads: reserved offsets and registers without power read 0, and so do write-only bits (R3, R4, R7). -/
def Dev.readReg (s : Dev) (i off : Nat) : Word :=
  match regRow off with
  | none => 0
  | some r =>
    if !s.regLive off then 0
    else BitVec.ofNat 32 ((s.viewReg i off).getD (s.regN off &&& (0xFFFFFFFF ^^^ r.wo)))

/-- The _LO registers of pairs (R5). -/
def pairLos : List Nat :=
  [Reg.HLNK_ERR_ADDR_LO, Reg.DCTL_ERR_ADDR_LO, Reg.DCTL_CE_TOTAL_LO, Reg.GMAP_REGION_BASE_LO, Reg.GMAP_CKPT_SEQ_LO, Reg.GMAP_LOOKUP_LO,
   Reg.FERY_COMMITS_LO, Reg.FERY_BUDGET_BYTES_LO, Reg.FERY_DIRTY_BYTES_LO, Reg.FERY_WEAR_BAL_LO, Reg.FERY_WEAR_FLOOR_LO,
   Reg.FERY_WEAR_TOTAL_LO, Reg.XING_LAST_SEQ_LO, Reg.CIPH_SEALS_LO, Reg.LOG_NEWEST_LO, Reg.LOG_OLDEST_LO, Reg.LOG_TIME_LO]

/-- A read by a requester: a read of _LO latches the paired _HI for that requester's next read of it (R5). -/
def Dev.readBy (s : Dev) (src : Src) (off : Nat) : Dev × Word :=
  let i := chIdx src
  let key := 0x100000 * i + off
  if pairLos.contains off then
    (({ s with pairLatch := insertK (key + 4) (s.readReg i (off + 4)) s.pairLatch }).drew, s.readReg i off)
  else
    match lookupK key s.pairLatch with
    | some v => ({ s with pairLatch := eraseK key s.pairLatch }, v)
    | none => (s.drew, s.readReg i off)

end Sys2Proof.Machine
end

