-- ==== Sys2Proof/Machine/Kx.lean ====
section
/-!
DEFINITION. The KX_ commands (Table 7-6, R168, R169, R174 to R176), on the mailbox and as the EXEC of a sideband port (R387), with
the checks of R397.
-/
namespace Sys2Proof.Machine

/-! ### The checks (R395, R397) -/

/-- The row of Table 17-1 that a command is checked against (R395). -/
def kxRow (opcode : Nat) (input : Bytes) : Option Nat :=
  let code := leAt input 0 1
  match opcode with
  | 0xC000 => some 0x22
  | 0xC001 => some 0x22
  | 0xC002 => some (if code = 5 then 0x24 else 0x23)
  | 0xC003 => some (if code = 2 then 0x26 else 0x25)
  | 0xC010 => some 0x21
  | 0xC020 => some 0x21
  | 0xC030 => some 0x27
  | 0xC031 => some 0x27
  | 0xC040 => some 0x28
  | 0xC041 => some 0x28
  | 0xC042 => some 0x28
  | 0xC043 => some 0x28
  | 0xC044 => some 0x28
  | 0xC050 => some 0x2A
  | 0xC051 => some 0x23
  | 0xC060 => some 0x29
  | 0xC061 => some 0x29
  | 0xC062 => some 0x29
  | _ => none

/-- The payload has the length of Table 7-6. -/
def kxLenOk (opcode : Nat) (input : Bytes) : Bool :=
  let n := input.length
  match opcode with
  | 0xC002 => n = 4
  | 0xC003 => n = 4
  | 0xC020 => n = 16
  | 0xC031 => n = 256
  | 0xC040 => n = 64
  | 0xC041 => decide (16 ≤ n) && decide (n ≤ 65536) && n = 16 + leAt input 8 4
  | 0xC042 => n = 12
  | 0xC043 => n = 4
  | 0xC044 => n = 4
  | 0xC050 => n = 4
  | 0xC051 => n = 4
  | 0xC060 => n = 64
  | 0xC061 => decide (16 ≤ n) && decide (n ≤ 65536) && n = 16 + leAt input 8 4
  | 0xC062 => n = 4
  | _ => n = 0

/-- The Slipway ROM serves the command in RECOVERY (marked R in Table 7-6). -/
def kxRom (opcode : Nat) : Bool := opcode = 0xC010 || opcode = 0xC020 || opcode = 0xC060 || opcode = 0xC061 || opcode = 0xC062

/-- The Modes column of Table 7-6; where it refers to Table 1-3, the mode machine answers. -/
def Dev.kxModeOk (s : Dev) (opcode : Nat) : Bool :=
  let m := s.core.mode
  let live : Bool := m = .restore || m = .service || m = .maintenance
  if m = .recovery then kxRom opcode
  else if m = .save then opcode = 0xC010 || opcode = 0xC020
  else
    match opcode with
    | 0xC002 => true
    | 0xC003 => true
    | 0xC010 => true
    | 0xC020 => true
    | 0xC043 => m = .maintenance || m = .service
    | 0xC050 => m = .maintenance
    | 0xC051 => m = .maintenance
    | 0xC060 => false
    | 0xC061 => false
    | 0xC062 => false
    | _ => live

/-- A command that firmware serves: not one of the update manager, of the Slipway ROM in RECOVERY, or of the two that SAVE serves. -/
def Dev.kxFirmware (s : Dev) (opcode : Nat) : Bool :=
  !(decide (0xC040 ≤ opcode) && decide (opcode ≤ 0xC044)) && s.core.mode ≠ .recovery && s.core.mode ≠ .save

/-- Post a result: one that R397 names as a refusal sets HLNK_ERR.MBOX_REJECT (R168). -/
def Dev.kxEnd (s : Dev) (p : Port) (opcode : Nat) (st : St) (out : Bytes) : Dev :=
  if st = .badParam || st = .wrongMode || st = .busy then s.refuse p opcode st.ret st else s.postSt p opcode st out

/-! ### Mode commands (R105, R169, R174) -/

/-- A command that raises a mode event: its completion is posted, then the event is taken. -/
def Dev.kxEvent (s : Dev) (p : Port) (opcode : Nat) (e : Ev) : Dev :=
  ((s.kxEnd p opcode (s.modeEvent e).2 []).modeEvent e).1

/-- KX_MODE. -/
def Dev.kxMode (s : Dev) (p : Port) (input : Bytes) : Dev :=
  let bad : Bool := decide (leAt input 1 3 ≠ 0)
  match leAt input 0 1 with
  | 3 => if bad && s.core.mode = .service then s.kxEnd p 0xC002 .badParam [] else s.kxEvent p 0xC002 .maintEnter
  | 4 => if bad && s.core.mode = .maintenance then s.kxEnd p 0xC002 .badParam [] else s.kxEvent p 0xC002 .maintExit
  | 5 => if bad then s.kxEnd p 0xC002 .badParam [] else s.kxEvent p 0xC002 .recovReq
  | _ => s.kxEnd p 0xC002 .badParam []

/-- The Ferryman cores restart on command: no FW_FAULT is counted (R174); what firmware served is aborted (R403). -/
def Dev.fwRestartCmd (s : Dev) : Dev :=
  let s := (s.clrReady Rdy.FW).clrReady Rdy.MAILBOX
  let s := s.trnDiscard
  let s := (if s.trn.retrain.isSome then s.bgAbandon.retrainCut else s).trnFwFault
  s.modCore (fun c => { c with proxy := none, fwState := 1, fwRestarts := satAdd 255 c.fwRestarts 1, wdogAt := s.ticks })

/-- KX_RESET. -/
def Dev.kxReset (s : Dev) (p : Port) (input : Bytes) : Dev :=
  match leAt input 0 1 with
  | 1 => (s.kxEnd p 0xC003 .ok []).fwRestartCmd
  | 2 => s.kxEvent p 0xC003 .resetFull
  | _ => s.kxEnd p 0xC003 .badParam []

/-! ### KX_GET_STATUS and KX_LOG_READ (R175, R176) -/

/-- Table 7-7, as the registers stand now. -/
def Dev.statusBytes (s : Dev) : Bytes :=
  ([Reg.CORE_MODE, Reg.CORE_READY, Reg.FERY_BUDGET_STATE, Reg.XING_STATUS, Reg.FERY_BUDGET_BYTES_LO, Reg.FERY_BUDGET_BYTES_HI,
    Reg.FERY_DIRTY_BYTES_LO, Reg.FERY_DIRTY_BYTES_HI, Reg.FERY_WEAR_BAL_LO, Reg.FERY_WEAR_BAL_HI, Reg.FERY_PINNED,
    Reg.XING_LAND_STATUS, Reg.GMAP_COUNT_UNRESTORED, Reg.FERY_ENERGY_INPUT, Reg.HLNK_LINK_STATUS].flatMap
      (fun off => leBytes 4 (s.readReg 0 off).toNat)) ++ leBytes 4 0

/-- Records that fit in a number of bytes, and the LEN of the first that does not (0: all fit). -/
def takeFit : Nat → List Found → List Found × Nat
  | _, [] => ([], 0)
  | room, f :: rest =>
    if f.len ≤ room then
      let (l, need) := takeFit (room - f.len) rest
      (f :: l, need)
    else ([], f.len)

/-- KX_LOG_READ. -/
def Dev.kxLogRead (s : Dev) (p : Port) (input : Bytes) : Dev :=
  let start := leAt input 0 8
  let room := leAt input 8 4
  if room < 64 || 65520 < room then s.kxEnd p 0xC020 .badParam []
  else if s.chtr.st = 3 then s.kxEnd p 0xC020 .storeFailed []
  else if s.log.st < 2 then s.kxEnd p 0xC020 .notReady []
  else
    let oldest := s.log.oldestRseq
    let from_ := max (max start oldest) 1
    let held := s.logRecords.filter (fun f => decide (from_ ≤ f.rseq))
    let (rs, need) := takeFit room held
    let next := match rs.getLast? with | some f => f.rseq + 1 | none => (match held with | f :: _ => f.rseq | [] => from_)
    let flags := b2n (decide (need = 0)) + 2 * b2n (decide (start ≠ 0) && decide (start < oldest)) + 4 * b2n (decide (need ≠ 0)) +
      fieldAt 16 16 need
    let bytes := rs.flatMap (fun f => f.bytes)
    s.kxEnd p 0xC020 .ok (leBytes 8 next ++ leBytes 4 bytes.length ++ leBytes 4 flags ++ bytes)

/-! ### Battery, update, margin, retraining -/

/-- A handler's answer of state, code and output, posted. -/
def kxPost (p : Port) (opcode : Nat) (r : Dev × St × Bytes) : Dev :=
  r.1.kxEnd p opcode r.2.1 (if r.2.1 = .ok then r.2.2 else [])

/-- KX_UPD_COMMIT and KX_SALVAGE_COMMIT: in the background once they are accepted. -/
def Dev.kxCommit (s : Dev) (p : Port) (opcode : Nat) (input : Bytes) (salvage : Bool) : Dev :=
  match s.updCommit p (leAt input 0 4) salvage s.bgRunning with
  | (s, some st) => s.kxEnd p opcode st []
  | (s, none) => s

/-- KX_MARGIN (R345). -/
def Dev.kxMargin (s : Dev) (p : Port) (input : Bytes) : Dev :=
  let (s, st) := s.marginAsk (leAt input 0 1) (sint16 (leAt input 2 2))
  s.kxEnd p 0xC050 st (if st = .ok then leBytes 2 (twos16 s.seq.marginApplied) ++ [0, 0] else [])

/-- KX_DRAM_RETRAIN, in the background; firmware holds the command's authority while it runs (R226, R404). -/
def Dev.kxRetrain (s : Dev) (p : Port) (input : Bytes) : Dev :=
  let mask := BitVec.ofNat 8 (leAt input 0 1)
  let busy : Bool := s.bgRunning || s.trn.gather.isSome || decide (s.trn.pending ≠ 0) ||
    !(s.trn.phase = .idle || s.trn.phase = .deferred)
  if mask = 0 then s.kxEnd p 0xC051 .badParam []
  else if busy then s.kxEnd p 0xC051 .busy []
  else (((s.bgStart p 0xC051).modCore (fun c => { c with proxy := some p })).retrainStart mask).trnSettle

/-! ### Serving -/

/-- Serve a command that has passed checks 1 to 4. -/
def Dev.kxServe (s : Dev) (p : Port) (opcode : Nat) (input : Bytes) : Dev :=
  let session := leAt input 0 4
  match opcode with
  | 0xC000 => s.kxEvent p 0xC000 .offReq
  | 0xC001 => s.kxEvent p 0xC001 .onReq
  | 0xC002 => s.kxMode p input
  | 0xC003 => s.kxReset p input
  | 0xC010 => s.kxEnd p 0xC010 .ok s.statusBytes
  | 0xC020 => s.kxLogRead p input
  | 0xC030 => kxPost p 0xC030 (s, s.battGet.1, s.battGet.2)
  | 0xC031 => kxPost p 0xC031 ((s.battPut input).1, (s.battPut input).2, [])
  | 0xC040 => kxPost p 0xC040 (s.updOpen p input false)
  | 0xC041 => kxPost p 0xC041 (s.updPiece p session (leAt input 4 4) (input.drop 16) false)
  | 0xC042 => kxPost p 0xC042 (s.updBitmap p session (leAt input 4 4) (leAt input 8 4))
  | 0xC043 => s.kxCommit p 0xC043 input false
  | 0xC044 => kxPost p 0xC044 ((s.updAbandon p session).1, (s.updAbandon p session).2, [])
  | 0xC050 => s.kxMargin p input
  | 0xC051 => s.kxRetrain p input
  | 0xC060 => kxPost p 0xC060 (s.updOpen p input true)
  | 0xC061 => kxPost p 0xC061 (s.updPiece p session (leAt input 4 4) (input.drop 16) true)
  | 0xC062 => s.kxCommit p 0xC062 input true
  | _ => s.kxEnd p opcode .badParam []

/-- A command of another LD than LD 0 that only LD 0 may send (R168). -/
def kxWrongLd (p : Port) (opcode : Nat) : Bool :=
  match p with
  | .host ld => decide (ld ≠ 0) && opcode ≠ 0xC010 && opcode ≠ 0xC020
  | _ => false

/-- The checks of R397 in order, then the command. A code that Table 7-6 does not list names no command: ST_BAD_PARAM. -/
def Dev.kxChecked (s : Dev) (p : Port) (opcode : Nat) (input : Bytes) : Dev :=
  match kxRow opcode input with
  | none => s.kxEnd p opcode .badParam []
  | some row =>
    if !s.portMay row p then (s.authReject p row .noAuthority opcode).refuse p opcode St.noAuthority.ret .noAuthority
    else if kxWrongLd p opcode then s.refuse p opcode St.notAdminLd.ret .notAdminLd
    else if !kxLenOk opcode input then s.refuse p opcode 0x16 .badParam
    else if !s.kxModeOk opcode then s.refuse p opcode St.wrongMode.ret .wrongMode
    else
      match p with
      | .host _ => s.kxServe p opcode input
      | _ => if s.kxFirmware opcode && !s.rdy Rdy.FW then s.kxEnd p opcode .notReady [] else s.kxServe p opcode input

/-- An EXEC starts on a sideband port (R387). -/
def Dev.execStart (s : Dev) (p : Port) (opcode : Nat) : Dev :=
  s.modTwb (portTwb p) (fun t => { t with execSt := 1, execOp := opcode, outLen := 0 })

/-- A KX_ command arrives at a port: on an LD's mailbox while it is served, or as the EXEC of a sideband port whose buffer holds
the input. -/
def Dev.kxCommand (s : Dev) (p : Port) (opcode : Nat) (input : Bytes) : Dev :=
  match p with
  | .host ld => if !s.rdy Rdy.MAILBOX || !s.hasLd ld then s else s.kxChecked p opcode input
  | _ =>
    let t := s.port (portTwb p)
    if t.st ≠ 1 then s
    else if t.execSt = 1 then s.modTwb (portTwb p) (fun t => { t with status := St.busy.code })
    else ((s.modTwb (portTwb p) (fun t => { t with buf := putBuf t.buf 0 input })).execStart p opcode).kxChecked p opcode input

/-- EXEC (Table 16-4, R387). -/
def sbExec (sv : Bool) (count : Byte) (data : Bytes) (pec : Option Byte) (s : Dev) : Dev :=
  s.sbWrite sv 0x12 count data pec (· == 8) (fun s =>
    let n := sbPort sv
    let opcode := leAt data 0 2
    let len := leAt data 4 4
    if 65536 < len then s.sbDiscard sv 0x12 .badParam
    else if (s.port n).execSt = 1 then s.sbDiscard sv 0x12 .busy
    else
      let input := Memory.readBytes 0 (s.port n).buf 0 len
      ((s.execStart (sbSrc sv) opcode).kxChecked (sbSrc sv) opcode input).sbDone sv 0x12)

end Sys2Proof.Machine
end

