-- ==== Sys2Proof/Machine/Ferryman.lean ====
section
/-!
DEFINITION. Events of the Ferryman complex (R193, R401 to R405) and the end of the charter store's operations (R279, R283,
Table 12-11).
-/
namespace Sys2Proof.Machine

/-! ### The watchdog and the cores (R193, R401 to R403) -/

/-- A write of CORE_WDOG: the key restarts the count, any other value expires the watchdog at once (R403). -/
def wdogWrite (src : Src) (val : Word) (s : Dev) : Dev :=
  s.guarded src Reg.CORE_WDOG (fun s =>
    if val.toNat % 65536 = 0xA5C3 then s.modCore (fun c => { c with wdogAt := s.ticks }) else s.fwFault 2)

/-- The watchdog count reaches zero (R403); it does not run in SAVE (Table 17-8). -/
def wdogExpiry (s : Dev) : Dev := if s.core.mode = .save then s else s.fwFault 2

/-- Table 17-4: an access of a kind (0 fetch, 1 load, else store) at an address is allowed; `aligned32`: an aligned 32-bit access. -/
def memMapAllows (kind addr : Nat) (aligned32 : Bool) : Bool :=
  let rom : Bool := decide (addr < 0x10000)
  let iram : Bool := decide (0x10000000 ≤ addr) && decide (addr < 0x10100000)
  let dram : Bool := decide (0x20000000 ≤ addr) && decide (addr < 0x20040000)
  let window : Bool := decide (0x40000000 ≤ addr) && decide (addr < 0x40100000) && aligned32
  if kind = 0 then rom || iram else if kind = 1 then rom || iram || dram || window else dram || window

/-- A firmware access that Table 17-4 does not allow: BH05 (R402, R467). -/
def fwAccessFault (kind : Nat) (addr pc : Word) (aligned32 : Bool) (s : Dev) : Dev :=
  if !s.aonUp || !s.coresRun || memMapAllows kind addr.toNat aligned32 then s
  else s.bulkhead 5 2 .bulkhead addr.toNat pc

/-- A fault passes out of the 600 s window (R26). -/
def fwFaultWindow (s : Dev) : Dev := s.modCore (fun c => { c with fwFaults := c.fwFaults - 1 })

/-- A receiving port of a block is powered and times its handshakes (Table 8-6): in SAVE every port but the parked link's. -/
def Dev.portLive (s : Dev) (port : Nat) : Bool :=
  s.aonUp && (blockAon port || s.mainUp) && !(port = 1 && s.core.mode = .save)

/-- A handshake phase stays open for the stall limit; at the core ports it is a FW_FAULT (R193, R403). -/
def fabStall (port phase : Nat) (s : Dev) : Dev :=
  if !s.portLive port then s
  else
    let s := s.recordStall port phase
    if port = 0 then s.fwFault 3 else s

/-! ### The charter store's operations end (R279, R283) -/

/-- What waits on a finished descriptor hears of it. -/
def Dev.storeTold (s : Dev) (d : ChDesc) (st : St) : Dev :=
  match d.what with
  | .activation =>
    (match s.upd.plan with
     | (a, _, bs) :: _ => if a = d.addr && bs = d.data then s.planDone st else s
     | [] => s)
  | _ => s.chPosted d st

/-- A change of clock that waited for the operation's end (R278). -/
def Dev.islandClock (s : Dev) : Dev :=
  if s.chtr.refLost then s.modChtr (fun c => { c with refclk := false, refLost := false }) else s

/-- An operation ends, with its read-back verification. -/
def chtrOpComplete (bad : Bool) (s : Dev) : Dev :=
  match s.chtr.cur with
  | none => s
  | some d =>
    if d.req = .logbook then s
    else
      let (s, st) := (s.modChtr (fun c => { c with cur := none, timeouts := 0 })).chDo d bad
      (s.storeTold d st).islandClock.chNext

/-- The controller is FAILED: queued descriptors complete with ST_STORE_FAILED (Table 12-11). -/
def Dev.storeFail (s : Dev) : Dev :=
  let waiting := s.chtr.queue
  let s := s.modChtr (fun c => { c with st := 3, queue := [] })
  let s := waiting.foldl (fun s d => s.storeTold d .storeFailed) s
  s.logFailed

/-- An operation exceeds twice its maximum: its range is left as a cut-off leaves it. -/
def chtrOpTimeout (s : Dev) : Dev :=
  match s.chtr.cur with
  | none => s
  | some d =>
    let s := s.chCut.modChtr (fun c => { c with cur := none, timeouts := c.timeouts + 1 })
    let s := s.chErr 3 d.addr
    let s := if d.req = .logbook then s.logProgramLost else s.storeTold d .storeTimeout
    let s := (s.logStd LT.CS_OP_FAIL d.addr St.storeTimeout.code).islandClock
    if s.chtr.timeouts = 2 then s.storeFail else s.chNext

end Sys2Proof.Machine
end

