-- ==== Sys2Proof/Machine/RegWrite.lean ====
section
/-!
DEFINITION. Writes and reads of the register window (R3 to R7, R164 to R167, R386, R394, R395): registers whose writes act, those
that are rejected whole outside their ranges, and the window commands of the sideband ports.
-/
namespace Sys2Proof.Machine

/-! ### CORE_MODE_REQ and CORE_LOCK (R22, R26, R395) -/

/-- The row and the event of a REQ value (R395). -/
def modeReq (req : Nat) : Option (Nat × Ev) :=
  match req with
  | 1 => some (0x22, .offReq)
  | 2 => some (0x22, .onReq)
  | 3 => some (0x23, .maintEnter)
  | 4 => some (0x23, .maintExit)
  | 5 => some (0x24, .recovReq)
  | 6 => some (0x26, .resetFull)
  | _ => none

/-- A source may write under a row. -/
def Dev.srcMay (s : Dev) (src : Src) (row : Nat) : Bool :=
  match src with
  | .port p => s.portMay row p
  | .firmware _ => s.fwMay row

/-- A write of CORE_MODE_REQ: under row 0x04 and the row of its REQ; the result is posted, then the event is taken (R105, R395). -/
def modeRequest (src : Src) (req : Nat) (s : Dev) : Dev :=
  s.guarded src Reg.CORE_MODE_REQ (fun s =>
    match modeReq req with
    | none => (s.modCore (fun c => { c with modeResult := .badParam })).writeStatus src .badParam
    | some (row, e) =>
      if !s.srcMay src row then s.refuseSrc src row Reg.CORE_MODE_REQ
      else
        let st := (s.modeEvent e).2
        (((s.modCore (fun c => { c with modeResult := st })).writeStatus src st).modeEvent e).1)

/-- A write of 1 to CORE_LOCK.LOCK sets the lock, and sets the bit (R7, R22): LOCK is W1S, and nothing but a reset of its
register clears it. -/
def lockWrite (src : Src) (s : Dev) : Dev :=
  s.guarded src Reg.CORE_LOCK (fun s =>
    ((if s.core.locked then s else s.modCore (fun c => { c with locked := true, lockEarly := true })).setRegF Reg.CORE_LOCK 1 1 1).writeStatus src .ok)

/-- A write of a register whose fields only hold what is written; one that breaks the ranges that the register states for a
whole write is rejected. -/
def plainWrite (src : Src) (off : Nat) (val : Word) (s : Dev) : Dev :=
  s.guarded src off (fun s =>
    if valueRejected off val.toNat then s.writeStatus src .badParam else (s.storeReg off val).writeStatus src .ok)

/-! ### Registers whose writes act -/

/-- FAB_TIDE_EXTREMES, HLNK_LINK_CTL, GMAP_CACHE_CTL and FERY_CTL: the RW fields are stored, and a W1S bit written with 1 acts. -/
def linkCtlWrite (src : Src) (val : Word) (s : Dev) : Dev :=
  s.guarded src Reg.HLNK_LINK_CTL (fun s =>
    let s := (s.storeReg Reg.HLNK_LINK_CTL val).writeStatus src .ok
    if val.getLsbD 6 then s.setRegF Reg.HLNK_LINK_CTL 6 1 1 else s)

/-- CORE_FW_NAND_CMD: GO with an OP starts it; otherwise the RW fields are stored. -/
def fwNandWrite (src : Src) (val : Word) (s : Dev) : Dev :=
  let op := bitsOf val.toNat 0 2
  if val.getLsbD 3 && op ≠ 0 then fwNand src val op s else plainWrite src Reg.CORE_FW_NAND_CMD val s

/-- DCTL_TRN_CMD: the first of APPLY, DISCARD and GO that is written with 1; otherwise the RW fields are stored. -/
def trnCmdWrite (src : Src) (val : Word) (s : Dev) : Dev :=
  if val.getLsbD 13 then applyResults src val s
  else if val.getLsbD 14 then dctlTrnDiscard src val s
  else if val.getLsbD 12 then dctlTrnGo src val s
  else s.guarded src Reg.DCTL_TRN_CMD (fun s => (s.putTrnCmd val).writeStatus src .ok)

/-- GMAP_CACHE_CTL. -/
def cacheCtlWrite (src : Src) (val : Word) (s : Dev) : Dev :=
  let s := plainWrite src Reg.GMAP_CACHE_CTL val s
  if val.getLsbD 1 && s.srcMay src (rowOf Reg.GMAP_CACHE_CTL) then gmapCacheFlush src s else s

/-- FERY_CTL. -/
def feryCtlWrite (src : Src) (val : Word) (s : Dev) : Dev :=
  let s := plainWrite src Reg.FERY_CTL val s
  if val.getLsbD 1 && s.srcMay src (rowOf Reg.FERY_CTL) then ferryDrainOnce src s else s

/-- UPD_CTL. -/
def updCtlWrite (src : Src) (val : Word) (s : Dev) : Dev :=
  s.guarded src Reg.UPD_CTL (fun s =>
    if val.getLsbD 0 then s.ctlRollback src else if val.getLsbD 1 then s.ctlConfirm src else s.writeStatus src .ok)

/-- CHTR_DESC_0 to _2, CHTR_SUBMIT and CHTR_BUF in the requester's own copy (R297). -/
def descWrite (src : Src) (off : Nat) (val : Word) (s : Dev) : Dev :=
  s.guarded src off (fun s =>
    if off = Reg.CHTR_SUBMIT then (if val.getLsbD 0 then s.chGo src else s.writeStatus src .ok)
    else
      (s.modChPort (chIdx src) (fun p =>
        if off = Reg.CHTR_DESC_0 then { p with d0 := val }
        else if off = Reg.CHTR_DESC_1 then { p with d1 := val }
        else if off = Reg.CHTR_DESC_2 then { p with d2 := val }
        else { p with buf := Memory.writeBytes 0 p.buf (off - Reg.CHTR_BUF) (leBytes 4 val.toNat) })).writeStatus src .ok)

/-- CHTR_PW_0 to CHTR_PW_7. -/
def passwordWrite (src : Src) (off : Nat) (val : Word) (s : Dev) : Dev :=
  s.guarded src off (fun s => (s.setReg off val).writeStatus src .ok)

/-- CHTR_PR_CMD. -/
def prCmdWrite (src : Src) (val : Word) (s : Dev) : Dev :=
  match bitsOf val.toNat 0 2 with
  | 1 => prCommand src false s
  | 2 => prCommand src true s
  | _ => s.guarded src Reg.CHTR_PR_CMD (fun s => s.writeStatus src .ok)

/-- CHTR_PW_CMD. -/
def pwCmdWrite (src : Src) (val : Word) (s : Dev) : Dev :=
  let region := val.getLsbD 3
  match bitsOf val.toNat 0 3 with
  | 1 => pwSet src region s
  | 2 => pwUnlock src region s
  | 3 => pwLock src region s
  | 4 => pwClear src region s
  | 5 => pwEraseRegion src region s
  | _ => s.guarded src Reg.CHTR_PW_CMD (fun s => s.clearPw.writeStatus src .ok)

/-- The charter store's registers. -/
def chtrWrite (src : Src) (off : Nat) (val : Word) (s : Dev) : Dev :=
  if off = Reg.CHTR_CMPL_ACK then
    (if val.getLsbD 0 then chtrCmplAck src s else s.guarded src off (fun s => s.writeStatus src .ok))
  else if off = Reg.CHTR_PR_CMD then prCmdWrite src val s
  else if off = Reg.CHTR_PW_CMD then pwCmdWrite src val s
  else if Reg.CHTR_PW ≤ off && off < Reg.CHTR_PW + 32 then passwordWrite src off val s
  else if off = Reg.CHTR_DESC_0 || off = Reg.CHTR_DESC_1 || off = Reg.CHTR_DESC_2 || off = Reg.CHTR_SUBMIT || Reg.CHTR_BUF ≤ off then
    descWrite src off val s
  else plainWrite src off val s

/-- The check-value contexts: CTL, VALUE, the three feeds, and EXPECT of context n. -/
def chkWrite (src : Src) (off : Nat) (val : Word) (s : Dev) : Dev :=
  let at_ := off - Reg.CHK_CTL_0
  let n := Fin.ofNat 8 (at_ / 0x20)
  if off < Reg.CHK_CTL_0 || 8 ≤ at_ / 0x20 then plainWrite src off val s
  else if off = Reg.CHK_CTL_0 + 0x20 * n.val then chkInit src n val s
  else if off = Reg.CHK_VALUE_0 + 0x20 * n.val then chkValueWrite src n val s
  else if off = Reg.CHK_FEED8_0 + 0x20 * n.val then chkFeed8 src n val s
  else if off = Reg.CHK_FEED16_0 + 0x20 * n.val then chkFeed16 src n val s
  else if off = Reg.CHK_FEED32_0 + 0x20 * n.val then chkFeed32 src n val s
  else if off = Reg.CHK_EXPECT_0 + 0x20 * n.val then chkExpect src n val s
  else plainWrite src off val s

/-- A write of a register at its aligned offset (R6, R394). -/
def regWriteAt (src : Src) (off : Nat) (val : Word) (s : Dev) : Dev :=
  if off = Reg.CORE_MODE_REQ then modeRequest src (bitsOf val.toNat 0 4) s
  else if off = Reg.CORE_LOCK then
    (if val.getLsbD 1 then lockWrite src s else plainWrite src off val s)
  else if off = Reg.CORE_WDOG then wdogWrite src val s
  else if off = Reg.CORE_FW_NAND_CMD then fwNandWrite src val s
  else if off = Reg.HLNK_LINK_CTL then linkCtlWrite src val s
  else if off = Reg.FAB_TIDE_EXTREMES then
    (if val.getLsbD 31 then tideExtremesClear src s else plainWrite src off val s)
  else if off = Reg.DCTL_TRN_CMD then trnCmdWrite src val s
  else if off = Reg.DCTL_FREQ_REQ then freqRequest src val s
  else if off = Reg.GMAP_CACHE_CTL then cacheCtlWrite src val s
  else if off = Reg.GMAP_LOOKUP_IDX then gmapLookup src val s
  else if off = Reg.FERY_CTL then feryCtlWrite src val s
  else if off = Reg.XING_RESTORE_PRIO_BASE then restorePrioWrite src false val s
  else if off = Reg.XING_RESTORE_PRIO_LIMIT then restorePrioWrite src true val s
  else if off = Reg.CIPH_CTL then ciphAdvance src val s
  else if off = Reg.SEQ_MARGIN then seqMarginWrite src val s
  else if off = Reg.SEQ_BELL_TX then bellTx src val s
  else if off = Reg.BATT_CTL then battRecal src val s
  else if off = Reg.TWB_XFER_CTL then s.guarded src off (fun s => s.xferWrite src val)
  else if off = Reg.UPD_CTL then updCtlWrite src val s
  else if off / 0x10000 = 8 then chtrWrite src off val s
  else if off / 0x10000 = 0xA then chkWrite src off val s
  else plainWrite src off val s

/-- A write of the register window. A reserved offset has no register; an access that is not aligned has no effect (R3, R4):
on BAR2 it is reported (R166), and for firmware it is outside Table 17-4. -/
def regWrite (src : Src) (off : Nat) (val : Word) (s : Dev) : Dev :=
  if !s.aonUp then s
  else if off % 4 ≠ 0 then
    match src with
    | .port (.host _) => bar2BadAccess (BitVec.ofNat 20 off) true s
    | .port _ => s
    | .firmware pc => if s.coresRun then s.bulkhead 5 2 .bulkhead (0x40000000 + off) pc else s
  else if (regRow off).isNone then s
  else regWriteAt src off val s

/-! ### The sideband window (R386) -/

/-- WIN_DATA as a read. -/
def winDataRead (sv wantPec : Bool) (s : Dev) : Dev :=
  if s.sbLive sv then
    let (s, v) := s.readBy (.port (sbSrc sv)) (s.port (sbPort sv)).window
    s.sbBlockRead sv 0x02 wantPec (leBytes 4 v.toNat)
  else s

/-- WIN_NEXT: as WIN_DATA, then the window offset rises by 4. -/
def winNext (sv wantPec : Bool) (s : Dev) : Dev :=
  if s.sbLive sv then
    let (s, v) := s.readBy (.port (sbSrc sv)) (s.port (sbPort sv)).window
    let s := s.sbBlockRead sv 0x03 wantPec (leBytes 4 v.toNat)
    s.modTwb (sbPort sv) (fun t => { t with window := t.window + 4 })
  else s

/-- WIN_DATA as a write: after its STOP and its PEC, under the port's authority. -/
def winDataWrite (sv : Bool) (count : Byte) (data : Bytes) (pec : Option Byte) (s : Dev) : Dev :=
  s.sbWrite sv 0x02 count data pec (· == 4) (fun s =>
    let s := s.modTwb (sbPort sv) (fun t => { t with status := 0 })
    (regWrite (.port (sbSrc sv)) (s.port (sbPort sv)).window (BitVec.ofNat 32 (leAt data 0 4)) s).sbDone sv 0x02)

/-- A write of TWB_XFER_CTL (R392). -/
def xferGo (src : Src) (val : Word) (s : Dev) : Dev := s.guarded src Reg.TWB_XFER_CTL (fun s => s.xferWrite src (val ||| 0x80000000))

/-- Any value but the key, written to CORE_WDOG (R403). -/
def wdogForce (src : Src) (s : Dev) : Dev := s.guarded src Reg.CORE_WDOG (fun s => s.fwFault 2)

/-! ### Pins (R9, R10, R14) -/

/-- The main-good debounce expires with PWR_FAIL_N high and PRSNT_N low. -/
def mainGood (s : Dev) : Dev :=
  if !s.aonUp then s else { s with pins := { s.pins with pwrFailN := true, prsntN := false } }.evMainGood

/-- PWR_FAIL_N has stayed low for its filter. -/
def inputFail (s : Dev) : Dev :=
  if !s.aonUp then s else { s with pins := { s.pins with pwrFailN := false } }.evInputLost .inputFail 1

/-- PRSNT_N has stayed high for its filter. -/
def removal (s : Dev) : Dev :=
  if !s.aonUp then s else { s with pins := { s.pins with prsntN := true } }.evInputLost .removal 2

/-- PERST_N falls; `pins` are the levels of the other pins. -/
def perstOn (pins : PinLevels) (s : Dev) : Dev :=
  if !s.aonUp then s else { s with pins := { pins with perstN := false } }.evPerstOn

/-- PERST_N rises. -/
def perstOff (pins : PinLevels) (s : Dev) : Dev :=
  if !s.aonUp then s else { s with pins := { pins with perstN := true } }.evPerstOff

/-! ### A read of a _LO register (R5) -/

/-- A register read by a requester, with the value that it returns. -/
def pairLoRead (src : Src) (off : Nat) (s : Dev) : Dev :=
  if !s.aonUp then s
  else
    let (s, v) := s.readBy src off
    s.emit (.mmioRead off v)

end Sys2Proof.Machine
end

