-- ==== Sys2Proof/Machine/CmdDram.lean ====
section
/-!
DEFINITION. What each command does: the fabric, the DRAM controller and its training. A command that can set off other work of the device settles it in the same step.
-/
namespace Sys2Proof.Machine

/-- TIDE_WINDOW (R186). -/
def execTideWindow (counts : List Nat) (m : State) : Res := m.onDev fun s => (tideWindow counts s).settle

/-- AVS_STEP (R190). -/
def execAvsStep (m : State) : Res := m.onDev fun s => (avsStep s).settle

/-- FAB_STALL (R193). -/
def execFabStall (port : Fin 16) (phase : Fin 4) (m : State) : Res := m.onDev fun s => (fabStall port.val phase.val s).settle

/-- TIDE_EXTREMES_CLEAR (R195). -/
def execTideExtremesClear (src : Src) (m : State) : Res := m.onDev fun s => tideExtremesClear src s

/-- DRAM_COMMAND_ISSUE (R201). -/
def execDramCommandIssue (q : Fin 512) (m : State) : Res := m.onDev fun s => (dramCommandIssue q s).settle

/-- DRAM_READ_CAPTURE (R213). -/
def execDramReadCapture (addr : Dpa) (who : CapFor) (e0 : List (BitVec 40)) (e1 : List (BitVec 40)) (e2 : List (BitVec 40)) (m : State) : Res :=
  m.onDev fun s => (dramReadCapture addr who e0 e1 e2 s).settle

/-- CLEAN_REFETCH_DONE (R217). -/
def execCleanRefetchDone (g : BitVec 26) (m : State) : Res := m.onDev fun s => (cleanRefetchDone g.toNat s).settle

/-- REFRESH_DUE (R205). -/
def execRefreshDue (m : State) : Res := m.onDev fun s => (refreshDue s).settle

/-- DRAM_TEMP_POLL (R207). -/
def execDramTempPoll (rates : List (BitVec 3 × Bool)) (m : State) : Res := m.onDev fun s => (dramTempPoll rates s).settle

/-- ROW_IDLE_CLOSE (R204). -/
def execRowIdleClose (q : Fin 512) (m : State) : Res := m.onDev fun s => rowIdleClose q s

/-- POWER_DOWN_ENTRY (R208). -/
def execPowerDownEntry (sub : Fin 8) (rank : Fin 2) (m : State) : Res := m.onDev fun s => powerDownEntry sub rank s

/-- CA_PARITY_ALERT (R219). -/
def execCaParityAlert (sub : Fin 8) (m : State) : Res := m.onDev fun s => (caParityAlert sub s).settle

/-- ALERT_RELEASE (R219). -/
def execAlertRelease (sub : Fin 8) (m : State) : Res := m.onDev fun s => (alertRelease sub s).settle

/-- REPLAY_END (R221). -/
def execReplayEnd (sub : Fin 8) (m : State) : Res := m.onDev fun s => (replayEnd sub s).settle

/-- CA_RETRAIN_END (R235). -/
def execCaRetrainEnd (sub : Fin 8) (m : State) (found : List (Fin 10 × Fin 17 × Fin 17) := []) : Res :=
  m.onDev fun s => (caRetrainEnd sub found s).settle

/-- DRAM_INIT_DONE (R221). -/
def execDramInitDone (sub : Fin 8) (m : State) : Res := m.onDev fun s => (dramInitDone sub s).settle

/-- DCTL_TRN_GO (R227). -/
def execDctlTrnGo (src : Src) (val : Word) (m : State) : Res := m.onDev fun s => (dctlTrnGo src val s).settle

/-- GATHER_END (R227). -/
def execGatherEnd (passes : List (Fin 320 × BitVec 128)) (m : State) : Res := m.onDev fun s => (gatherEnd passes s).settle

/-- DCTL_TRN_APPLY (R227). -/
def execDctlTrnApply (src : Src) (val : Word) (m : State) : Res := m.onDev fun s => (applyResults src val s).settle

/-- DCTL_TRN_DISCARD (R227). -/
def execDctlTrnDiscard (src : Src) (val : Word) (m : State) : Res := m.onDev fun s => (dctlTrnDiscard src val s).settle

/-- TRN_RESULTS_TIMEOUT (R237). -/
def execTrnResultsTimeout (m : State) : Res := m.onDev fun s => (trnResultsTimeout s).settle

/-- PERIODIC_PAUSE (R233). -/
def execPeriodicPause (sub : Fin 8) (counts : List (Fin 10 × BitVec 16)) (m : State) (passes : List (Fin 40 × Bool × Bool) := []) : Res :=
  m.onDev fun s => (periodicPause sub counts passes s).settle

/-- PERIODIC_PAUSE_END (R233). -/
def execPeriodicPauseEnd (sub : Fin 8) (m : State) : Res := m.onDev fun s => (periodicPauseEnd sub s).settle

/-- FREQ_CHANGE_REQUEST (R236). -/
def execFreqChangeRequest (src : Src) (val : Word) (m : State) : Res := m.onDev fun s => (freqRequest src val s).settle

/-- FREQ_CHANGE_START (R238). -/
def execFreqChangeStart (m : State) : Res := m.onDev fun s => (freqDeferredStart s).settle

/-- FREQ_ENTER_DONE (R238). -/
def execFreqEnterDone (m : State) : Res := m.onDev fun s => (freqEnterDone s).settle

/-- PLL_LOCK (R238). -/
def execPllLock (m : State) : Res := m.onDev fun s => (pllLock s).settle

/-- SELF_REFRESH_ENTRY (R240). -/
def execSelfRefreshEntry (sub : Fin 8) (m : State) : Res := m.onDev fun s => (selfRefreshEntry sub s).settle

end Sys2Proof.Machine
end

