-- ==== Sys2Proof/Machine/CmdHost.lean ====
section
/-!
DEFINITION. What each command does: CXL.mem, the link and the standard mailbox commands. A command that can set off other work of the device settles it in the same step.
-/
namespace Sys2Proof.Machine

/-- READY_MAILBOX (R177). -/
def execReadyMailbox (m : State) : Res := m.onDev fun s => (readyMailbox s).settle

/-- MEM_WR (R35). -/
def execMemWr (addr : HostAddr) (data : Line) (poison : Bool) (damaged : Bool) (tag : BitVec 16) (m : State) : Res :=
  m.onDev fun s => (hostWrite .write addr data poison damaged tag noErrs s).settle

/-- MEM_WR_PTL (R153). -/
def execMemWrPtl (addr : HostAddr) (data : Line) (be : BitVec 64) (poison : Bool) (damaged : Bool) (tag : BitVec 16) (m : State) : Res :=
  m.onDev fun s => (hostWrite (.writePtl be) addr data poison damaged tag noErrs s).settle

/-- MEM_RD (R29). -/
def execMemRd (addr : HostAddr) (damaged : Bool) (tag : BitVec 16) (m : State) : Res := m.onDev fun s => (hostRead addr damaged tag noErrs s).settle

/-- MEM_RD_DATA (R153). -/
def execMemRdData (addr : HostAddr) (damaged : Bool) (tag : BitVec 16) (m : State) : Res := m.onDev fun s => (hostRead addr damaged tag noErrs s).settle

/-- MEM_SPEC_RD (R153). -/
def execMemSpecRd (addr : HostAddr) (taken : Bool) (_tag : BitVec 16) (m : State) : Res := m.onDev fun s => (hostSpecRead addr taken s).settle

/-- MEM_INV (R153). -/
def execMemInv (addr : HostAddr) (tag : BitVec 16) (m : State) : Res := m.onDev fun s => hostInvalidate addr tag s

/-- MEM_INV_NT (R153). -/
def execMemInvNt (addr : HostAddr) (tag : BitVec 16) (m : State) : Res := m.onDev fun s => hostInvalidate addr tag s

/-- GPF_PHASE1 (R32). -/
def execGpfPhase1 (m : State) : Res := m.onDev fun s => gpfPhase1 s

/-- GPF_PHASE2 (R32). -/
def execGpfPhase2 (m : State) : Res := m.onDev fun s => (gpfPhase2 s).settle

/-- GPF_PARTIAL (R32). -/
def execGpfPartial (m : State) : Res := m.onDev fun s => (gpfPartial s).settle

/-- LINK_L0 (R150). -/
def execLinkL0 (mode : LinkMode) (m : State) : Res := m.onDev fun s => (linkL0 mode s).settle

/-- LINK_DOWN (R150). -/
def execLinkDown (m : State) : Res := m.onDev fun s => (linkDown s).settle

/-- FLR (R149). -/
def execFlr (ld : Fin 16) (m : State) : Res := m.onDev fun s => flr ld s

/-- CXL_RESET (R149). -/
def execCxlReset (ld : Fin 16) (m : State) : Res := m.onDev fun s => cxlReset ld s

/-- SET_LD_ALLOCATIONS (R151). -/
def execSetLdAllocations (sizes : List Nat) (m : State) : Res := m.onDev fun s => (setLdAllocations sizes s).settle

/-- HDM_DECODER_COMMIT (R152). -/
def execHdmDecoderCommit (ld : Fin 16) (n : Fin 2) (commit : Bool) (base : BitVec 52) (size : Nat) (ways : Fin 8) (gran : Fin 7) (skip : Nat) (m : State) : Res :=
  m.onDev fun s => hdmDecoderCommit ld n commit base size ways gran skip s

/-- BAR2_BAD_ACCESS (R166). -/
def execBar2BadAccess (off : BitVec 20) (write : Bool) (m : State) : Res := m.onDev fun s => bar2BadAccess off write s

/-- MSIX_UNMASK (R177). -/
def execMsixUnmask (ld : Fin 16) (v : Fin 4) (m : State) : Res := m.onDev fun s => msixUnmask ld v s

/-- DOE_CDAT_REQUEST (R149). -/
def execDoeCdatRequest (ld : Fin 16) (m : State) : Res := m.onDev fun s => doeCdatRequest ld s

/-- IDENTIFY (R170). -/
def execIdentify (ld : Fin 16) (m : State) : Res := m.onDev fun s => identify ld s

/-- BACKGROUND_OPERATION_STATUS (R170). -/
def execBackgroundOperationStatus (ld : Fin 16) (m : State) : Res := m.onDev fun s => backgroundOperationStatus ld s

/-- GET_RESPONSE_MESSAGE_LIMIT (R170). -/
def execGetResponseMessageLimit (ld : Fin 16) (m : State) : Res := m.onDev fun s => getResponseMessageLimit ld s

/-- GET_SUPPORTED_LOGS (R170). -/
def execGetSupportedLogs (ld : Fin 16) (m : State) : Res := m.onDev fun s => getSupportedLogs ld s

/-- GET_LOG (R170). -/
def execGetLog (ld : Fin 16) (uuid : BitVec 128) (off : BitVec 32) (len : BitVec 32) (m : State) : Res := m.onDev fun s => getLog ld uuid off len s

/-- GET_EVENT_RECORDS (R170). -/
def execGetEventRecords (ld : Fin 16) (log : Byte) (m : State) : Res := m.onDev fun s => getEventRecords ld log s

/-- CLEAR_EVENT_RECORDS (R170). -/
def execClearEventRecords (ld : Fin 16) (log : Byte) (all : Bool) (handles : List (BitVec 16)) (m : State) : Res :=
  m.onDev fun s => clearEventRecords ld log all handles s

/-- GET_EVENT_INTERRUPT_POLICY (R170). -/
def execGetEventInterruptPolicy (ld : Fin 16) (m : State) : Res := m.onDev fun s => getEventInterruptPolicy ld s

/-- SET_EVENT_INTERRUPT_POLICY (R170). -/
def execSetEventInterruptPolicy (ld : Fin 16) (val : Word) (m : State) : Res := m.onDev fun s => setEventInterruptPolicy ld val s

/-- GET_FW_INFO (R170). -/
def execGetFwInfo (ld : Fin 16) (m : State) : Res := m.onDev fun s => getFwInfo ld s

/-- GET_TIMESTAMP (R413). -/
def execGetTimestamp (ld : Fin 16) (m : State) : Res := m.onDev fun s => getTimestamp ld s

/-- SET_TIMESTAMP (R413). -/
def execSetTimestamp (ld : Fin 16) (t : BitVec 64) (m : State) : Res := m.onDev fun s => setTimestamp ld t s

/-- IDENTIFY_MEMORY_DEVICE (R170). -/
def execIdentifyMemoryDevice (ld : Fin 16) (m : State) : Res := m.onDev fun s => identifyMemoryDevice ld s

/-- GET_PARTITION_INFO (R170). -/
def execGetPartitionInfo (ld : Fin 16) (m : State) : Res := m.onDev fun s => getPartitionInfo ld s

/-- GET_LSA (R170). -/
def execGetLsa (ld : Fin 16) (off : BitVec 32) (len : BitVec 32) (m : State) : Res := m.onDev fun s => (getLsa ld off len s).settle

/-- SET_LSA (R170). -/
def execSetLsa (ld : Fin 16) (off : BitVec 32) (data : Bytes) (m : State) : Res := m.onDev fun s => (setLsa ld off data s).settle

/-- GET_HEALTH_INFO (R172). -/
def execGetHealthInfo (ld : Fin 16) (temp : BitVec 16) (m : State) : Res := m.onDev fun s => getHealthInfo ld temp s

/-- GET_ALERT_CONFIG (R172). -/
def execGetAlertConfig (ld : Fin 16) (m : State) : Res := m.onDev fun s => getAlertConfig ld s

/-- SET_ALERT_CONFIG (R172). -/
def execSetAlertConfig (ld : Fin 16) (valid : Byte) (enable : Byte) (life : Byte) (hi : BitVec 16) (lo : BitVec 16) (vol : BitVec 16) (pers : BitVec 16) (m : State) : Res :=
  m.onDev fun s => (setAlertConfig ld valid enable life hi lo vol pers s).settle

/-- GET_SHUTDOWN_STATE (R163). -/
def execGetShutdownState (ld : Fin 16) (m : State) : Res := m.onDev fun s => getShutdownState ld s

/-- SET_SHUTDOWN_STATE (R163). -/
def execSetShutdownState (ld : Fin 16) (dirty : Bool) (m : State) : Res := m.onDev fun s => (setShutdownState ld dirty s).settle

/-- GET_POISON_LIST (R171). -/
def execGetPoisonList (ld : Fin 16) (dpa : BitVec 64) (len : BitVec 64) (m : State) : Res := m.onDev fun s => getPoisonList ld dpa len s

/-- INJECT_POISON (R171). -/
def execInjectPoison (ld : Fin 16) (dpa : BitVec 64) (damaged : Bool) (m : State) : Res := m.onDev fun s => (injectPoison ld dpa damaged s).settle

/-- CLEAR_POISON (R171). -/
def execClearPoison (ld : Fin 16) (dpa : BitVec 64) (data : Line) (damaged : Bool) (m : State) : Res := m.onDev fun s => (clearPoison ld dpa data damaged s).settle

/-- UNSUPPORTED_COMMAND (R170). -/
def execUnsupportedCommand (ld : Fin 16) (opcode : BitVec 16) (m : State) : Res := m.onDev fun s => unsupportedCommand ld opcode s

end Sys2Proof.Machine
end

