-- ==== Sys2Proof/Machine/CmdKx.lean ====
section
/-!
DEFINITION. What each command does: the KX_ commands. A command that can set off other work of the device settles it in the same step.
-/
namespace Sys2Proof.Machine

/-- KX_POWER_OFF (R105). -/
def execKxPowerOff (p : Port) (input : Bytes) (m : State) : Res := m.onDev fun s => (s.kxCommand p 0xC000 input).settle

/-- KX_POWER_ON (R174). -/
def execKxPowerOn (p : Port) (input : Bytes) (m : State) : Res := m.onDev fun s => (s.kxCommand p 0xC001 input).settle

/-- KX_MODE_MAINT_ENTER (R174). -/
def execKxModeMaintEnter (p : Port) (rest : Bytes) (m : State) : Res := m.onDev fun s => (s.kxCommand p 0xC002 (3 :: rest)).settle

/-- KX_MODE_MAINT_EXIT (R174). -/
def execKxModeMaintExit (p : Port) (rest : Bytes) (m : State) : Res := m.onDev fun s => (s.kxCommand p 0xC002 (4 :: rest)).settle

/-- KX_MODE_RECOV_REQ (R174). -/
def execKxModeRecovReq (p : Port) (rest : Bytes) (m : State) : Res := m.onDev fun s => (s.kxCommand p 0xC002 (5 :: rest)).settle

/-- KX_RESET_FW (R174). -/
def execKxResetFw (p : Port) (rest : Bytes) (m : State) : Res := m.onDev fun s => (s.kxCommand p 0xC003 (1 :: rest)).settle

/-- KX_RESET_FULL (R174). -/
def execKxResetFull (p : Port) (rest : Bytes) (m : State) : Res := m.onDev fun s => (s.kxCommand p 0xC003 (2 :: rest)).settle

/-- KX_GET_STATUS (R175). -/
def execKxGetStatus (p : Port) (input : Bytes) (m : State) : Res := m.onDev fun s => s.kxCommand p 0xC010 input

/-- KX_LOG_READ (R176). -/
def execKxLogRead (p : Port) (input : Bytes) (m : State) : Res := m.onDev fun s => s.kxCommand p 0xC020 input

/-- KX_BATT_STATE_GET (R366). -/
def execKxBattStateGet (p : Port) (input : Bytes) (m : State) : Res := m.onDev fun s => s.kxCommand p 0xC030 input

/-- KX_BATT_STATE_PUT (R367). -/
def execKxBattStatePut (p : Port) (input : Bytes) (m : State) : Res := m.onDev fun s => (s.kxCommand p 0xC031 input).settle

/-- KX_UPD_OPEN (R432). -/
def execKxUpdOpen (p : Port) (input : Bytes) (m : State) : Res := m.onDev fun s => (s.kxCommand p 0xC040 input).settle

/-- KX_UPD_PIECE (R431). -/
def execKxUpdPiece (p : Port) (input : Bytes) (m : State) : Res := m.onDev fun s => (s.kxCommand p 0xC041 input).settle

/-- KX_UPD_BITMAP (R174). -/
def execKxUpdBitmap (p : Port) (input : Bytes) (m : State) : Res := m.onDev fun s => s.kxCommand p 0xC042 input

/-- KX_UPD_COMMIT (R434). -/
def execKxUpdCommit (p : Port) (input : Bytes) (m : State) : Res := m.onDev fun s => (s.kxCommand p 0xC043 input).settle

/-- KX_UPD_ABANDON (R432). -/
def execKxUpdAbandon (p : Port) (input : Bytes) (m : State) : Res := m.onDev fun s => (s.kxCommand p 0xC044 input).settle

/-- KX_MARGIN (R345). -/
def execKxMargin (p : Port) (input : Bytes) (m : State) : Res := m.onDev fun s => (s.kxCommand p 0xC050 input).settle

/-- KX_DRAM_RETRAIN (R226). -/
def execKxDramRetrain (p : Port) (input : Bytes) (m : State) : Res := m.onDev fun s => (s.kxCommand p 0xC051 input).settle

/-- KX_SALVAGE_OPEN (R439). -/
def execKxSalvageOpen (p : Port) (input : Bytes) (m : State) : Res := m.onDev fun s => (s.kxCommand p 0xC060 input).settle

/-- KX_SALVAGE_PIECE (R439). -/
def execKxSalvagePiece (p : Port) (input : Bytes) (m : State) : Res := m.onDev fun s => (s.kxCommand p 0xC061 input).settle

/-- KX_SALVAGE_COMMIT (R439). -/
def execKxSalvageCommit (p : Port) (input : Bytes) (m : State) : Res := m.onDev fun s => (s.kxCommand p 0xC062 input).settle

end Sys2Proof.Machine
end

