-- ==== Sys2Proof/Machine/CmdMap.lean ====
section
/-!
DEFINITION. What each command does: the budget, the granule map, the ferry engine, the crossing and the landing. A command that can set off other work of the device settles it in the same step.
-/
namespace Sys2Proof.Machine

/-- BUDGET_RECOMPUTE (R39). -/
def execBudgetRecompute (m : State) : Res := m.onDev fun s => s.recompute.settle

/-- THRU_FERRY_CAPTURE (R47). -/
def execThruFerryCapture (g : BitVec 26) (damaged : Bool) (m : State) : Res := m.onDev fun s => (thruFerryCapture g damaged s).settle

/-- WEAR_CREDIT (R89). -/
def execWearCredit (m : State) : Res := m.onDev fun s => (wearCredit s).settle

/-- CHECKPOINT_INTERVAL (R74). -/
def execCheckpointInterval (m : State) : Res := m.onDev fun s => (checkpointInterval s).settle

/-- MAP_GRANULES_LOADED (R77). -/
def execMapGranulesLoaded (failed : Bool) (m : State) (recon : Bool := false) (damaged : List (BitVec 26) := []) : Res :=
  m.onDev fun s => (mapGranulesLoaded failed recon damaged s).settle

/-- MAP_ROLLFWD_END (R77). -/
def execMapRollfwdEnd (m : State) : Res := m.onDev fun s => (mapRollfwdEnd s).settle

/-- MAP_REBUILD_END (R77). -/
def execMapRebuildEnd (m : State) : Res := m.onDev fun s => (mapRebuildEnd s).settle

/-- MAP_NORMALISATION_END (R77). -/
def execMapNormalisationEnd (m : State) : Res := m.onDev fun s => (mapNormalisationEnd s).settle

/-- GMAP_LOOKUP (R81). -/
def execGmapLookup (src : Src) (val : Word) (m : State) : Res := m.onDev fun s => gmapLookup src val s

/-- GMAP_LOOKUP_DONE (R81). -/
def execGmapLookupDone (m : State) (damaged : Bool := false) : Res := m.onDev fun s => (gmapLookupDone damaged s).settle

/-- GMAP_CACHE_FLUSH (R81). -/
def execGmapCacheFlush (src : Src) (m : State) : Res := m.onDev fun s => gmapCacheFlush src s

/-- GMAP_CACHE_FLUSH_DONE (R81). -/
def execGmapCacheFlushDone (m : State) : Res := m.onDev fun s => (gmapCacheFlushDone s).settle

/-- SWEEP_PASS_START (R85). -/
def execSweepPassStart (m : State) : Res := m.onDev fun s => (sweepPassStart s).settle

/-- SWEEP_PASS_END (R85). -/
def execSweepPassEnd (m : State) (damaged : List (BitVec 26) := []) : Res := m.onDev fun s => (sweepPassEnd damaged s).settle

/-- FERRY_CAPTURE (R86). -/
def execFerryCapture (damaged : Bool) (m : State) : Res := m.onDev fun s => (ferryCapture damaged s).settle

/-- FERRY_REISSUE (R92). -/
def execFerryReissue (m : State) (damaged : Bool := false) : Res := m.onDev fun s => (ferryReissue damaged s).settle

/-- FERRY_PARK_EXPIRY (R92). -/
def execFerryParkExpiry (g : BitVec 26) (m : State) : Res := m.onDev fun s => (ferryParkExpiry g s).settle

/-- FERRY_DRAIN_ONCE (R103). -/
def execFerryDrainOnce (src : Src) (m : State) : Res := m.onDev fun s => (ferryDrainOnce src s).settle

/-- FOLD_CAPTURE (R94). -/
def execFoldCapture (damaged : Bool) (m : State) : Res := m.onDev fun s => (foldCapture damaged s).settle

/-- RELOCATION_CAPTURE (R268). -/
def execRelocationCapture (damaged : Bool) (m : State) : Res := m.onDev fun s => (relocationCapture damaged s).settle

/-- GROUP_CLOSE_TIMEOUT (R254). -/
def execGroupCloseTimeout (m : State) (damaged : List (BitVec 26) := []) : Res := m.onDev fun s => (groupCloseTimeout damaged s).settle

/-- HOST_QUIESCED (R108). -/
def execHostQuiesced (m : State) : Res := m.onDev fun s => (hostQuiesced s).settle

/-- CROSSING_MAP_FLUSHED (R110). -/
def execCrossingMapFlushed (m : State) : Res := m.onDev fun s => (crossingMapFlushed s).settle

/-- CARRY_CAPTURE (R110). -/
def execCarryCapture (damaged : List (BitVec 26)) (m : State) : Res := m.onDev fun s => (carryCapture damaged s).settle

/-- RESTORE_TAKE (R134). -/
def execRestoreTake (damaged : Bool) (m : State) : Res := m.onDev fun s => (restoreTake damaged s).settle

/-- RESTORE_ZERO_FILL_DONE (R131). -/
def execRestoreZeroFillDone (g : BitVec 26) (m : State) : Res := m.onDev fun s => (restoreZeroFillDone g.toNat s).settle

/-- RESTORE_PRIO_WRITE (R134). -/
def execRestorePrioWrite (src : Src) (limit : Bool) (val : Word) (m : State) : Res := m.onDev fun s => (restorePrioWrite src limit val s).settle

/-- SESSION_OPEN_WRITTEN (R143). -/
def execSessionOpenWritten (m : State) : Res := m.onDev fun s => (sessionOpenWritten s).settle

end Sys2Proof.Machine
end

