-- ==== Sys2Proof/Machine/CmdModes.lean ====
section
/-!
DEFINITION. What each command does: Modes, pins, charter load and the Ferryman cores. A command that can set off other work of the device settles it in the same step.
-/
namespace Sys2Proof.Machine

/-- AUX_ON (R448). -/
def execAuxOn (pins : PinLevels) (m : State) : Res := m.onDev fun s => (auxOn pins s).settle

/-- AUX_OFF (R10). -/
def execAuxOff (pins : PinLevels) (m : State) : Res := m.onDev fun s => (auxOff pins s).settle

/-- READY_AON (R16). -/
def execReadyAon (m : State) : Res := m.onDev fun s => (readyAon s).settle

/-- READY_CHARTER (R19). -/
def execReadyCharter (m : State) : Res := m.onDev fun s => (readyCharter s).settle

/-- CHARTER_MIGRATED (R21). -/
def execCharterMigrated (m : State) : Res := m.onDev fun s => (charterMigrated s).settle

/-- CHARTER_MIGRATE_FAIL (R21). -/
def execCharterMigrateFail (timeout : Bool) (m : State) : Res := m.onDev fun s => (charterMigrateFail timeout s).settle

/-- READY_FW (R16). -/
def execReadyFw (m : State) : Res := m.onDev fun s => (readyFw s).settle

/-- MAIN_GOOD (R9). -/
def execMainGood (m : State) : Res := m.onDev fun s => (mainGood s).settle

/-- INPUT_FAIL (R9). -/
def execInputFail (m : State) : Res := m.onDev fun s => (inputFail s).settle

/-- REMOVAL (R14). -/
def execRemoval (m : State) : Res := m.onDev fun s => (removal s).settle

/-- PERST_ON (R10). -/
def execPerstOn (pins : PinLevels) (m : State) : Res := m.onDev fun s => (perstOn pins s).settle

/-- PERST_OFF (R10). -/
def execPerstOff (pins : PinLevels) (m : State) : Res := m.onDev fun s => (perstOff pins s).settle

/-- HOST_ABSENT (R9). -/
def execHostAbsent (m : State) : Res := m.onDev fun s => s.evHostAbsent.settle

/-- MODE_REQ_OFF (R26). -/
def execModeReqOff (src : Src) (m : State) : Res := m.onDev fun s => (modeRequest src 1 s).settle

/-- MODE_REQ_ON (R26). -/
def execModeReqOn (src : Src) (m : State) : Res := m.onDev fun s => (modeRequest src 2 s).settle

/-- MODE_REQ_MAINT_ENTER (R26). -/
def execModeReqMaintEnter (src : Src) (m : State) : Res := m.onDev fun s => (modeRequest src 3 s).settle

/-- MODE_REQ_MAINT_EXIT (R26). -/
def execModeReqMaintExit (src : Src) (m : State) : Res := m.onDev fun s => (modeRequest src 4 s).settle

/-- MODE_REQ_RECOV (R26). -/
def execModeReqRecov (src : Src) (m : State) : Res := m.onDev fun s => (modeRequest src 5 s).settle

/-- MODE_REQ_RESET_FULL (R26). -/
def execModeReqResetFull (src : Src) (m : State) : Res := m.onDev fun s => (modeRequest src 6 s).settle

/-- CORE_LOCK_WRITE (R22). -/
def execCoreLockWrite (src : Src) (m : State) : Res := m.onDev fun s => lockWrite src s

/-- WATCHDOG_KICK (R403). -/
def execWatchdogKick (src : Src) (m : State) : Res := m.onDev fun s => wdogWrite src 0xA5C3 s

/-- WATCHDOG_FORCE_EXPIRE (R403). -/
def execWatchdogForceExpire (src : Src) (m : State) : Res := m.onDev fun s => (wdogForce src s).settle

/-- WATCHDOG_EXPIRY (R403). -/
def execWatchdogExpiry (m : State) : Res := m.onDev fun s => (wdogExpiry s).settle

/-- LOCKSTEP_MISMATCH (R401). -/
def execLockstepMismatch (m : State) : Res := m.onDev fun s => (s.fwFault 1).settle

/-- FW_ACCESS_FAULT (R402). -/
def execFwAccessFault (kind : Fin 3) (addr : Word) (pc : Word) (aligned32 : Bool) (m : State) : Res := m.onDev fun s => fwAccessFault kind.val addr pc aligned32 s

/-- FW_NAND_READ (R409). -/
def execFwNandRead (src : Src) (val : Word) (m : State) : Res := m.onDev fun s => (fwNand src val 1 s).settle

/-- FW_NAND_PROGRAM (R406). -/
def execFwNandProgram (src : Src) (val : Word) (m : State) : Res := m.onDev fun s => (fwNand src val 2 s).settle

/-- FW_NAND_ERASE (R406). -/
def execFwNandErase (src : Src) (val : Word) (m : State) : Res := m.onDev fun s => (fwNand src val 3 s).settle

/-- FW_FAULT_WINDOW_EXPIRY (R26). -/
def execFwFaultWindowExpiry (m : State) : Res := m.onDev fun s => fwFaultWindow s

/-- REGISTER_WRITE (R394). -/
def execRegisterWrite (src : Src) (off : BitVec 20) (val : Word) (m : State) : Res := m.onDev fun s => (regWrite src off.toNat val s).settle

/-- PAIR_LO_READ (R5). -/
def execPairLoRead (src : Src) (off : BitVec 20) (m : State) : Res := m.onDev fun s => pairLoRead src off.toNat s

end Sys2Proof.Machine
end

