-- ==== Sys2Proof/Machine/CmdPorts.lean ====
section
/-!
DEFINITION. What each command does: the two-wire ports, the logbook and the update manager. A command that can set off other work of the device settles it in the same step.
-/
namespace Sys2Proof.Machine

/-- WIN_ADDR (R386). -/
def execWinAddr (sv : Bool) (count : Byte) (data : Bytes) (pec : Option Byte) (m : State) : Res := m.onDev fun s => winAddr sv count data pec s

/-- WIN_DATA_READ (R386). -/
def execWinDataRead (sv : Bool) (wantPec : Bool) (m : State) : Res := m.onDev fun s => winDataRead sv wantPec s

/-- WIN_DATA_WRITE (R386). -/
def execWinDataWrite (sv : Bool) (count : Byte) (data : Bytes) (pec : Option Byte) (m : State) : Res := m.onDev fun s => (winDataWrite sv count data pec s).settle

/-- WIN_NEXT (R386). -/
def execWinNext (sv : Bool) (wantPec : Bool) (m : State) : Res := m.onDev fun s => winNext sv wantPec s

/-- STATUS (R385). -/
def execStatus (sv : Bool) (wantPec : Bool) (m : State) : Res := m.onDev fun s => status sv wantPec s

/-- INFO (R385). -/
def execInfo (sv : Bool) (wantPec : Bool) (m : State) : Res := m.onDev fun s => s.sbInfo sv wantPec s.coreMode

/-- BUF_PTR (R385). -/
def execBufPtr (sv : Bool) (count : Byte) (data : Bytes) (pec : Option Byte) (m : State) : Res := m.onDev fun s => bufPtr sv count data pec s

/-- BUF_DATA_WRITE (R385). -/
def execBufDataWrite (sv : Bool) (count : Byte) (data : Bytes) (pec : Option Byte) (m : State) : Res := m.onDev fun s => bufDataWrite sv count data pec s

/-- BUF_DATA_READ (R385). -/
def execBufDataRead (sv : Bool) (wantPec : Bool) (m : State) : Res := m.onDev fun s => bufDataRead sv wantPec s

/-- EXEC (R387). -/
def execExec (sv : Bool) (count : Byte) (data : Bytes) (pec : Option Byte) (m : State) : Res := m.onDev fun s => (sbExec sv count data pec s).settle

/-- RESULT (R385). -/
def execResult (sv : Bool) (wantPec : Bool) (m : State) : Res := m.onDev fun s => result sv wantPec s

/-- SIDEBAND_UNKNOWN_CODE (R385). -/
def execSidebandUnknownCode (sv : Bool) (code : Byte) (m : State) : Res := m.onDev fun s => sidebandUnknownCode sv code s

/-- TWB_XFER (R392). -/
def execTwbXfer (src : Src) (val : Word) (m : State) : Res := m.onDev fun s => (xferGo src val s).settle

/-- TWB_TRANSFER_DONE (R377). -/
def execTwbTransferDone (e : XferEnd) (data : Bytes) (m : State) : Res := m.onDev fun s => (s.transferDone e data).settle

/-- STRETCH_TIMEOUT (R377). -/
def execStretchTimeout (sda : Option Bool) (m : State) : Res := m.onDev fun s => (s.stretchTimeout sda).settle

/-- PM_RETRY (R377). -/
def execPmRetry (m : State) : Res := m.onDev fun s => (pmRetry s).settle

/-- TARGET_STRETCH_LIMIT (R380). -/
def execTargetStretchLimit (sv : Bool) (m : State) : Res := m.onDev fun s => targetStretchLimit sv s

/-- REPEATED_START_ABORT (R381). -/
def execRepeatedStartAbort (p : Fin 3) (m : State) : Res := m.onDev fun s => (repeatedStartAbort p s).settle

/-- TARGET_SCL_TIMEOUT (R382). -/
def execTargetSclTimeout (p : Fin 3) (m : State) : Res := m.onDev fun s => (targetSclTimeout p s).settle

/-- BUS_FAILED_RECOVER (R378). -/
def execBusFailedRecover (p : Fin 3) (m : State) : Res := m.onDev fun s => (busFailedRecover p s).settle

/-- YARD_EN_LOW (R376). -/
def execYardEnLow (m : State) : Res := m.onDev fun s => (yardEnLow s).settle

/-- HOST_NOTIFY (R388). -/
def execHostNotify (e : XferEnd) (m : State) : Res := m.onDev fun s => (hostNotify e s).settle

/-- HOST_NOTIFY_RETRY (R388). -/
def execHostNotifyRetry (e : XferEnd) (m : State) : Res := m.onDev fun s => (hostNotifyRetry e s).settle

/-- POWER_PART_HOST_NOTIFY (R373). -/
def execPowerPartHostNotify (addr : BitVec 7) (data : BitVec 16) (m : State) : Res := m.onDev fun s => (powerPartHostNotify addr data s).settle

/-- ADDRESS_NOT_OWN (R384). -/
def execAddressNotOwn (p : Fin 3) (m : State) : Res := m.onDev fun s => addressNotOwn p s

/-- LOG_SCAN_DONE (R420). -/
def execLogScanDone (m : State) : Res := m.onDev fun s => (logScanDone s).settle

/-- LOG_APPEND (R416). -/
def execLogAppend (m : State) : Res := m.onDev fun s => (logAppend s).settle

/-- LOG_PROGRAM_DONE (R416). -/
def execLogProgramDone (fail : Bool) (m : State) : Res := m.onDev fun s => (logProgramDone fail s).settle

/-- LOG_TIMED_FLUSH (R416). -/
def execLogTimedFlush (m : State) : Res := m.onDev fun s => (logTimedFlush s).settle

/-- LOG_TIME_MARK (R413). -/
def execLogTimeMark (m : State) : Res := m.onDev fun s => logTimeMark s

/-- UPD_PIECE_WRITTEN (R431). -/
def execUpdPieceWritten (bad : Bool) (m : State) : Res := m.onDev fun s => (updPieceWritten bad s).settle

/-- UPD_IDLE_EXPIRY (R432). -/
def execUpdIdleExpiry (m : State) : Res := m.onDev fun s => (updIdleExpiry s).settle

/-- TRIAL_EXPIRY (R433). -/
def execTrialExpiry (m : State) : Res := m.onDev fun s => (trialExpiry s).settle

/-- UPD_CTL_ROLLBACK (R438). -/
def execUpdCtlRollback (src : Src) (m : State) : Res := m.onDev fun s => (updCtlWrite src 1 s).settle

/-- UPD_CTL_CONFIRM (R442). -/
def execUpdCtlConfirm (src : Src) (m : State) : Res := m.onDev fun s => (updCtlWrite src 2 s).settle

end Sys2Proof.Machine
end

