-- ==== Sys2Proof/Machine/CmdPower.lean ====
section
/-!
DEFINITION. What each command does: the sequencer, the bell line and the battery. A command that can set off other work of the device settles it in the same step.
-/
namespace Sys2Proof.Machine

/-- RAIL_SAMPLE (R341). -/
def execRailSample (pins : PinLevels) (sns : List Nat) (tele : List Nat) (m : State) : Res := m.onDev fun s => (railSamples pins sns tele s).settle

/-- PM_STATUS_POLL (R341). -/
def execPmStatusPoll (stat : List Byte) (m : State) : Res := m.onDev fun s => (pmStatusPoll stat s).settle

/-- TIMETABLE_WAIT_EXPIRY (R336). -/
def execTimetableWaitExpiry (m : State) : Res := m.onDev fun s => (timetableWait s).settle

/-- TIMETABLE_CHECK_TIMEOUT (R336). -/
def execTimetableCheckTimeout (m : State) : Res := m.onDev fun s => (checkTimeout s).settle

/-- RAMP_TIMEOUT (R343). -/
def execRampTimeout (rail : Fin 24) (m : State) : Res := m.onDev fun s => (rampTimeout rail.val s).settle

/-- DISCHARGE_TIMEOUT (R344). -/
def execDischargeTimeout (rail : Fin 24) (m : State) : Res := m.onDev fun s => (dischargeTimeout rail.val s).settle

/-- RESTART_WINDOW_EXPIRY (R343). -/
def execRestartWindowExpiry (rail : Fin 24) (m : State) : Res := m.onDev fun s => restartWindowExpiry rail s

/-- SEQ_MARGIN_WRITE (R345). -/
def execSeqMarginWrite (src : Src) (val : Word) (m : State) : Res := m.onDev fun s => (seqMarginWrite src val s).settle

/-- BELL_TX (R346). -/
def execBellTx (src : Src) (val : Word) (m : State) : Res := m.onDev fun s => (bellTx src val s).settle

/-- BELL_FRAME (R347). -/
def execBellFrame (k : Fin 64) (parityOk : Bool) (m : State) : Res := m.onDev fun s => (bellFrame k.val parityOk s).settle

/-- BELL_BARRIER_RELEASE (R347). -/
def execBellBarrierRelease (m : State) : Res := m.onDev fun s => (bellBarrierRelease s).settle

/-- BELL_BARRIER_TIMEOUT (R347). -/
def execBellBarrierTimeout (m : State) : Res := m.onDev fun s => (bellBarrierTimeout s).settle

/-- BELL_LINE_FAIL (R349). -/
def execBellLineFail (m : State) : Res := m.onDev fun s => (bellLineFail s).settle

/-- BELL_LINE_RECOVER (R349). -/
def execBellLineRecover (m : State) : Res := m.onDev fun s => (bellLineRecover s).settle

/-- BATT_SAMPLE (R356). -/
def execBattSample (cur : Option Int) (volt : Option Nat) (temp : Option Int) (idMv : Option Nat) (m : State) : Res :=
  m.onDev fun s => (battSample cur volt temp idMv s).settle

/-- PACK_PRESENCE_HELD (R358). -/
def execPackPresenceHeld (m : State) : Res := m.onDev fun s => (packHeld s).settle

/-- SETTLING_TIMEOUT (R360). -/
def execSettlingTimeout (m : State) : Res := m.onDev fun s => (settlingTimeout s).settle

/-- FAULT_RECOVERED (R360). -/
def execFaultRecovered (m : State) : Res := m.onDev fun s => (faultRecovered s).settle

/-- ELB_RECOMPUTE (R361). -/
def execElbRecompute (m : State) : Res := m.onDev fun s => (elbRecompute s).settle

/-- CHARGER_RETRY (R368). -/
def execChargerRetry (m : State) : Res := m.onDev fun s => (chargerRetry s).settle

/-- CHARGE_TAPER (R364). -/
def execChargeTaper (m : State) : Res := m.onDev fun s => (chargeTaper s).settle

/-- DISCHARGE_TAPER (R364). -/
def execDischargeTaper (m : State) : Res := m.onDev fun s => (dischargeTaper s).settle

/-- REST_CALIBRATION (R364). -/
def execRestCalibration (m : State) : Res := m.onDev fun s => (restCalibration s).settle

/-- BATT_RECAL (R372). -/
def execBattRecal (src : Src) (val : Word) (m : State) : Res := m.onDev fun s => (battRecal src (val ||| 2) s).settle

end Sys2Proof.Machine
end

