-- ==== Sys2Proof/Machine/CmdStore.lean ====
section
/-!
DEFINITION. What each command does: NAND, the charter store, the cipher engine and the check-value units. A command that can set off other work of the device settles it in the same step.
-/
namespace Sys2Proof.Machine

/-- READY_NAND (R272). -/
def execReadyNand (m : State) : Res := m.onDev fun s => (readyNand s).settle

/-- NAND_DIE_CHECK_END (R271). -/
def execNandDieCheckEnd (ch : Fin 16) (d : Fin 8) (id : Option Bytes) (phy : Bool) (m : State)
    (bad : List (Fin 4 × Fin 4096) := []) : Res :=
  m.onDev fun s => (nandDieCheckEnd ch.val d.val id phy bad s).settle

/-- NAND_OP_ISSUE (R259). -/
def execNandOpIssue (ch : Fin 16) (d : Fin 8) (m : State) : Res := m.onDev fun s => (nandOpIssue ch.val d.val s).settle

/-- NAND_OP_COMPLETE (R259). -/
def execNandOpComplete (ch : Fin 16) (d : Fin 8) (st : NandStatus) (m : State) : Res := m.onDev fun s => (nandOpComplete ch.val d.val st s).settle

/-- NAND_OP_TIMEOUT (R270). -/
def execNandOpTimeout (ch : Fin 16) (d : Fin 8) (m : State) : Res := m.onDev fun s => (nandOpComplete ch.val d.val .timeout s).settle

/-- NAND_SUSPEND (R262). -/
def execNandSuspend (ch : Fin 16) (d : Fin 8) (m : State) : Res := m.onDev fun s => (nandSuspend ch.val d.val s).settle

/-- PART_READY (R299). -/
def execPartReady (m : State) : Res := m.onDev fun s => partReady s

/-- CHTR_DISCOVERY_DONE (R299). -/
def execChtrDiscoveryDone (supported : Bool) (xspi : Bool) (density : Fin 4) (jedec : BitVec 24) (page512 : Bool) (m : State) : Res :=
  m.onDev fun s => (chtrDiscoveryDone supported xspi density jedec page512 s).settle

/-- CHTR_REFCLK_STABLE (R278). -/
def execChtrRefclkStable (m : State) : Res := m.onDev fun s => chtrRefclkStable s

/-- CHTR_REFCLK_LOST (R278). -/
def execChtrRefclkLost (m : State) : Res := m.onDev fun s => chtrRefclkLost s

/-- CHTR_READ (R297). -/
def execChtrRead (src : Src) (tag : Byte) (lenM1 : BitVec 16) (addr : Word) (buf : Word) (m : State) : Res := m.onDev fun s => (chtrRead src tag lenM1 addr buf s).settle

/-- CHTR_PROGRAM (R283). -/
def execChtrProgram (src : Src) (tag : Byte) (lenM1 : BitVec 16) (addr : Word) (buf : Word) (ram : Bytes) (m : State) : Res :=
  m.onDev fun s => (chtrProgram src tag lenM1 addr buf ram s).settle

/-- CHTR_ERASE_4K (R281). -/
def execChtrErase4k (src : Src) (tag : Byte) (addr : Word) (m : State) : Res := m.onDev fun s => (chtrErase4k src tag addr s).settle

/-- CHTR_ERASE_64K (R281). -/
def execChtrErase64k (src : Src) (tag : Byte) (addr : Word) (m : State) : Res := m.onDev fun s => (chtrErase64k src tag addr s).settle

/-- CHTR_READ_SFDP (R303). -/
def execChtrReadSfdp (src : Src) (tag : Byte) (lenM1 : BitVec 16) (addr : Word) (buf : Word) (m : State) : Res :=
  m.onDev fun s => (chtrReadSfdp src tag lenM1 addr buf s).settle

/-- CHTR_OP_COMPLETE (R283). -/
def execChtrOpComplete (bad : Bool) (m : State) : Res := m.onDev fun s => (chtrOpComplete bad s).settle

/-- CHTR_OP_TIMEOUT (R279). -/
def execChtrOpTimeout (m : State) : Res := m.onDev fun s => (chtrOpTimeout s).settle

/-- CHTR_CMPL_ACK (R303). -/
def execChtrCmplAck (src : Src) (m : State) : Res := m.onDev fun s => chtrCmplAck src s

/-- CHTR_PR_READ (R294). -/
def execChtrPrRead (src : Src) (m : State) : Res := m.onDev fun s => (chtrPrRead src s).settle

/-- CHTR_PR_WRITE (R294). -/
def execChtrPrWrite (src : Src) (m : State) : Res := m.onDev fun s => (chtrPrWrite src s).settle

/-- PW_SET (R296). -/
def execPwSet (src : Src) (region : Bool) (m : State) : Res := m.onDev fun s => (pwSet src region s).settle

/-- PW_UNLOCK (R296). -/
def execPwUnlock (src : Src) (region : Bool) (m : State) : Res := m.onDev fun s => (pwUnlock src region s).settle

/-- PW_LOCK (R296). -/
def execPwLock (src : Src) (region : Bool) (m : State) : Res := m.onDev fun s => pwLock src region s

/-- PW_CLEAR (R296). -/
def execPwClear (src : Src) (region : Bool) (m : State) : Res := m.onDev fun s => (pwClear src region s).settle

/-- PW_ERASE_REGION (R296). -/
def execPwEraseRegion (src : Src) (region : Bool) (m : State) : Res := m.onDev fun s => (pwEraseRegion src region s).settle

/-- PW_LOCKOUT_EXPIRY (R296). -/
def execPwLockoutExpiry (region : Bool) (m : State) : Res := m.onDev fun s => pwLockoutExpiry region s

/-- ROM_READ (R298). -/
def execRomRead (addr : Word) (buf : BitVec 18) (len : BitVec 17) (pc : Word) (m : State) : Res := m.onDev fun s => (romRead addr buf len pc s).settle

/-- ROM_PROGRAM (R298). -/
def execRomProgram (addr : Word) (buf : BitVec 18) (ram : Bytes) (pc : Word) (m : State) : Res := m.onDev fun s => (romProgram addr buf ram pc s).settle

/-- ROM_ERASE (R298). -/
def execRomErase (addr : Word) (big : Bool) (pc : Word) (m : State) : Res := m.onDev fun s => (romErase addr big pc s).settle

/-- ROM_CRC32C (R298). -/
def execRomCrc32c (ram : Bytes) (init : Word) (m : State) : Res := m.onDev fun s => romCrc32c ram init s

/-- ROM_SFDP (R298). -/
def execRomSfdp (off : Word) (buf : BitVec 18) (len : BitVec 9) (pc : Word) (m : State) : Res := m.onDev fun s => (romSfdp off buf len pc s).settle

/-- CIPHER_MESSAGE_START (R307). -/
def execCipherMessageStart (m : State) : Res := m.onDev fun s => (cipherMessageStart s).settle

/-- CIPHER_MESSAGE_DONE (R311). -/
def execCipherMessageDone (lane : Fin 16) (res : MsgEnd) (m : State) : Res := m.onDev fun s => (cipherMessageDone lane.val res s).settle

/-- CIPH_ADVANCE (R329). -/
def execCiphAdvance (src : Src) (m : State) : Res := m.onDev fun s => (ciphAdvance src 1 s).settle

/-- EPOCH_RESERVATION_COMMIT (R314). -/
def execEpochReservationCommit (done : Fin 3) (m : State) : Res := m.onDev fun s => (epochReservation done.val s).settle

/-- EPOCH_RESERVE_RETRY (R319). -/
def execEpochReserveRetry (m : State) : Res := m.onDev fun s => (epochReserveRetry s).settle

/-- CHK_INIT (R324). -/
def execChkInit (src : Src) (n : Fin 8) (val : Word) (m : State) : Res := m.onDev fun s => chkInit src n (val ||| 4) s

/-- CHK_VALUE_WRITE (R324). -/
def execChkValueWrite (src : Src) (n : Fin 8) (val : Word) (m : State) : Res := m.onDev fun s => chkValueWrite src n val s

/-- CHK_FEED8 (R323). -/
def execChkFeed8 (src : Src) (n : Fin 8) (val : Word) (m : State) : Res := m.onDev fun s => chkFeed8 src n val s

/-- CHK_FEED16 (R323). -/
def execChkFeed16 (src : Src) (n : Fin 8) (val : Word) (m : State) : Res := m.onDev fun s => chkFeed16 src n val s

/-- CHK_FEED32 (R323). -/
def execChkFeed32 (src : Src) (n : Fin 8) (val : Word) (m : State) : Res := m.onDev fun s => chkFeed32 src n val s

/-- CHK_EXPECT (R325). -/
def execChkExpect (src : Src) (n : Fin 8) (val : Word) (m : State) : Res := m.onDev fun s => chkExpect src n val s

end Sys2Proof.Machine
end

