-- ==== Sys2Proof/Machine/Dispatch.lean ====
section
/-!
DEFINITION. The effect of a command: one arm per constructor of Instr, each a direct call of the command's meaning.
-/
namespace Sys2Proof.Machine

/-- The effect of a command on everything but the queue. -/
def exec (i : Instr) (s : State) : Host.Outcome State Fault Refusal :=
  match i with
  | .auxOn pins => Sys2Proof.Machine.execAuxOn pins s
  | .auxOff pins => Sys2Proof.Machine.execAuxOff pins s
  | .readyAon => Sys2Proof.Machine.execReadyAon s
  | .readyCharter => Sys2Proof.Machine.execReadyCharter s
  | .charterMigrated => Sys2Proof.Machine.execCharterMigrated s
  | .charterMigrateFail timeout => Sys2Proof.Machine.execCharterMigrateFail timeout s
  | .readyFw => Sys2Proof.Machine.execReadyFw s
  | .mainGood => Sys2Proof.Machine.execMainGood s
  | .inputFail => Sys2Proof.Machine.execInputFail s
  | .removal => Sys2Proof.Machine.execRemoval s
  | .perstOn pins => Sys2Proof.Machine.execPerstOn pins s
  | .perstOff pins => Sys2Proof.Machine.execPerstOff pins s
  | .hostAbsent => Sys2Proof.Machine.execHostAbsent s
  | .modeReqOff src => Sys2Proof.Machine.execModeReqOff src s
  | .modeReqOn src => Sys2Proof.Machine.execModeReqOn src s
  | .modeReqMaintEnter src => Sys2Proof.Machine.execModeReqMaintEnter src s
  | .modeReqMaintExit src => Sys2Proof.Machine.execModeReqMaintExit src s
  | .modeReqRecov src => Sys2Proof.Machine.execModeReqRecov src s
  | .modeReqResetFull src => Sys2Proof.Machine.execModeReqResetFull src s
  | .coreLockWrite src => Sys2Proof.Machine.execCoreLockWrite src s
  | .readyMailbox => Sys2Proof.Machine.execReadyMailbox s
  | .memWr addr data poison damaged tag => Sys2Proof.Machine.execMemWr addr data poison damaged tag s
  | .memWrPtl addr data be poison damaged tag => Sys2Proof.Machine.execMemWrPtl addr data be poison damaged tag s
  | .memRd addr damaged tag => Sys2Proof.Machine.execMemRd addr damaged tag s
  | .memRdData addr damaged tag => Sys2Proof.Machine.execMemRdData addr damaged tag s
  | .memSpecRd addr taken tag => Sys2Proof.Machine.execMemSpecRd addr taken tag s
  | .memInv addr tag => Sys2Proof.Machine.execMemInv addr tag s
  | .memInvNt addr tag => Sys2Proof.Machine.execMemInvNt addr tag s
  | .budgetRecompute => Sys2Proof.Machine.execBudgetRecompute s
  | .thruFerryCapture g damaged => Sys2Proof.Machine.execThruFerryCapture g damaged s
  | .gpfPhase2 => Sys2Proof.Machine.execGpfPhase2 s
  | .gpfPartial => Sys2Proof.Machine.execGpfPartial s
  | .wearCredit => Sys2Proof.Machine.execWearCredit s
  | .checkpointInterval => Sys2Proof.Machine.execCheckpointInterval s
  | .mapGranulesLoaded failed recon damaged => Sys2Proof.Machine.execMapGranulesLoaded failed s recon damaged
  | .mapRollfwdEnd => Sys2Proof.Machine.execMapRollfwdEnd s
  | .mapRebuildEnd => Sys2Proof.Machine.execMapRebuildEnd s
  | .mapNormalisationEnd => Sys2Proof.Machine.execMapNormalisationEnd s
  | .gmapLookup src val => Sys2Proof.Machine.execGmapLookup src val s
  | .gmapLookupDone damaged => Sys2Proof.Machine.execGmapLookupDone s damaged
  | .gmapCacheFlush src => Sys2Proof.Machine.execGmapCacheFlush src s
  | .gmapCacheFlushDone => Sys2Proof.Machine.execGmapCacheFlushDone s
  | .sweepPassStart => Sys2Proof.Machine.execSweepPassStart s
  | .sweepPassEnd damaged => Sys2Proof.Machine.execSweepPassEnd s damaged
  | .ferryCapture damaged => Sys2Proof.Machine.execFerryCapture damaged s
  | .ferryReissue damaged => Sys2Proof.Machine.execFerryReissue s damaged
  | .ferryParkExpiry g => Sys2Proof.Machine.execFerryParkExpiry g s
  | .ferryDrainOnce src => Sys2Proof.Machine.execFerryDrainOnce src s
  | .foldCapture damaged => Sys2Proof.Machine.execFoldCapture damaged s
  | .relocationCapture damaged => Sys2Proof.Machine.execRelocationCapture damaged s
  | .hostQuiesced => Sys2Proof.Machine.execHostQuiesced s
  | .crossingMapFlushed => Sys2Proof.Machine.execCrossingMapFlushed s
  | .carryCapture damaged => Sys2Proof.Machine.execCarryCapture damaged s
  | .restoreTake damaged => Sys2Proof.Machine.execRestoreTake damaged s
  | .restoreZeroFillDone g => Sys2Proof.Machine.execRestoreZeroFillDone g s
  | .restorePrioWrite src limit val => Sys2Proof.Machine.execRestorePrioWrite src limit val s
  | .sessionOpenWritten => Sys2Proof.Machine.execSessionOpenWritten s
  | .linkL0 mode => Sys2Proof.Machine.execLinkL0 mode s
  | .linkDown => Sys2Proof.Machine.execLinkDown s
  | .flr ld => Sys2Proof.Machine.execFlr ld s
  | .cxlReset ld => Sys2Proof.Machine.execCxlReset ld s
  | .setLdAllocations sizes => Sys2Proof.Machine.execSetLdAllocations sizes s
  | .bar2BadAccess off write => Sys2Proof.Machine.execBar2BadAccess off write s
  | .registerWrite src off val => Sys2Proof.Machine.execRegisterWrite src off val s
  | .identify ld => Sys2Proof.Machine.execIdentify ld s
  | .backgroundOperationStatus ld => Sys2Proof.Machine.execBackgroundOperationStatus ld s
  | .getResponseMessageLimit ld => Sys2Proof.Machine.execGetResponseMessageLimit ld s
  | .getSupportedLogs ld => Sys2Proof.Machine.execGetSupportedLogs ld s
  | .getLog ld uuid off len => Sys2Proof.Machine.execGetLog ld uuid off len s
  | .getEventRecords ld log => Sys2Proof.Machine.execGetEventRecords ld log s
  | .clearEventRecords ld log all handles => Sys2Proof.Machine.execClearEventRecords ld log all handles s
  | .getEventInterruptPolicy ld => Sys2Proof.Machine.execGetEventInterruptPolicy ld s
  | .setEventInterruptPolicy ld val => Sys2Proof.Machine.execSetEventInterruptPolicy ld val s
  | .getFwInfo ld => Sys2Proof.Machine.execGetFwInfo ld s
  | .getTimestamp ld => Sys2Proof.Machine.execGetTimestamp ld s
  | .setTimestamp ld t => Sys2Proof.Machine.execSetTimestamp ld t s
  | .identifyMemoryDevice ld => Sys2Proof.Machine.execIdentifyMemoryDevice ld s
  | .getPartitionInfo ld => Sys2Proof.Machine.execGetPartitionInfo ld s
  | .getLsa ld off len => Sys2Proof.Machine.execGetLsa ld off len s
  | .setLsa ld off data => Sys2Proof.Machine.execSetLsa ld off data s
  | .getHealthInfo ld temp => Sys2Proof.Machine.execGetHealthInfo ld temp s
  | .getAlertConfig ld => Sys2Proof.Machine.execGetAlertConfig ld s
  | .setAlertConfig ld valid enable life hi lo vol pers => Sys2Proof.Machine.execSetAlertConfig ld valid enable life hi lo vol pers s
  | .getShutdownState ld => Sys2Proof.Machine.execGetShutdownState ld s
  | .setShutdownState ld dirty => Sys2Proof.Machine.execSetShutdownState ld dirty s
  | .getPoisonList ld dpa len => Sys2Proof.Machine.execGetPoisonList ld dpa len s
  | .injectPoison ld dpa damaged => Sys2Proof.Machine.execInjectPoison ld dpa damaged s
  | .clearPoison ld dpa data damaged => Sys2Proof.Machine.execClearPoison ld dpa data damaged s
  | .unsupportedCommand ld opcode => Sys2Proof.Machine.execUnsupportedCommand ld opcode s
  | .kxPowerOff p input => Sys2Proof.Machine.execKxPowerOff p input s
  | .kxPowerOn p input => Sys2Proof.Machine.execKxPowerOn p input s
  | .kxModeMaintEnter p rest => Sys2Proof.Machine.execKxModeMaintEnter p rest s
  | .kxModeMaintExit p rest => Sys2Proof.Machine.execKxModeMaintExit p rest s
  | .kxModeRecovReq p rest => Sys2Proof.Machine.execKxModeRecovReq p rest s
  | .kxResetFw p rest => Sys2Proof.Machine.execKxResetFw p rest s
  | .kxResetFull p rest => Sys2Proof.Machine.execKxResetFull p rest s
  | .kxGetStatus p input => Sys2Proof.Machine.execKxGetStatus p input s
  | .kxLogRead p input => Sys2Proof.Machine.execKxLogRead p input s
  | .kxBattStateGet p input => Sys2Proof.Machine.execKxBattStateGet p input s
  | .kxBattStatePut p input => Sys2Proof.Machine.execKxBattStatePut p input s
  | .kxUpdOpen p input => Sys2Proof.Machine.execKxUpdOpen p input s
  | .kxUpdPiece p input => Sys2Proof.Machine.execKxUpdPiece p input s
  | .kxUpdBitmap p input => Sys2Proof.Machine.execKxUpdBitmap p input s
  | .kxUpdCommit p input => Sys2Proof.Machine.execKxUpdCommit p input s
  | .kxUpdAbandon p input => Sys2Proof.Machine.execKxUpdAbandon p input s
  | .kxMargin p input => Sys2Proof.Machine.execKxMargin p input s
  | .kxDramRetrain p input => Sys2Proof.Machine.execKxDramRetrain p input s
  | .kxSalvageOpen p input => Sys2Proof.Machine.execKxSalvageOpen p input s
  | .kxSalvagePiece p input => Sys2Proof.Machine.execKxSalvagePiece p input s
  | .kxSalvageCommit p input => Sys2Proof.Machine.execKxSalvageCommit p input s
  | .tideWindow counts => Sys2Proof.Machine.execTideWindow counts s
  | .avsStep => Sys2Proof.Machine.execAvsStep s
  | .fabStall port phase => Sys2Proof.Machine.execFabStall port phase s
  | .tideExtremesClear src => Sys2Proof.Machine.execTideExtremesClear src s
  | .dramCommandIssue q => Sys2Proof.Machine.execDramCommandIssue q s
  | .dramReadCapture addr who e0 e1 e2 => Sys2Proof.Machine.execDramReadCapture addr who e0 e1 e2 s
  | .cleanRefetchDone g => Sys2Proof.Machine.execCleanRefetchDone g s
  | .refreshDue => Sys2Proof.Machine.execRefreshDue s
  | .dramTempPoll rates => Sys2Proof.Machine.execDramTempPoll rates s
  | .rowIdleClose q => Sys2Proof.Machine.execRowIdleClose q s
  | .powerDownEntry sub rank => Sys2Proof.Machine.execPowerDownEntry sub rank s
  | .caParityAlert sub => Sys2Proof.Machine.execCaParityAlert sub s
  | .alertRelease sub => Sys2Proof.Machine.execAlertRelease sub s
  | .replayEnd sub => Sys2Proof.Machine.execReplayEnd sub s
  | .caRetrainEnd sub found => Sys2Proof.Machine.execCaRetrainEnd sub s found
  | .dramInitDone sub => Sys2Proof.Machine.execDramInitDone sub s
  | .dctlTrnGo src val => Sys2Proof.Machine.execDctlTrnGo src val s
  | .gatherEnd passes => Sys2Proof.Machine.execGatherEnd passes s
  | .dctlTrnApply src val => Sys2Proof.Machine.execDctlTrnApply src val s
  | .dctlTrnDiscard src val => Sys2Proof.Machine.execDctlTrnDiscard src val s
  | .trnResultsTimeout => Sys2Proof.Machine.execTrnResultsTimeout s
  | .periodicPause sub counts passes => Sys2Proof.Machine.execPeriodicPause sub counts s passes
  | .periodicPauseEnd sub => Sys2Proof.Machine.execPeriodicPauseEnd sub s
  | .freqChangeRequest src val => Sys2Proof.Machine.execFreqChangeRequest src val s
  | .freqChangeStart => Sys2Proof.Machine.execFreqChangeStart s
  | .freqEnterDone => Sys2Proof.Machine.execFreqEnterDone s
  | .pllLock => Sys2Proof.Machine.execPllLock s
  | .selfRefreshEntry sub => Sys2Proof.Machine.execSelfRefreshEntry sub s
  | .readyNand => Sys2Proof.Machine.execReadyNand s
  | .nandDieCheckEnd ch d id phy bad => Sys2Proof.Machine.execNandDieCheckEnd ch d id phy s bad
  | .nandOpIssue ch d => Sys2Proof.Machine.execNandOpIssue ch d s
  | .nandOpComplete ch d st => Sys2Proof.Machine.execNandOpComplete ch d st s
  | .nandOpTimeout ch d => Sys2Proof.Machine.execNandOpTimeout ch d s
  | .nandSuspend ch d => Sys2Proof.Machine.execNandSuspend ch d s
  | .groupCloseTimeout damaged => Sys2Proof.Machine.execGroupCloseTimeout s damaged
  | .chtrDiscoveryDone supported xspi density jedec page512 => Sys2Proof.Machine.execChtrDiscoveryDone supported xspi density jedec page512 s
  | .chtrRefclkStable => Sys2Proof.Machine.execChtrRefclkStable s
  | .chtrRefclkLost => Sys2Proof.Machine.execChtrRefclkLost s
  | .chtrRead src tag lenM1 addr buf => Sys2Proof.Machine.execChtrRead src tag lenM1 addr buf s
  | .chtrProgram src tag lenM1 addr buf ram => Sys2Proof.Machine.execChtrProgram src tag lenM1 addr buf ram s
  | .chtrErase4k src tag addr => Sys2Proof.Machine.execChtrErase4k src tag addr s
  | .chtrErase64k src tag addr => Sys2Proof.Machine.execChtrErase64k src tag addr s
  | .chtrReadSfdp src tag lenM1 addr buf => Sys2Proof.Machine.execChtrReadSfdp src tag lenM1 addr buf s
  | .chtrOpComplete bad => Sys2Proof.Machine.execChtrOpComplete bad s
  | .chtrOpTimeout => Sys2Proof.Machine.execChtrOpTimeout s
  | .chtrCmplAck src => Sys2Proof.Machine.execChtrCmplAck src s
  | .chtrPrRead src => Sys2Proof.Machine.execChtrPrRead src s
  | .chtrPrWrite src => Sys2Proof.Machine.execChtrPrWrite src s
  | .pwSet src region => Sys2Proof.Machine.execPwSet src region s
  | .pwUnlock src region => Sys2Proof.Machine.execPwUnlock src region s
  | .pwLock src region => Sys2Proof.Machine.execPwLock src region s
  | .pwClear src region => Sys2Proof.Machine.execPwClear src region s
  | .pwEraseRegion src region => Sys2Proof.Machine.execPwEraseRegion src region s
  | .pwLockoutExpiry region => Sys2Proof.Machine.execPwLockoutExpiry region s
  | .romRead addr buf len pc => Sys2Proof.Machine.execRomRead addr buf len pc s
  | .romProgram addr buf ram pc => Sys2Proof.Machine.execRomProgram addr buf ram pc s
  | .romErase addr big pc => Sys2Proof.Machine.execRomErase addr big pc s
  | .romCrc32c ram init => Sys2Proof.Machine.execRomCrc32c ram init s
  | .romSfdp off buf len pc => Sys2Proof.Machine.execRomSfdp off buf len pc s
  | .cipherMessageStart => Sys2Proof.Machine.execCipherMessageStart s
  | .cipherMessageDone lane res => Sys2Proof.Machine.execCipherMessageDone lane res s
  | .ciphAdvance src => Sys2Proof.Machine.execCiphAdvance src s
  | .epochReservationCommit done => Sys2Proof.Machine.execEpochReservationCommit done s
  | .epochReserveRetry => Sys2Proof.Machine.execEpochReserveRetry s
  | .chkInit src n val => Sys2Proof.Machine.execChkInit src n val s
  | .chkValueWrite src n val => Sys2Proof.Machine.execChkValueWrite src n val s
  | .chkFeed8 src n val => Sys2Proof.Machine.execChkFeed8 src n val s
  | .chkFeed16 src n val => Sys2Proof.Machine.execChkFeed16 src n val s
  | .chkFeed32 src n val => Sys2Proof.Machine.execChkFeed32 src n val s
  | .chkExpect src n val => Sys2Proof.Machine.execChkExpect src n val s
  | .railSample pins sns tele => Sys2Proof.Machine.execRailSample pins sns tele s
  | .pmStatusPoll stat => Sys2Proof.Machine.execPmStatusPoll stat s
  | .timetableWaitExpiry => Sys2Proof.Machine.execTimetableWaitExpiry s
  | .timetableCheckTimeout => Sys2Proof.Machine.execTimetableCheckTimeout s
  | .rampTimeout rail => Sys2Proof.Machine.execRampTimeout rail s
  | .dischargeTimeout rail => Sys2Proof.Machine.execDischargeTimeout rail s
  | .seqMarginWrite src val => Sys2Proof.Machine.execSeqMarginWrite src val s
  | .bellTx src val => Sys2Proof.Machine.execBellTx src val s
  | .bellFrame k parityOk => Sys2Proof.Machine.execBellFrame k parityOk s
  | .bellBarrierRelease => Sys2Proof.Machine.execBellBarrierRelease s
  | .bellBarrierTimeout => Sys2Proof.Machine.execBellBarrierTimeout s
  | .bellLineFail => Sys2Proof.Machine.execBellLineFail s
  | .bellLineRecover => Sys2Proof.Machine.execBellLineRecover s
  | .battSample cur volt temp idMv => Sys2Proof.Machine.execBattSample cur volt temp idMv s
  | .packPresenceHeld => Sys2Proof.Machine.execPackPresenceHeld s
  | .settlingTimeout => Sys2Proof.Machine.execSettlingTimeout s
  | .faultRecovered => Sys2Proof.Machine.execFaultRecovered s
  | .elbRecompute => Sys2Proof.Machine.execElbRecompute s
  | .chargerRetry => Sys2Proof.Machine.execChargerRetry s
  | .chargeTaper => Sys2Proof.Machine.execChargeTaper s
  | .dischargeTaper => Sys2Proof.Machine.execDischargeTaper s
  | .restCalibration => Sys2Proof.Machine.execRestCalibration s
  | .battRecal src val => Sys2Proof.Machine.execBattRecal src val s
  | .winAddr sv count data pec => Sys2Proof.Machine.execWinAddr sv count data pec s
  | .winDataRead sv wantPec => Sys2Proof.Machine.execWinDataRead sv wantPec s
  | .winDataWrite sv count data pec => Sys2Proof.Machine.execWinDataWrite sv count data pec s
  | .winNext sv wantPec => Sys2Proof.Machine.execWinNext sv wantPec s
  | .status sv wantPec => Sys2Proof.Machine.execStatus sv wantPec s
  | .info sv wantPec => Sys2Proof.Machine.execInfo sv wantPec s
  | .bufPtr sv count data pec => Sys2Proof.Machine.execBufPtr sv count data pec s
  | .bufDataWrite sv count data pec => Sys2Proof.Machine.execBufDataWrite sv count data pec s
  | .bufDataRead sv wantPec => Sys2Proof.Machine.execBufDataRead sv wantPec s
  | .exec sv count data pec => Sys2Proof.Machine.execExec sv count data pec s
  | .result sv wantPec => Sys2Proof.Machine.execResult sv wantPec s
  | .twbXfer src val => Sys2Proof.Machine.execTwbXfer src val s
  | .twbTransferDone e data => Sys2Proof.Machine.execTwbTransferDone e data s
  | .stretchTimeout sda => Sys2Proof.Machine.execStretchTimeout sda s
  | .pmRetry => Sys2Proof.Machine.execPmRetry s
  | .targetStretchLimit sv => Sys2Proof.Machine.execTargetStretchLimit sv s
  | .repeatedStartAbort p => Sys2Proof.Machine.execRepeatedStartAbort p s
  | .targetSclTimeout p => Sys2Proof.Machine.execTargetSclTimeout p s
  | .busFailedRecover p => Sys2Proof.Machine.execBusFailedRecover p s
  | .yardEnLow => Sys2Proof.Machine.execYardEnLow s
  | .hostNotify e => Sys2Proof.Machine.execHostNotify e s
  | .hostNotifyRetry e => Sys2Proof.Machine.execHostNotifyRetry e s
  | .watchdogKick src => Sys2Proof.Machine.execWatchdogKick src s
  | .watchdogForceExpire src => Sys2Proof.Machine.execWatchdogForceExpire src s
  | .watchdogExpiry => Sys2Proof.Machine.execWatchdogExpiry s
  | .lockstepMismatch => Sys2Proof.Machine.execLockstepMismatch s
  | .fwAccessFault kind addr pc aligned32 => Sys2Proof.Machine.execFwAccessFault kind addr pc aligned32 s
  | .fwNandRead src val => Sys2Proof.Machine.execFwNandRead src val s
  | .fwNandProgram src val => Sys2Proof.Machine.execFwNandProgram src val s
  | .fwNandErase src val => Sys2Proof.Machine.execFwNandErase src val s
  | .logScanDone => Sys2Proof.Machine.execLogScanDone s
  | .logAppend => Sys2Proof.Machine.execLogAppend s
  | .logProgramDone fail => Sys2Proof.Machine.execLogProgramDone fail s
  | .logTimedFlush => Sys2Proof.Machine.execLogTimedFlush s
  | .logTimeMark => Sys2Proof.Machine.execLogTimeMark s
  | .updPieceWritten bad => Sys2Proof.Machine.execUpdPieceWritten bad s
  | .updIdleExpiry => Sys2Proof.Machine.execUpdIdleExpiry s
  | .trialExpiry => Sys2Proof.Machine.execTrialExpiry s
  | .updCtlRollback src => Sys2Proof.Machine.execUpdCtlRollback src s
  | .updCtlConfirm src => Sys2Proof.Machine.execUpdCtlConfirm src s
  | .pairLoRead src off => Sys2Proof.Machine.execPairLoRead src off s
  | .partReady => Sys2Proof.Machine.execPartReady s
  | .gpfPhase1 => Sys2Proof.Machine.execGpfPhase1 s
  | .doeCdatRequest ld => Sys2Proof.Machine.execDoeCdatRequest ld s
  | .msixUnmask ld v => Sys2Proof.Machine.execMsixUnmask ld v s
  | .hdmDecoderCommit ld n commit base size ways gran skip => Sys2Proof.Machine.execHdmDecoderCommit ld n commit base size ways gran skip s
  | .powerPartHostNotify addr data => Sys2Proof.Machine.execPowerPartHostNotify addr data s
  | .sidebandUnknownCode sv code => Sys2Proof.Machine.execSidebandUnknownCode sv code s
  | .addressNotOwn p => Sys2Proof.Machine.execAddressNotOwn p s
  | .fwFaultWindowExpiry => Sys2Proof.Machine.execFwFaultWindowExpiry s
  | .restartWindowExpiry rail => Sys2Proof.Machine.execRestartWindowExpiry rail s

end Sys2Proof.Machine
end

