-- ==== Sys2Proof/Machine/Step.lean ====
section
/-!
DEFINITION. One step of the machine: the command at the front of the queue, or a tick of the timekeeping island.
-/
namespace Sys2Proof.Machine

/-- Take the command at the front of the queue and answer its outcome on the state with the queue's rest. On an empty queue
one tick of the timekeeping island passes (R2) and nothing else happens: whatever comes due at a tick is a command of its
own. DESIGN CHOICE: assumption 1. -/
def step (s : State) : Host.Outcome State Fault Refusal :=
  match s.pending with
  | [] => .next { s with dev := { s.dev with ticks := s.dev.ticks + 1 } }
  | c :: rest => exec c { s with pending := rest }

/-- The state with the command that a word spells at the front of its queue. No row of the table gives bits, so no word
spells a command and the state is unchanged. -/
def State.withFetchWord (s : State) (_nbits _w : Nat) : State := s

end Sys2Proof.Machine
end

