-- ==== Sys2Proof/WellFormed.lean ====
section
/-!
DEFINITION. Well-formed commands: the operands that lists carry have the lengths that the spec's buses, ports and tables allow.
-/
namespace Sys2Proof

/-- The payload of a KX_ command fits the mailbox and the command buffers (R168, R387). -/
def payloadOk (b : Bytes) : Bool := decide (b.length ≤ 65536)

/-- A sideband message has at most 255 data bytes, the largest count of an SMBus block (R373, R385). -/
def blockOk (b : Bytes) : Bool := decide (b.length ≤ 255)

/-- A burst has 16 beats (R212, R213): at most that many carry errors. -/
def burstOk (e : List (BitVec 40)) : Bool := decide (e.length ≤ 16)

/-- A command that the world outside can send as it stands. -/
def Instr.wf : Instr → Bool
  | .setLdAllocations sizes => decide (sizes.length ≤ 16)
  | .hdmDecoderCommit _ _ _ _ size _ _ skip => decide (size ≤ 2 ^ 52) && decide (skip ≤ 2 ^ 52)
  | .setLsa _ _ data => payloadOk data
  | .clearEventRecords _ _ _ handles => decide (handles.length ≤ 255)
  | .kxPowerOff _ b => payloadOk b
  | .kxPowerOn _ b => payloadOk b
  | .kxModeMaintEnter _ b => payloadOk (3 :: b)
  | .kxModeMaintExit _ b => payloadOk (4 :: b)
  | .kxModeRecovReq _ b => payloadOk (5 :: b)
  | .kxResetFw _ b => payloadOk (1 :: b)
  | .kxResetFull _ b => payloadOk (2 :: b)
  | .kxGetStatus _ b => payloadOk b
  | .kxLogRead _ b => payloadOk b
  | .kxBattStateGet _ b => payloadOk b
  | .kxBattStatePut _ b => payloadOk b
  | .kxUpdOpen _ b => payloadOk b
  | .kxUpdPiece _ b => payloadOk b
  | .kxUpdBitmap _ b => payloadOk b
  | .kxUpdCommit _ b => payloadOk b
  | .kxUpdAbandon _ b => payloadOk b
  | .kxMargin _ b => payloadOk b
  | .kxDramRetrain _ b => payloadOk b
  | .kxSalvageOpen _ b => payloadOk b
  | .kxSalvagePiece _ b => payloadOk b
  | .kxSalvageCommit _ b => payloadOk b
  | .tideWindow counts => decide (counts.length = 5)
  | .dramReadCapture _ _ e0 e1 e2 => burstOk e0 && burstOk e1 && burstOk e2
  | .dramTempPoll rates => decide (rates.length = 16)
  | .caRetrainEnd _ found => decide ((found.map (fun f => f.1)).Nodup) && found.all (fun f => decide (f.2.1.val ≤ f.2.2.val))
  | .gatherEnd passes => decide (passes.length ≤ 320)
  | .periodicPause _ counts passes => decide ((counts.map (fun f => f.1)).Nodup) && decide ((passes.map (fun f => f.1)).Nodup)
  | .nandOpComplete _ _ st => (match st with | .okRetry l _ => decide (1 ≤ l) && decide (l ≤ 15) | _ => true)
  | .romProgram _ _ ram _ => decide (ram.length ≤ 2 ^ 18)
  | .romCrc32c ram _ => decide (ram.length ≤ 2 ^ 18)
  | .chtrProgram _ _ _ _ _ ram => decide (ram.length ≤ 65536)
  | .railSample _ sns tele => decide (sns.length = 24) && decide (tele.length = 24)
  | .pmStatusPoll stat => decide (stat.length = 24)
  | .winAddr _ _ data _ => blockOk data
  | .winDataWrite _ _ data _ => blockOk data
  | .bufPtr _ _ data _ => blockOk data
  | .bufDataWrite _ _ data _ => blockOk data
  | .exec _ _ data _ => blockOk data
  | .twbTransferDone _ data => decide (data.length ≤ 32)
  | .auxOn .. | .auxOff .. | .readyAon .. | .readyCharter .. | .charterMigrated .. | .charterMigrateFail .. | .readyFw ..
  | .mainGood .. | .inputFail .. | .removal .. | .perstOn .. | .perstOff .. | .hostAbsent .. | .modeReqOff .. | .modeReqOn ..
  | .modeReqMaintEnter .. | .modeReqMaintExit .. | .modeReqRecov .. | .modeReqResetFull .. | .coreLockWrite ..
  | .readyMailbox .. | .memWr .. | .memWrPtl .. | .memRd .. | .memRdData .. | .memSpecRd .. | .memInv .. | .memInvNt ..
  | .budgetRecompute .. | .thruFerryCapture .. | .gpfPhase2 .. | .gpfPartial .. | .wearCredit .. | .checkpointInterval ..
  | .mapGranulesLoaded .. | .mapRollfwdEnd .. | .mapRebuildEnd .. | .mapNormalisationEnd .. | .gmapLookup ..
  | .gmapLookupDone .. | .gmapCacheFlush .. | .gmapCacheFlushDone .. | .sweepPassStart .. | .sweepPassEnd ..
  | .ferryCapture .. | .ferryReissue .. | .ferryParkExpiry .. | .ferryDrainOnce .. | .foldCapture .. | .relocationCapture ..
  | .hostQuiesced .. | .crossingMapFlushed .. | .carryCapture .. | .restoreTake .. | .restoreZeroFillDone ..
  | .restorePrioWrite .. | .sessionOpenWritten .. | .linkL0 .. | .linkDown .. | .flr .. | .cxlReset .. | .bar2BadAccess ..
  | .registerWrite .. | .identify .. | .backgroundOperationStatus .. | .getResponseMessageLimit .. | .getSupportedLogs ..
  | .getLog .. | .getEventRecords .. | .getEventInterruptPolicy .. | .setEventInterruptPolicy .. | .getFwInfo ..
  | .getTimestamp .. | .setTimestamp .. | .identifyMemoryDevice .. | .getPartitionInfo .. | .getLsa .. | .getHealthInfo ..
  | .getAlertConfig .. | .setAlertConfig .. | .getShutdownState .. | .setShutdownState .. | .getPoisonList ..
  | .injectPoison .. | .clearPoison .. | .unsupportedCommand .. | .avsStep .. | .fabStall .. | .tideExtremesClear ..
  | .dramCommandIssue .. | .cleanRefetchDone .. | .refreshDue .. | .rowIdleClose .. | .powerDownEntry .. | .caParityAlert ..
  | .alertRelease .. | .replayEnd .. | .dramInitDone .. | .dctlTrnGo .. | .dctlTrnApply ..
  | .dctlTrnDiscard .. | .trnResultsTimeout .. | .periodicPauseEnd .. | .freqChangeRequest .. | .freqChangeStart ..
  | .freqEnterDone .. | .pllLock .. | .selfRefreshEntry .. | .readyNand .. | .nandDieCheckEnd .. | .nandOpIssue ..
  | .nandOpTimeout .. | .nandSuspend .. | .groupCloseTimeout .. | .chtrDiscoveryDone ..
  | .chtrRefclkStable .. | .chtrRefclkLost .. | .chtrRead .. | .chtrErase4k .. | .chtrErase64k .. | .chtrReadSfdp ..
  | .chtrOpComplete .. | .chtrOpTimeout .. | .chtrCmplAck .. | .chtrPrRead .. | .chtrPrWrite .. | .pwSet .. | .pwUnlock ..
  | .pwLock .. | .pwClear .. | .pwEraseRegion .. | .pwLockoutExpiry .. | .romRead .. | .romErase .. | .romSfdp ..
  | .cipherMessageStart .. | .cipherMessageDone .. | .ciphAdvance .. | .epochReservationCommit .. | .epochReserveRetry ..
  | .chkInit .. | .chkValueWrite .. | .chkFeed8 .. | .chkFeed16 .. | .chkFeed32 .. | .chkExpect .. | .timetableWaitExpiry ..
  | .timetableCheckTimeout .. | .rampTimeout .. | .dischargeTimeout .. | .seqMarginWrite .. | .bellTx .. | .bellFrame ..
  | .bellBarrierRelease .. | .bellBarrierTimeout .. | .bellLineFail .. | .bellLineRecover .. | .battSample ..
  | .packPresenceHeld .. | .settlingTimeout .. | .faultRecovered .. | .elbRecompute .. | .chargerRetry .. | .chargeTaper ..
  | .dischargeTaper .. | .restCalibration .. | .battRecal .. | .winDataRead .. | .winNext .. | .status .. | .info ..
  | .bufDataRead .. | .result .. | .twbXfer .. | .stretchTimeout .. | .pmRetry .. | .targetStretchLimit ..
  | .repeatedStartAbort .. | .targetSclTimeout .. | .busFailedRecover .. | .yardEnLow .. | .hostNotify ..
  | .hostNotifyRetry .. | .watchdogKick .. | .watchdogForceExpire .. | .watchdogExpiry .. | .lockstepMismatch ..
  | .fwAccessFault .. | .fwNandRead .. | .fwNandProgram .. | .fwNandErase .. | .logScanDone .. | .logAppend ..
  | .logProgramDone .. | .logTimedFlush .. | .logTimeMark .. | .updPieceWritten .. | .updIdleExpiry .. | .trialExpiry ..
  | .updCtlRollback .. | .updCtlConfirm .. | .pairLoRead .. | .partReady .. | .gpfPhase1 .. | .doeCdatRequest ..
  | .msixUnmask .. | .powerPartHostNotify .. | .sidebandUnknownCode .. | .addressNotOwn .. | .fwFaultWindowExpiry ..
  | .restartWindowExpiry .. => true

end Sys2Proof
end

