-- ==== Sys2Proof/Safety.lean ====
section
/-!
DEFINITION. What counts as a safe state, and the terms that statements use: the state with another device, and a register
that a source may write now.
-/
namespace Sys2Proof.Machine

/-- Every waiting command is well-formed. -/
def State.QueueWf (s : State) : Prop := ∀ c ∈ s.pending, c.wf = true

/-- The state with the device replaced; the queue stays. -/
def State.put (s : State) (d : Dev) : State := { s with dev := d }

/-- The always-on domain runs, the register's block is powered and not held in reset, and the authority table allows the
source: a write of the register is neither ignored nor refused (R167, R394, R405, R468). -/
def Dev.accepts (s : Dev) (src : Src) (off : Nat) : Bool :=
  s.aonUp && s.regLive off &&
    (match src with
     | .port p => s.portMay (rowOf off) p
     | .firmware _ => s.coresRun && decide (off / 0x10000 ≠ 6) && s.fwMay (rowOf off))

/-- The device that serves a KX_ command: on a sideband port its buffer holds the input and its EXEC runs (R387). -/
def Dev.kxBefore (s : Dev) (p : Port) (opcode : Nat) (input : Bytes) : Dev :=
  match p with
  | .host _ => s
  | _ => (s.modTwb (portTwb p) (fun t => { t with buf := putBuf t.buf 0 input })).execStart p opcode

/-- The port takes commands: the LD's mailbox is served, or the sideband port answers and no EXEC runs on it (R168, R387). -/
def Dev.kxArrives (s : Dev) (p : Port) : Bool :=
  match p with
  | .host ld => s.rdy Rdy.MAILBOX && s.hasLd ld
  | _ => decide ((s.port (portTwb p)).st = 1) && decide ((s.port (portTwb p)).execSt ≠ 1)

/-- The firmware that serves the command on a sideband port runs (R397 check 4). -/
def Dev.kxServed (s : Dev) (p : Port) (opcode : Nat) : Bool :=
  match p with
  | .host _ => true
  | _ => !s.kxFirmware opcode || s.rdy Rdy.FW

/-- A KX_ command arrives and passes checks 1 to 4 of R397. -/
def Dev.kxAccepts (s : Dev) (p : Port) (opcode : Nat) (input : Bytes) : Bool :=
  s.kxArrives p && (kxRow opcode input).any (fun row => (s.kxBefore p opcode input).portMay row p) && !kxWrongLd p opcode &&
    kxLenOk opcode input && (s.kxBefore p opcode input).kxModeOk opcode && (s.kxBefore p opcode input).kxServed p opcode

/-- The length of a charter-store operation: an erase's is that of its unit (Table 12-10). -/
def chLen (op len : Nat) : Nat := if op = 4 then 4096 else if op = 5 then 65536 else len

/-- Where a charter-store operation's data lie; an erase has none. -/
def chBuf (src : Src) (op buf n : Nat) : Option (Option Nat) := if op = 4 || op = 5 then some none else bufOf src buf n

/-- The charter store takes a descriptor: its operation, alignment and region are good, the store is READY and serves the source,
and the source's share of the queue has room (R281, R285, R297, R303). -/
def Dev.chTakes (s : Dev) (src : Src) (op addr len : Nat) : Bool :=
  [1, 2, 4, 5, 6].contains op && !(decide (op = 2) && decide (s.norPage < addr % s.norPage + chLen op len)) &&
    !((decide (op = 4) || decide (op = 5)) && decide (addr % chLen op len ≠ 0)) &&
    (if op = 2 || op = 4 || op = 5 then s.storeRefusal (chReq src) addr (chLen op len) = none
      else decide (op ≠ 1) || decide (addr + chLen op len ≤ s.norSize)) &&
    decide (s.chtr.st = 2) && s.chServed src && decide (s.chOutstanding (chReq src) < 8) && decide (s.chtr.queue.length < 32)

/-- The descriptor that the charter store queues. -/
def Dev.chDescOf (s : Dev) (src : Src) (op addr len : Nat) (what : ChFor) (b : Option Nat) : ChDesc :=
  { op := op, addr := addr, len := chLen op len, data := if op = 2 then s.chData (chIdx src) b (chLen op len) else [],
    req := chReq src, what := what, buf := b }

/-- A Block Write that a sideband port acts on: the port answers, the count and the data agree, and the PEC is right, or absent where
none is required (R383, R385). -/
def Dev.sbGood (s : Dev) (sv : Bool) (code : Nat) (count : Byte) (data : Bytes) (pec : Option Byte) : Bool :=
  decide ((s.port (sbPort sv)).st = 1) && decide (data.length = count.toNat) &&
    (match pec with
     | some x => decide (x = BitVec.ofNat 8 (crc8 ([BitVec.ofNat 8 (2 * (s.port (sbPort sv)).addr), BitVec.ofNat 8 code, count] ++ data)))
     | none => !(s.port (sbPort sv)).pecReq)

end Sys2Proof.Machine
end

