-- ==== Sys2Proof/Certificates/Slice0/Obligations.lean ====
section
/-!
DEFINITION. The statements for the provers: what the commands do, family by family, and what holds of every step.
-/
open Sys2Proof Sys2Proof.Machine

/-- A step takes the command at the front of the queue and answers what exec answers on the state with the queue's rest; with no
command waiting it only counts a tick (the model's choice, log entry 1). -/
def Obligations.step_runs_the_front_command : Prop :=
  (∀ (c : Instr) (rest : List Instr) (s : State), s.pending = c :: rest → step s = exec c { s with pending := rest }) ∧
  (∀ s : State, s.pending = [] → step s = .next (s.put { s.dev with ticks := s.dev.ticks + 1 }))

/-- Every command answers a next state, whatever the state and the operands, and leaves the waiting commands as they are: no step of
the machine stops.
Log entries 2 and 6 say what is the model's choice. -/
def Obligations.every_command_completes_and_keeps_the_queue : Prop :=
  (∀ (c : Instr) (s : State), ∃ d : Dev, exec c s = .next (s.put d)) ∧
  (∀ s : State, ∃ t : State, step s = .next t ∧ t.pending = s.pending.drop 1)

/-- Every waiting command stays well-formed: a step from a state whose queue is well-formed gives one. -/
def Obligations.the_queue_stays_well_formed : Prop :=
  ∀ s t : State, s.QueueWf → step s = .next t → t.QueueWf

/-- After reset the device is UNPOWERED with no bit of CORE_READY set, the link down, DCTL, the engine, the store, the logbook and the
update session off or free, no granule listed, the memories in their canonical form with no line poisoned, every register at its reset value, and no command
waits.
Log entries 7 and 8 say what is the model's choice. -/
def Obligations.reset_holds_the_reset_values : Prop :=
  State.reset.pending = [] ∧ State.reset.QueueWf ∧ State.reset.dev.core.mode = .unpowered ∧ State.reset.dev.core.ready = 0 ∧
  State.reset.dev.hlnk.link = .down ∧ State.reset.dev.fery.eng = .off ∧ State.reset.dev.xing.st = .disarmed ∧
  State.reset.dev.land.st = .off ∧ State.reset.dev.gmap.phase = .absent ∧ State.reset.dev.ciph.st = .off ∧
  State.reset.dev.chtr.st = 0 ∧ State.reset.dev.log.st = 0 ∧ State.reset.dev.upd.st = 0 ∧ State.reset.dev.batt.st = .absent ∧
  (∀ off : Nat, State.reset.dev.reg off = regReset off) ∧
  (∀ q : Nat, State.reset.dev.bank q = { queue := [], opened := none, last := none, h := 0, t := [], rh := [], flagged := [], flagTick := 0, actTick := 0, raa := 0 }) ∧
  (∀ q h : Nat, (State.reset.dev.bank q).tOf h = 2) ∧
  Memory.wf dramByte State.reset.dev.dram = true ∧ Memory.wf norByte State.reset.dev.nor = true ∧ Memory.wf 0 State.reset.dev.fram = true ∧
  (∀ a : Nat, State.reset.dev.linePoisoned a = false)

/-- The symbol code of DRAM (R212, R213): a line that is read without errors is the line as written, or poisoned; with any errors in
one component's symbol it is corrected and names that component; a poisoned line with some beats of one component in error and one beat
whole is uncorrectable.
Log entry 83 says what is the model's choice. -/
def Obligations.the_symbol_code_corrects_a_component : Prop :=
  ∀ (s : Dev) (a : Nat),
    s.captureBurst a [] = (if s.linePoisoned a = true then .poisoned else .correct (s.readLine a)) ∧
    ∀ (j : Fin 10) (es : List (BitVec 4)) (err : List (BitVec 40)), es.length = 16 →
      err = es.map (fun e => (e.setWidth 40 : BitVec 40) <<< (4 * j.val)) → (∃ e ∈ es, e ≠ 0) →
      (s.linePoisoned a = false → s.captureBurst a err = .corrected j.val (s.readLine a)) ∧
      (s.linePoisoned a = true → 0 ∈ es → s.captureBurst a err = .uncorrectable)

/-- A line written to DRAM reads back as written, poisoned or not, and no other line and no byte outside it changes; the DRAM and the
list of poisoned lines keep their canonical form; a subchannel that has failed takes nothing.
Log entry 3 says what is the model's choice. -/
def Obligations.a_line_written_is_read_back : Prop :=
  ∀ (s : Dev) (a : Nat) (d : Line) (poison : Bool), Memory.wf dramByte s.dram = true → s.poisonLines.Pairwise (· < ·) →
    (s.lineFailed a = false →
      (∀ b : Nat, (s.putLine a d poison).readLine b = (if b / 64 = a / 64 then (if poison then 0 else d) else s.readLine b) ∧
        (s.putLine a d poison).linePoisoned b = (if b / 64 = a / 64 then poison else s.linePoisoned b)) ∧
      (∀ x : Nat, x / 64 ≠ a / 64 → Memory.read dramByte (s.putLine a d poison).dram x = Memory.read dramByte s.dram x) ∧
      Memory.wf dramByte (s.putLine a d poison).dram = true ∧ (s.putLine a d poison).poisonLines.Pairwise (· < ·)) ∧
    (s.lineFailed a = true → s.putLine a d poison = s)

/-- The address map (R198, R199): under every DCTL_CONFIG, whatever its ORDER, HASH and ranks, two device addresses with the same
subchannel, rank, bank group, bank, burst and row lie in the same line, and every field lies in its range. -/
def Obligations.the_address_map_is_one_to_one : Prop :=
  ∀ config a b : Nat,
    (dramAddr config a = dramAddr config b → a / 64 = b / 64) ∧ (a / 64 = b / 64 → dramAddr config a = dramAddr config b) ∧
    (dramAddr config a).sc < 8 ∧ (dramAddr config a).rk < 2 ∧ (dramAddr config a).bg < 8 ∧ (dramAddr config a).ba < 4 ∧
    (dramAddr config a).col < 128

/-- R200: a line's queue is that of its bank, q = 64 × SC + 32 × RK + 4 × BG + BA, from 0 to 511, two banks never share one, and with one
rank no queue with RK = 1 is used. -/
def Obligations.each_bank_has_one_queue : Prop :=
  ∀ (s : Dev) (a b : Nat),
    (s.dramOf a).queue = 64 * (s.dramOf a).sc + 32 * (s.dramOf a).rk + 4 * (s.dramOf a).bg + (s.dramOf a).ba ∧
    (s.dramOf a).queue ≤ 511 ∧
    ((s.dramOf a).queue = (s.dramOf b).queue ↔
      (s.dramOf a).sc = (s.dramOf b).sc ∧ (s.dramOf a).rk = (s.dramOf b).rk ∧ (s.dramOf a).bg = (s.dramOf b).bg ∧ (s.dramOf a).ba = (s.dramOf b).ba) ∧
    (s.regF Reg.DCTL_CONFIG 9 1 = 0 → (s.dramOf a).rk = 0 ∧ (s.dramOf a).queue / 32 % 2 = 0)

/-- R37: D is G times the number of granules whose state is DIRTY, FERRYING or REDIRTY; every other granule, PINNED ones among them, is
not counted. The premises are the map's canonical form: each listed granule once, below the number n of granules, and an unlisted one CLEAN or UNRESTORED;
an entry that is set keeps it and reads back. -/
def Obligations.the_dirty_count_counts_three_states : Prop :=
  ∀ (s : Dev) (n : Nat), sortedK s.gmap.entries = true → (∀ p ∈ s.gmap.entries, p.1 < n) → s.gmap.dflt.st ∈ [GState.clean, .unrestored] →
    s.d = 16384 * (List.range n).countP (fun g =>
      decide ((s.entry g).st = .dirty) || decide ((s.entry g).st = .ferrying) || decide ((s.entry g).st = .redirty)) ∧
    (∀ (g : Nat) (e : GEntry), g < n → sortedK (s.setEntry g e).gmap.entries = true ∧
      (∀ p ∈ (s.setEntry g e).gmap.entries, p.1 < n) ∧ (s.setEntry g e).gmap.dflt = s.gmap.dflt ∧ (s.setEntry g e).entry g = e)

/-- R317: KEYS holds when the engine is ACTIVE with RESERVED set and left + 2^28 × (LIMIT − EPOCH) ≥ n_x, where left = 2^28 − CIPH_USED;
n_x is that of R316 over b_arm. -/
def Obligations.keys_holds_where_the_epochs_last : Prop :=
  ∀ (s : Dev) (left nX : Nat), left = 2 ^ 28 - s.ciph.used →
    nX = s.fery.bArm / 16384 + s.fery.bArm / 2 ^ 25 + s.capEffAt s.fery.bArm + s.installed / 2 ^ 36 + 260 →
    (s.keysOk = true ↔ s.ciph.st = .active ∧ s.ciph.reserved = true ∧ left + 2 ^ 28 * (s.ciph.limit - s.ciph.epoch) ≥ nX)

/-- The start-up: AUX_ON takes an unpowered device into its power-on reset with the charter load to come, AUX_OFF in STANDBY stops the
always-on domain, and in RESTORE, SERVICE, SAVE and MAINTENANCE only the supply is noted (Table 1-3); READY_AON starts the ROM, the
charter store and the ports; READY_CHARTER leads to STANDBY, or, where no charter or no firmware is valid, to RECOVERY with
LT_BOOT_FAIL; READY_FW sets its bit (R16, R19, R20); the migration write of R21 leaves the converted charter in the other slot and
LT_CHARTER_MIGRATED, or is reported with LT_CHARTER_MIGRATE_FAIL.
Log entries 7, 17, 19, 28, 32 and 85 say what is the model's choice. -/
def Obligations.start_up_reaches_standby_or_recovery : Prop :=
  (∀ (pins : PinLevels) (s : State), s.dev.core.mode = .unpowered → s.dev.core.trans = none →
    exec (.auxOn pins) s = .next (s.put (Dev.settle (({ s.dev with
      pins := pins, log := { s.dev.log with auxTick := s.dev.ticks }
      core := { CoreSt.reset with trans := some .auxOn, auxGood := true } } : Dev).twbSample pins.yardEn)))) ∧
  (∀ (pins : PinLevels) (s : State), s.dev.core.mode = .standby →
    exec (.auxOff pins) s = .next (s.put (Dev.settle
      ({ s.dev with pins := pins, core := { s.dev.core with auxGood := false } } : Dev).powerLost))) ∧
  (∀ (pins : PinLevels) (s : State),
    s.dev.core.mode = .restore ∨ s.dev.core.mode = .service ∨ s.dev.core.mode = .save ∨ s.dev.core.mode = .maintenance →
    exec (.auxOff pins) s = .next (s.put (Dev.settle
      { s.dev with pins := pins, core := { s.dev.core with auxGood := false } }))) ∧
  (∀ s : State, s.dev.core.trans = some .auxOn → s.dev.rdy Rdy.AON = false →
    exec .readyAon s = .next (s.put (Dev.settle
      ((((s.dev.setReady Rdy.AON).modCore (fun c => { c with fwState := 1 })).modChtr (fun c => { c with st := 1 })).twbStart.bellReady)))) ∧
  (∀ (s : State) (d e : Dev) (ok : Bool), s.dev.core.trans = some .auxOn → s.dev.rdy Rdy.AON = true → s.dev.chtr.st = 2 →
    s.dev.loadCharter = (d, ok) → d.core.heldMainGood = false →
    e = d.modCore (fun c => { c with trans := none, heldMainGood := false, fwState := 1 }) →
    exec .readyCharter s = .next (s.put (Dev.settle
      (if ok then e.setMode .standby .auxOn
       else (e.logStd LT.BOOT_FAIL (d.core.mode.code + 256 * Mode.recovery.code + 65536 * Ev.auxOn.code) 0).setMode .recovery .auxOn)))) ∧
  (∀ s : State, s.dev.core.mode = .standby → s.dev.core.trans = none → s.dev.core.fwState = 1 → s.dev.rdy Rdy.CHARTER = true →
    exec .readyFw s = .next (s.put (Dev.settle
      (((s.dev.modCore (fun c => { c with fwState := 2 })).setReady Rdy.FW).updFwReady)))) ∧
  (∀ (s : State) (slot : Nat) (bs : Bytes), s.dev.chtr.migrating = some (slot, bs) →
    exec .charterMigrated s = .next (s.put (Dev.settle
      (({ s.dev with
          nor := Memory.writeBytes norByte (Memory.clear s.dev.nor (charterBase (decide (slot = 1))) 0x100000)
            (charterBase (decide (slot = 1))) bs
          chtr := { s.dev.chtr with migrating := none } } : Dev).logStd LT.CHARTER_MIGRATED (s.dev.core.charterVer + 256 * 4) 0)))) ∧
  (∀ (s : State) (timeout : Bool), s.dev.chtr.migrating.isSome = true →
    exec (.charterMigrateFail timeout) s = .next (s.put (Dev.settle
      ((s.dev.migCut.modCore (fun c => { c with migWriteFail := true })).logStd LT.CHARTER_MIGRATE_FAIL
        (s.dev.core.charterVer + 256 * 4) (if timeout then St.storeTimeout else St.verifyFail).code))))

/-- The pins (Table 1-3, R9, R14): MAIN_GOOD in STANDBY starts a cold landing; the loss of the input by PWR_FAIL_N or by PRSNT_N
starts a crossing in SERVICE, with cause 1 or 2, fed by the pack; PERST_N low takes the link down; PERST_N high in STANDBY
with good input starts a landing; a host absent for its time starts a crossing of cause 5.
Log entries 18, 23, 24 and 84 say what is the model's choice. -/
def Obligations.pins_move_the_mode_machine : Prop :=
  (∀ s : State, s.dev.core.mode = .standby → s.dev.core.trans = none →
    exec .mainGood s = .next (s.put (Dev.settle (Dev.coldLanding { s.dev with
      pins := { s.dev.pins with pwrFailN := true, prsntN := false }
      core := { s.dev.core with inputGood := true, landAttempts := 0 } } .mainGood s.dev.ticks)))) ∧
  (∀ s : State, s.dev.core.mode = .service →
    exec .inputFail s = .next (s.put (Dev.settle (Dev.cross { s.dev with
      pins := { s.dev.pins with pwrFailN := false }
      core := { s.dev.core with inputGood := false, heldMainGood := false } } 1 .inputFail false false true)))) ∧
  (∀ s : State, s.dev.core.mode = .service →
    exec .removal s = .next (s.put (Dev.settle (Dev.cross { s.dev with
      pins := { s.dev.pins with prsntN := true }
      core := { s.dev.core with inputGood := false, heldMainGood := false } } 2 .removal false false true)))) ∧
  (∀ (pins : PinLevels) (s : State), s.dev.core.mode = .service → s.dev.hlnk.link ≠ .down →
    exec (.perstOn pins) s = .next (s.put (Dev.settle (({ s.dev with pins := { pins with perstN := false } } : Dev).linkLost .down)))) ∧
  (∀ (pins : PinLevels) (s : State), s.dev.core.mode = .standby → s.dev.core.trans = none →
    pins.pwrFailN = true → pins.prsntN = false →
    exec (.perstOff pins) s = .next (s.put (Dev.settle
      (Dev.coldLanding { s.dev with pins := { pins with perstN := true } } .perstOff s.dev.ticks)))) ∧
  (∀ s : State, s.dev.core.hostAbsentArmed = true → s.dev.regF Reg.CORE_POWER_TIMES 0 16 ≠ 0 →
    exec .hostAbsent s = .next (s.put (Dev.settle (s.dev.cross 5 .hostAbsent false false false))))

/-- A write of CORE_MODE_REQ that the table allows under row 0x04 and under the row of its REQ posts the result of the event in
CORE_MODE_RESULT and to its source, and takes the event (R26, R395).
Log entries 20 and 37 say what is the model's choice. -/
def Obligations.mode_requests_take_their_event : Prop :=
  ∀ (src : Src) (s : State), s.dev.accepts src Reg.CORE_MODE_REQ = true →
    (∀ (c : Instr) (row : Nat) (e : Ev),
      (c, row, e) ∈ [(Instr.modeReqOff src, 0x22, Ev.offReq), (.modeReqOn src, 0x22, .onReq), (.modeReqMaintEnter src, 0x23, .maintEnter),
        (.modeReqMaintExit src, 0x23, .maintExit), (.modeReqRecov src, 0x24, .recovReq), (.modeReqResetFull src, 0x26, .resetFull)] →
      s.dev.srcMay src row = true →
      exec c s = .next (s.put (Dev.settle
        ((((s.dev.modCore (fun k => { k with modeResult := (s.dev.modeEvent e).2 })).writeStatus src (s.dev.modeEvent e).2).modeEvent e).1))))

/-- CORE_LOCK.LOCK locks the charter registers at once and reads 1 from then on; the watchdog key restarts the count; any other value, the expiry of the
count outside SAVE and a lockstep mismatch are firmware faults of causes 2, 2 and 1, which clear READY_FW and READY_MAILBOX, end the
proxy and restart the cores, the third in the window as RECOV_REQ; an access that Table 17-4 does not allow is bulkhead BH05; a fault
older than 600 s leaves the window (R22, R26, R402, R403).
Log entries 21, 22 and 41 say what is the model's choice. -/
def Obligations.lock_watchdog_and_core_faults : Prop :=
  (∀ (src : Src) (s : State), s.dev.accepts src Reg.CORE_LOCK = true → s.dev.core.locked = false →
    exec (.coreLockWrite src) s = .next (s.put
      ((({ s.dev with core := { s.dev.core with locked := true, lockEarly := true } } : Dev).setRegF Reg.CORE_LOCK 1 1 1).writeStatus src .ok))) ∧
  (∀ (src : Src) (s : State), s.dev.accepts src Reg.CORE_WDOG = true →
    exec (.watchdogKick src) s = .next (s.put { s.dev with core := { s.dev.core with wdogAt := s.dev.ticks } })) ∧
  (∀ (src : Src) (c : Instr) (cause : Nat) (s : State) (d : Dev),
    (c, cause) ∈ [(Instr.watchdogForceExpire src, 2), (.watchdogExpiry, 2), (.lockstepMismatch, 1)] →
    s.dev.accepts src Reg.CORE_WDOG = true → s.dev.core.mode ∉ [Mode.unpowered, .save, .recovery] →
    (s.dev.core.fwState = 1 ∨ s.dev.core.fwState = 2) → s.dev.trn.retrain = none →
    d = ((((s.dev.clrReady Rdy.FW).clrReady Rdy.MAILBOX).modCore (fun k => { k with
      proxy := none, fwCause := cause, fwFaults := k.fwFaults + 1 })).trnDiscard.trnFwFault) → d.core.mode = s.dev.core.mode →
    (d.core.fwFaults < 3 → exec c s = .next (s.put (Dev.settle d.fwRestart.updFwFault))) ∧
    (3 ≤ d.core.fwFaults → exec c s = .next (s.put (Dev.settle (d.modCore (fun k => { k with fwState := 1 })).evRecovReq.updFwFault)))) ∧
  (∀ (kind : Fin 3) (addr pc : Word) (aligned32 : Bool) (s : State), s.dev.aonUp = true → s.dev.core.fwState = 1 ∨ s.dev.core.fwState = 2 →
    memMapAllows kind.val addr.toNat aligned32 = false →
    exec (.fwAccessFault kind addr pc aligned32) s = .next (s.put (s.dev.bulkhead 5 2 .bulkhead addr.toNat pc))) ∧
  (∀ s : State, exec .fwFaultWindowExpiry s =
    .next (s.put { s.dev with core := { s.dev.core with fwFaults := s.dev.core.fwFaults - 1 } }))

/-- An accepted write of CORE_FW_NAND_CMD.GO queues the raw operation on the die of CORE_FW_NAND_LOC with GO set: a read of a
working die always, a program and an erase in MAINTENANCE on a free spare block only (R406, R409).
Outside MAINTENANCE, or on a block that is not a free spare, a firmware program or erase of NAND is turned away at bulkhead
BH02, which also sets XING_ERR.FW_BLOCKED when the block lies in the crossing region (R405, R406).
Log entries 38 and 66 say what is the model's choice. -/
def Obligations.firmware_nand_access_is_queued_or_refused : Prop :=
  (∀ (src : Src) (val : Word) (s : State) (c : Instr) (op : Nat) (x : DOp) (d : Dev),
    d = s.dev.setRegF Reg.CORE_FW_NAND_CMD 0 3 (op + 4 * bitsOf val.toNat 2 1) →
    (c, op, x) ∈ [(Instr.fwNandRead src val, 1, DOp.read (d.regN Reg.CORE_FW_NAND_LOC) (val.getLsbD 2) .firmware),
      (.fwNandProgram src val, 2, .fwProgram (d.regN Reg.CORE_FW_NAND_LOC) (val.getLsbD 2) d.pageSlice),
      (.fwNandErase src val, 3, .fwErase (d.regN Reg.CORE_FW_NAND_LOC))] →
    s.dev.accepts src Reg.CORE_FW_NAND_CMD = true → s.dev.regF Reg.CORE_FW_NAND_CMD 3 1 = 0 → 2 ≤ d.flsh.st →
    d.dieWorks (locCh (d.regN Reg.CORE_FW_NAND_LOC)) (locDie (d.regN Reg.CORE_FW_NAND_LOC)) = true →
    (op = 1 ∨ d.core.mode = .maintenance ∧ d.freeSpare (d.regN Reg.CORE_FW_NAND_LOC) = true) →
    exec c s = .next (s.put (Dev.settle ((d.setRegF Reg.CORE_FW_NAND_CMD 3 1 1).pushDesc
      (locCh (d.regN Reg.CORE_FW_NAND_LOC)) (locDie (d.regN Reg.CORE_FW_NAND_LOC)) { op := x, prio := 8 })))) ∧
  (∀ (pc val : Word) (s : State) (c : Instr) (op : Nat) (d : Dev),
    d = s.dev.setRegF Reg.CORE_FW_NAND_CMD 0 3 (op + 4 * bitsOf val.toNat 2 1) →
    (c, op) ∈ [(Instr.fwNandProgram (.firmware pc) val, 2), (.fwNandErase (.firmware pc) val, 3)] →
    s.dev.accepts (.firmware pc) Reg.CORE_FW_NAND_CMD = true → s.dev.regF Reg.CORE_FW_NAND_CMD 3 1 = 0 →
    ¬(d.core.mode = .maintenance ∧ d.freeSpare (d.regN Reg.CORE_FW_NAND_LOC) = true) →
    exec c s = .next (s.put (Dev.settle (((if d.isXr (locBlock (d.regN Reg.CORE_FW_NAND_LOC)) then d.latch Reg.XING_ERR 7 else d).bulkhead
      2 3 .bulkhead (d.regN Reg.CORE_FW_NAND_LOC) pc).fwNandEnd 0xFF .bulkhead))))

/-- A register write acts as the register does; one that only holds what is written stores its
fields.
A write that the authority table refuses to a port changes no register of the target: it is counted, recorded in
LT_AUTH_REJECT and answered with ST_NO_AUTHORITY; on BAR2 it also sets HLNK_ERR.AUTH_REJECT with the address (R167, R394, R398).
Log entries 35 and 38 say what is the model's choice. -/
def Obligations.register_writes_store_or_are_recorded : Prop :=
  (∀ (src : Src) (off : BitVec 20) (val : Word) (s : State), s.dev.aonUp = true → off.toNat % 4 = 0 → (regRow off.toNat).isSome = true →
    exec (.registerWrite src off val) s = .next (s.put (Dev.settle (regWriteAt src off.toNat val s.dev)))) ∧
  (∀ (src : Src) (off : BitVec 20) (val : Word) (s : State), off.toNat % 4 = 0 → (regRow off.toNat).isSome = true →
    off.toNat ∉ [Reg.CORE_MODE_REQ, Reg.CORE_LOCK, Reg.CORE_WDOG, Reg.CORE_FW_NAND_CMD, Reg.HLNK_LINK_CTL, Reg.FAB_TIDE_EXTREMES,
      Reg.DCTL_TRN_CMD, Reg.DCTL_FREQ_REQ, Reg.GMAP_CACHE_CTL, Reg.GMAP_LOOKUP_IDX, Reg.FERY_CTL, Reg.XING_RESTORE_PRIO_BASE,
      Reg.XING_RESTORE_PRIO_LIMIT, Reg.CIPH_CTL, Reg.SEQ_MARGIN, Reg.SEQ_BELL_TX, Reg.BATT_CTL, Reg.TWB_XFER_CTL, Reg.UPD_CTL] →
    off.toNat / 0x10000 ≠ 8 → off.toNat / 0x10000 ≠ 0xA →
    s.dev.accepts src off.toNat = true → valueRejected off.toNat val.toNat = false →
    exec (.registerWrite src off val) s = .next (s.put (Dev.settle ((s.dev.storeReg off.toNat val).writeStatus src .ok)))) ∧
  (∀ (p : Port) (off : BitVec 20) (val : Word) (s : State), s.dev.aonUp = true → off.toNat % 4 = 0 → (regRow off.toNat).isSome = true →
    off.toNat ∉ [Reg.CORE_MODE_REQ, Reg.CORE_LOCK, Reg.CORE_WDOG, Reg.CORE_FW_NAND_CMD, Reg.HLNK_LINK_CTL, Reg.FAB_TIDE_EXTREMES,
      Reg.DCTL_TRN_CMD, Reg.DCTL_FREQ_REQ, Reg.GMAP_CACHE_CTL, Reg.GMAP_LOOKUP_IDX, Reg.FERY_CTL, Reg.XING_RESTORE_PRIO_BASE,
      Reg.XING_RESTORE_PRIO_LIMIT, Reg.CIPH_CTL, Reg.SEQ_MARGIN, Reg.SEQ_BELL_TX, Reg.BATT_CTL, Reg.TWB_XFER_CTL, Reg.UPD_CTL] →
    off.toNat / 0x10000 ≠ 8 → off.toNat / 0x10000 ≠ 0xA → s.dev.portMay (rowOf off.toNat) p = false →
    exec (.registerWrite (.port p) off val) s = .next (s.put (Dev.settle (s.dev.refuseWrite p (rowOf off.toNat) off.toNat))))

/-- A read of the _LO register of a pair returns it and latches the _HI register for the reader's next read of it (R5).
Log entries 36 and 40 say what is the model's choice. -/
def Obligations.a_pair_is_read_as_one_value : Prop :=
  (∀ (src : Src) (off : BitVec 20) (s : State), s.dev.aonUp = true → pairLos.contains off.toNat = true →
    exec (.pairLoRead src off) s = .next (s.put ((({ s.dev with
      pairLatch := insertK (0x100000 * chIdx src + off.toNat + 4) (s.dev.readReg (chIdx src) (off.toNat + 4)) s.dev.pairLatch } : Dev).drew).emit
        (.mmioRead off.toNat (s.dev.readReg (chIdx src) off.toNat))))) ∧
  (∀ (src : Src) (off : BitVec 20) (v : Word) (s : State), s.dev.aonUp = true → pairLos.contains off.toNat = false →
    lookupK (0x100000 * chIdx src + off.toNat) s.dev.pairLatch = some v →
    exec (.pairLoRead src off) s = .next (s.put (({ s.dev with
      pairLatch := eraseK (0x100000 * chIdx src + off.toNat) s.dev.pairLatch } : Dev).emit (.mmioRead off.toNat v)))) ∧
  (∀ (src : Src) (off : BitVec 20) (s : State), s.dev.aonUp = true → pairLos.contains off.toNat = false →
    lookupK (0x100000 * chIdx src + off.toNat) s.dev.pairLatch = none →
    exec (.pairLoRead src off) s = .next (s.put (s.dev.drew.emit (.mmioRead off.toNat (s.dev.readReg (chIdx src) off.toNat)))))

/-- A host write on a credit reaches DRAM once its granule's entry is read and nothing makes it wait (Table 2-2, R35, R153 to R155,
R158): a whole line, or poison, is written as it comes; a partial write merges the enabled bytes over the line as read; one outside
its LD is recorded and acknowledged.
Log entries 46, 47 and 48 say what is the model's choice. -/
def Obligations.host_writes_reach_dram : Prop :=
  ∀ (addr : HostAddr) (data : Line) (poison damaged : Bool) (tag : BitVec 16) (be : BitVec 64) (c : Instr) (op : MemOp) (s : State)
    (b : Dev),
    (c, op) ∈ [(Instr.memWr addr data poison damaged tag, MemOp.write), (.memWrPtl addr data be poison damaged tag, .writePtl be)] →
    s.dev.rwdCredit = true → b = s.dev.rwdIn poison →
    (b.deviceAddr addr = none → exec c s = .next (s.put (Dev.settle ((b.dpaRange addr).ackWrite
      { op := op, ld := hostLd addr, tag := tag, dpa := 0, data := data, poison := poison, seq := 0 })))) ∧
    ∀ (a : Nat) (r : MemReq) (d e f : Dev), b.deviceAddr addr = some a →
    r = { op := op, ld := hostLd addr, tag := tag, dpa := BitVec.ofNat 40 (a / 64 * 64), data := data, poison := poison, seq := b.hlnk.seq } →
    d = b.modHlnk (fun h => { h with seq := h.seq + 1 }) →
    d.hlnk.wait.any (fun w => decide (granuleOf w.dpa = granuleOf r.dpa)) = false →
    d.cacheAccess (granuleOf r.dpa) = some e → f = e.fixEntry damaged (granuleOf r.dpa) → f.mustWait r = false →
    ((op = .write ∨ be = BitVec.allOnes 64 ∨ poison = true) →
      exec c s = .next (s.put (Dev.settle (((f.putLine r.dpa.toNat data poison).enqueue r.dpa.toNat true r.ld.val).writeDone r)))) ∧
    (∀ (h : Dev) (old : Line), op = .writePtl be → be ≠ BitVec.allOnes 64 → poison = false →
      (f.enqueue r.dpa.toNat false r.ld.val).readBursts r.dpa.toNat false noErrs = (h, .data old) →
      exec c s = .next (s.put (Dev.settle (((h.putLine r.dpa.toNat (mergeLine old data be) false).enqueue r.dpa.toNat true r.ld.val).writeDone r))))

/-- A host read in MEM that nothing makes wait is answered with its line, or poisoned where the line is (R29, R70, R156); with
READY_HOSTMEM clear (the link in IO), and at an address outside its LD, every read is answered poisoned (R158).
Log entries 47, 48 and 49 say what is the model's choice. -/
def Obligations.host_reads_are_answered : Prop :=
  ∀ (addr : HostAddr) (damaged : Bool) (tag : BitVec 16) (c : Instr) (s : State), c ∈ [Instr.memRd addr damaged tag, .memRdData addr damaged tag] →
    (∀ (a : Nat) (r : MemReq) (d e f h : Dev) (x : ReadEnd), s.dev.hlnk.link = .mem → 0 < s.dev.hlnk.reqGranted →
      s.dev.deviceAddr addr = some a →
      r = { op := .read, ld := hostLd addr, tag := tag, dpa := BitVec.ofNat 40 (a / 64 * 64), data := 0, poison := false, seq := s.dev.hlnk.seq } →
      d = s.dev.modHlnk (fun h => { h with reqGranted := h.reqGranted - 1, reqOut := h.reqOut + 1, seq := h.seq + 1 }) →
      d.hlnk.wait.any (fun w => decide (granuleOf w.dpa = granuleOf r.dpa)) = false →
      (d.mapBypass r = true ∧ f = d ∨
        d.mapBypass r = false ∧ d.cacheAccess (granuleOf r.dpa) = some e ∧ e.mapBypass r = false ∧ f = e.fixEntry damaged (granuleOf r.dpa)) →
      f.mustWait r = false →
      (f.enqueue r.dpa.toNat false r.ld.val).readBursts r.dpa.toNat true noErrs = (h, x) →
      (∀ line, x = .data line → exec c s = .next (s.put (Dev.settle (h.answerRead r line false)))) ∧
      (x = .poison → exec c s = .next (s.put (Dev.settle (h.answerRead r 0 true))))) ∧
    (s.dev.reqCredit = true → s.dev.deviceAddr addr = none →
      exec c s = .next (s.put (Dev.settle ((s.dev.dpaRange addr).sendDrs (hostLd addr) tag 0 true)))) ∧
    (∀ a : Nat, s.dev.hlnk.link = .io → s.dev.deviceAddr addr = some a →
      exec c s = .next (s.put (Dev.settle
        ((s.dev.hostErr (hostLd addr) ((s.dev.hostDpa addr).getD 0) 3).sendDrs (hostLd addr) tag 0 true))))

/-- MemSpecRd reads early or is dropped, with no response; MemInv and MemInvNT complete with Cmp and change no memory; GPF Phase 1
has nothing to do, Phase 2 waits for the writes before it, and with the engine halted it completes partially (R32, R153).
Log entry 50 says what is the model's choice. -/
def Obligations.hints_and_flushes_complete : Prop :=
  (∀ (addr : HostAddr) (tag : BitVec 16) (a : Nat) (s : State), s.dev.hlnk.link = .mem → 0 < s.dev.hlnk.reqGranted →
    s.dev.deviceAddr addr = some a →
    exec (.memSpecRd addr true tag) s = .next (s.put (Dev.settle (s.dev.enqueue a false (hostLd addr).val)))) ∧
  (∀ (addr : HostAddr) (tag : BitVec 16) (s : State), exec (.memSpecRd addr false tag) s = .next (s.put (Dev.settle s.dev))) ∧
  (∀ (addr : HostAddr) (tag : BitVec 16) (a : Nat) (c : Instr) (s : State), c ∈ [Instr.memInv addr tag, .memInvNt addr tag] →
    s.dev.reqCredit = true → s.dev.deviceAddr addr = some a →
    exec c s = .next (s.put (s.dev.emit (.ndr (hostLd addr) tag s.dev.devload)))) ∧
  (∀ s : State, s.dev.linkUp = true → exec .gpfPhase1 s = .next (s.put (s.dev.emit .gpfPhase1Done))) ∧
  (∀ s : State, s.dev.linkUp = true → exec .gpfPhase2 s = .next (s.put (Dev.settle
    ((s.dev.wrapReg Reg.HLNK_GPF 16 16 1).modHlnk (fun h => { h with gpf := h.gpf ++ [(s.dev.ticks, h.seq)] })).gpfCheck))) ∧
  (∀ (t n : Nat) (rest : List (Nat × Nat)) (d : Dev) (s : State), s.dev.hlnk.gpf = (t, n) :: rest → s.dev.fery.eng = .halted →
    d = (s.dev.gpfDone t true).latch Reg.HLNK_ERR 8 →
    exec .gpfPartial s = .next (s.put (Dev.settle (d.logStd LT.GPF_PARTIAL (s.dev.gpfHeld n) (d.regN Reg.HLNK_GPF)))))

/-- The link (Table 7-2, R150): in TRAINING, L0 with CXL opens IO and sets READY_LINK with the mode the device's own offer limits;
without CXL it sets HLNK_ERR.NO_CXL and logs it; leaving L0 clears READY_LINK, READY_MAILBOX and READY_HOSTMEM, resolves the
requests in flight and reports an error. READY_MAILBOX sets where firmware serves the mailbox (R25).
Log entries 51 and 114 say what is the model's choice. -/
def Obligations.the_link_comes_up_and_down : Prop :=
  (∀ (m : LinkMode) (s : State), s.dev.hlnk.link = .training → s.dev.hlnk.trained = false → m.cxl = true →
    exec (.linkL0 m) s = .next (s.put (Dev.settle
      ((((s.dev.setRegF Reg.HLNK_LINK_CTL 6 1 0).modHlnk (fun h => { h with
        mode := s.dev.negotiated m, trained := true, noCxl := false, link := .io })).setReady Rdy.LINK).evalAgain)))) ∧
  (∀ (m : LinkMode) (s : State), s.dev.hlnk.link = .training → s.dev.hlnk.trained = false → m.cxl = false →
    exec (.linkL0 m) s = .next (s.put (Dev.settle
      ((((s.dev.setRegF Reg.HLNK_LINK_CTL 6 1 0).modHlnk (fun h => { h with
        mode := s.dev.negotiated m, trained := true, noCxl := true })).latch Reg.HLNK_ERR 5).logLink LT.LINK_NO_CXL 0)))) ∧
  (∀ s : State, s.dev.hlnk.trained = true → s.dev.pins.perstN = true →
    exec .linkDown s = .next (s.put (Dev.settle
      ((((((((s.dev.clrReady Rdy.LINK).clrReady Rdy.MAILBOX).clrReady Rdy.HOSTMEM).resolveInFlight).modHlnk (fun h => { h with
        link := .training, trained := false, noCxl := false })).evalAgain.latch Reg.HLNK_ERR 4).logLink LT.LINK_DOWN 0).emit .aerLinkDown)))) ∧
  (∀ s : State, s.dev.rdy Rdy.LINK = true → s.dev.rdy Rdy.FW = true →
    (s.dev.core.mode = .restore ∨ s.dev.core.mode = .service ∨ s.dev.core.mode = .maintenance) →
    exec .readyMailbox s = .next (s.put (Dev.settle (s.dev.setReady Rdy.MAILBOX))))

/-- The host's configuration of the link: FLR resets an LD's mailbox, events and MSI-X; CXL Reset also uncommits its decoders; Set LD
Allocations is taken whole or refused; a decoder commits where R152 allows it; an unmask sends a held message; the CDAT is
answered; a BAR2 access that breaks R3 latches HLNK_ERR.BAD_ACCESS and reads 0 (R149, R151, R152, R165, R166).
Log entries 16, 52 and 53 say what is the model's choice. -/
def Obligations.the_host_configures_the_link : Prop :=
  ∀ s : State, s.dev.linkUp = true →
    (∀ ld, exec (.flr ld) s = .next (s.put (s.dev.ldReset ld))) ∧
    (∀ ld : Fin 16, exec (.cxlReset ld) s = .next (s.put
      ((s.dev.ldReset ld).modHlnk (fun h => { h with decoders := h.decoders.filter (fun d => d.ld ≠ ld.val) })))) ∧
    (∀ sizes : List Nat, s.dev.hlnk.mode.cxl = true → s.dev.hlnk.mode.mld = true → sizes.length ≤ 16 →
      sizes.foldl (· + ·) 0 ≤ s.dev.installedGiB - 1 → (∀ d ∈ s.dev.hlnk.decoders, d.committed = false) →
      exec (.setLdAllocations sizes) s = .next (s.put (Dev.settle
        ((s.dev.modHlnk (fun h => { h with allocs := sizes })).postSt (.host 0) 0x5402 .ok [])))) ∧
    (∀ sizes : List Nat, s.dev.installedGiB - 1 < sizes.foldl (· + ·) 0 →
      exec (.setLdAllocations sizes) s = .next (s.put (Dev.settle (s.dev.refuse (.host 0) 0x5402 2 .badParam)))) ∧
    (∀ (ld : Fin 16) (n : Fin 2) (commit : Bool) (base : BitVec 52) (size : Nat) (ways : Fin 8) (gran : Fin 7) (skip : Nat)
      (others : List Decoder) (d : Decoder),
      others = s.dev.hlnk.decoders.filter (fun d => !(decide (d.ld = ld.val) && decide (d.n = n.val))) →
      d = { ld := ld.val, n := n.val, base := base.toNat, size := size, ways := hdmWays ways, gran := hdmGran gran, skip := skip, committed := true } →
      ((commit = false → exec (.hdmDecoderCommit ld n commit base size ways gran skip) s =
        .next (s.put (s.dev.modHlnk (fun h => { h with decoders := others })))) ∧
      (commit = true → (s.dev.modHlnk (fun h => { h with decoders := others })).decoderOk d = true →
        exec (.hdmDecoderCommit ld n commit base size ways gran skip) s =
          .next (s.put (s.dev.modHlnk (fun h => { h with decoders := others ++ [d] })))))) ∧
    (∀ (ld : Fin 16) (v : Fin 4) (d : Dev), d = s.dev.modLd ld (fun l => { l with
        msixMask := l.msixMask &&& ~~~(1#4 <<< v.val), msixPend := l.msixPend &&& ~~~(1#4 <<< v.val) }) →
      exec (.msixUnmask ld v) s = .next (s.put
        (if (s.dev.ld ld).msixMask.getLsbD v.val && (s.dev.ld ld).msixPend.getLsbD v.val then d.emit (.msix ld v.val) else d))) ∧
    (∀ ld : Fin 16, s.dev.ldSize ld ≠ 0 → exec (.doeCdatRequest ld) s = .next (s.put (s.dev.emit
      (.doe ld [.dsmas 0 0 (s.dev.ldSize ld) true, .dslbisLatency 0 180, .dslbisBandwidth 0 200000])))) ∧
    (∀ (off : BitVec 20) (write : Bool) (d : Dev),
      d = (((s.dev.latch Reg.HLNK_ERR 0).setRegN Reg.HLNK_ERR_ADDR_LO off.toNat).setRegN Reg.HLNK_ERR_ADDR_HI 0).logLink LT.MMIO_BAD_ACCESS off.toNat →
      exec (.bar2BadAccess off write) s = .next (s.put (if write then d else d.emit (.mmioRead off.toNat 0))))

/-- The standard commands that only report (Table 7-5, R163, R168 to R172, R413): with READY_MAILBOX set outside RECOVERY each
completes with Success and the output of its LD.
Log entries 16, 55 and 56 say what is the model's choice. -/
def Obligations.mailbox_queries_answer : Prop :=
  ∀ (ld : Fin 16) (s : State), s.dev.rdy Rdy.MAILBOX = true → s.dev.hasLd ld = true → s.dev.core.mode ≠ .recovery →
    (∀ (c : Instr) (op : Nat) (out : Bytes),
      (c, op, out) ∈ [(Instr.identify ld, 0x0001, stdBytes 0x0001 0 0 16 ++ [16, 3]),
        (.backgroundOperationStatus ld, 0x0002, match s.dev.hlnk.bg with
          | some b => [BitVec.ofNat 8 (b2n b.running + fieldAt 1 7 b.percent), 0] ++ leBytes 2 b.opcode ++ leBytes 2 b.ret ++ leBytes 2 b.st.code
          | none => List.replicate 8 0),
        (.getResponseMessageLimit ld, 0x0003, [16]),
        (.getSupportedLogs ld, 0x0400, leBytes 2 1 ++ List.replicate 6 0 ++ celUuid ++ leBytes 4 celBytes.length),
        (.getFwInfo ld, 0x0200, [2, BitVec.ofNat 8 (1 + b2n s.dev.core.fwSlot), 0] ++ List.replicate 13 0 ++ stdBytes 0x0200 0 0 32 ++
          List.replicate 32 0),
        (.getEventInterruptPolicy ld, 0x0102,
          (List.range 4).map (fun n => BitVec.ofNat 8 (bitsOf (s.dev.ld ld).intPolicy.toNat (8 * n) 2 + 0x10))),
        (.getTimestamp ld, 0x0300, leBytes 8 s.dev.timestampNow),
        (.getPartitionInfo ld, 0x4100, leBytes 8 0 ++ leBytes 8 (s.dev.ldUnits ld) ++ leBytes 8 0 ++ leBytes 8 0),
        (.identifyMemoryDevice ld, 0x4000, stdBytes 0x4000 0 0 16 ++ leBytes 8 (s.dev.ldUnits ld) ++ leBytes 8 0 ++
          leBytes 8 (s.dev.ldUnits ld) ++ leBytes 8 0 ++ leBytes 2 64 ++ leBytes 2 64 ++ leBytes 2 64 ++ leBytes 2 64 ++ leBytes 4 131072 ++
          leBytes 3 4094 ++ leBytes 2 0 ++ stdBytes 0x4000 0 16 2),
        (.getAlertConfig ld, 0x4201, [(s.dev.ld ld).alertValid, 0x1F] ++ stdBytes 0x4201 0 2 1 ++ [(s.dev.ld ld).alertLife] ++
          stdBytes 0x4201 0 4 4 ++ leBytes 2 (s.dev.ld ld).alertTempHi.toNat ++ leBytes 2 (s.dev.ld ld).alertTempLo.toNat ++
          leBytes 2 (s.dev.ld ld).alertCeVol.toNat ++ leBytes 2 (s.dev.ld ld).alertCePers.toNat),
        (.getShutdownState ld, 0x4203, [BitVec.ofNat 8 (s.dev.hlnk.shutdown.getD ld.val 0)])] →
      exec c s = .next (s.put (s.dev.mboxOk ld op out))) ∧
    (∀ (uuid : BitVec 128) (off len : BitVec 32),
      (leBytes 16 uuid.toNat = celUuid → off.toNat + len.toNat ≤ celBytes.length →
        exec (.getLog ld uuid off len) s = .next (s.put (s.dev.mboxOk ld 0x0401 (subBytes celBytes off.toNat len.toNat)))) ∧
      (leBytes 16 uuid.toNat ≠ celUuid → exec (.getLog ld uuid off len) s = .next (s.put (s.dev.mboxBad ld 0x0401 .badParam)))) ∧
    (∀ (log : Byte) (l : LdSt), l = s.dev.ld ld →
      (log.toNat < 4 → exec (.getEventRecords ld log) s = .next (s.put (s.dev.mboxOk ld 0x0100
        ([BitVec.ofNat 8 (b2n (decide (l.overflow.getD log.toNat 0 ≠ 0))), 0] ++ leBytes 2 (l.overflow.getD log.toNat 0) ++
          leBytes 8 (l.ovfTimes.getD (2 * log.toNat) 0) ++ leBytes 8 (l.ovfTimes.getD (2 * log.toNat + 1) 0) ++
          leBytes 2 (l.logs.getD log.toNat []).length ++ List.replicate 10 0 ++ (l.logs.getD log.toNat []).flatMap (evBytes log.toNat))))) ∧
      (4 ≤ log.toNat → exec (.getEventRecords ld log) s = .next (s.put (s.dev.mboxBad ld 0x0100 .badParam)))) ∧
    (∀ (temp : BitVec 16) (d : Dev), d = s.dev.alertStep ld 0x06 (tempAlerts (s.dev.ld ld) temp) →
      exec (.getHealthInfo ld temp) s = .next (s.put (d.mboxOk ld 0x4200
        ([BitVec.ofNat 8 d.healthNow, BitVec.ofNat 8 (if d.hlnk.memActive then 0 else 1),
          BitVec.ofNat 8 (b2n ((d.ld ld).alertHit.getLsbD 0) +
            4 * (if (d.ld ld).alertHit.getLsbD 1 || (d.ld ld).alertHit.getLsbD 2 then 1 else 0) +
            16 * b2n ((d.ld ld).alertHit.getLsbD 3) + 32 * b2n ((d.ld ld).alertHit.getLsbD 4)),
          BitVec.ofNat 8 d.lifeUsed] ++ leBytes 2 temp.toNat ++ leBytes 4 d.hlnk.dsc ++ leBytes 4 d.ceVolatile ++ leBytes 4 d.flsh.ceReads)))) ∧
    (∀ (dpa len : BitVec 64), s.dev.ldSize ld < 64 * (dpa.toNat / 64 + len.toNat) →
      exec (.getPoisonList ld dpa len) s = .next (s.put (s.dev.mboxBad ld 0x4300 .badParam))) ∧
    (∀ (dpa len : BitVec 64) (base : Nat) (runs : List (Nat × Nat)), base = s.dev.ldBase ld / 64 →
      runs = s.dev.poisonRuns (base + dpa.toNat / 64) (base + dpa.toNat / 64 + len.toNat) →
      64 * (dpa.toNat / 64 + len.toNat) ≤ s.dev.ldSize ld →
      exec (.getPoisonList ld dpa len) s = .next (s.put (s.dev.mboxOk ld 0x4300
        ([BitVec.ofNat 8 (b2n (decide (4094 < runs.length)) + 2 * b2n s.dev.gmap.poisonOvf), 0] ++
          leBytes 8 (if s.dev.gmap.poisonOvf then s.dev.gmap.poisonOvfTime else 0) ++ leBytes 2 (runs.take 4094).length ++ List.replicate 20 0 ++
          (runs.take 4094).flatMap (fun r => leBytes 8 (64 * (r.1 - base)) ++ leBytes 4 r.2 ++ List.replicate 4 0)))))

/-- The standard commands that change the device (Table 7-5, R163, R170, R171, R413), in the same modes: what each stores, and its
completion; the label storage and the shutdown state need READY_CIPHER and the store, else they answer as Table 12-8 says.
Log entries 16, 30, 54, 56 and 113 say what is the model's choice. -/
def Obligations.mailbox_commands_take_effect : Prop :=
  ∀ (ld : Fin 16) (s : State), s.dev.rdy Rdy.MAILBOX = true → s.dev.hasLd ld = true → s.dev.core.mode ≠ .recovery →
    (∀ t : BitVec 64, exec (.setTimestamp ld t) s = .next (s.put
      (((s.dev.modHlnk (fun h => { h with timestamp := some (t.toNat, s.dev.ticks) })).logEvent LT.WALL_CLOCK
        (leBytes 8 t.toNat ++ leBytes 1 ld.val ++ [0, 0, 0])).mboxOk ld 0x0301 []))) ∧
    (∀ val : Word, (List.range 4).any (fun n => decide (1 < bitsOf val.toNat (8 * n) 2)) = false →
      exec (.setEventInterruptPolicy ld val) s = .next (s.put
        ((s.dev.modLd ld (fun l => { l with intPolicy := val &&& 0x03030303 })).mboxOk ld 0x0103 []))) ∧
    (∀ (log : Byte) (handles : List (BitVec 16)), log.toNat < 4 → (s.dev.ld ld).overflow.getD log.toNat 0 ≠ 0 →
      exec (.clearEventRecords ld log true handles) s = .next (s.put ((s.dev.modLd ld (fun l => { l with
        logs := l.logs.set log.toNat [], overflow := setGrow l.overflow log.toNat 0
        ovfTimes := setGrow (setGrow l.ovfTimes (2 * log.toNat) 0) (2 * log.toNat + 1) 0 })).mboxOk ld 0x0101 []))) ∧
    (∀ (log : Byte) (handles : List (BitVec 16)) (rs : List EvRec), log.toNat < 4 → rs = (s.dev.ld ld).logs.getD log.toNat [] →
      (rs.take handles.length).map (fun r => r.handle) = handles.map (fun h => h.toNat) →
      exec (.clearEventRecords ld log false handles) s = .next (s.put ((s.dev.modLd ld (fun l => { l with
        logs := l.logs.set log.toNat (rs.drop handles.length), overflow := setGrow l.overflow log.toNat 0
        ovfTimes := setGrow (setGrow l.ovfTimes (2 * log.toNat) 0) (2 * log.toNat + 1) 0 })).mboxOk ld 0x0101 []))) ∧
    (∀ (valid enable life : Byte) (hi lo vol pers : BitVec 16), valid.toNat / 32 = 0 → enable.toNat / 32 = 0 →
      (valid.getLsbD 0 = true → life.toNat ≤ 100) →
      exec (.setAlertConfig ld valid enable life hi lo vol pers) s = .next (s.put (Dev.settle ((s.dev.modLd ld (fun l => { l with
        alertValid := l.alertValid ||| valid, alertEnable := (l.alertEnable &&& ~~~valid) ||| (enable &&& valid)
        alertLife := if valid.getLsbD 0 then life else l.alertLife, alertTempHi := if valid.getLsbD 1 then hi else l.alertTempHi
        alertTempLo := if valid.getLsbD 2 then lo else l.alertTempLo, alertCeVol := if valid.getLsbD 3 then vol else l.alertCeVol
        alertCePers := if valid.getLsbD 4 then pers else l.alertCePers })).mboxOk ld 0x4202 [])))) ∧
    (∀ dirty : Bool, s.dev.lsaRefusal = none → exec (.setShutdownState ld dirty) s = .next (s.put (Dev.settle
      (((s.dev.modHlnk (fun h => { h with shutdown := h.shutdown.set ld.val (b2n dirty) })).prMerge 2 0 (4 + ld.val)
        [BitVec.ofNat 8 (b2n dirty)]).mboxOk ld 0x4204 [])))) ∧
    (∀ (off : BitVec 32) (data : Bytes), off.toNat + data.length ≤ 131072 → data.length ≤ 65528 →
      (s.dev.lsaRefusal = none → exec (.setLsa ld off data) s = .next (s.put (Dev.settle
        (((lsaBlocks (131072 * ld.val + off.toNat) data.length).foldl (fun d b =>
          d.prMerge 1 b (max (131072 * ld.val + off.toNat) (4032 * b) - 4032 * b)
            (subBytes data (max (131072 * ld.val + off.toNat) (4032 * b) - (131072 * ld.val + off.toNat))
              (min (131072 * ld.val + off.toNat + data.length) (4032 * (b + 1)) - max (131072 * ld.val + off.toNat) (4032 * b)))) s.dev).mboxOk
          ld 0x4103 [])))) ∧
      (∀ st, s.dev.lsaRefusal = some st → exec (.setLsa ld off data) s = .next (s.put (Dev.settle (s.dev.mboxBad ld 0x4103 st))))) ∧
    (∀ (off len : BitVec 32) (d : Dev), off.toNat + len.toNat ≤ 131072 → len.toNat ≤ 65536 → s.dev.lsaRefusal = none →
      d = (lsaBlocks (131072 * ld.val + off.toNat) len.toNat).foldl (fun s b => s.prNoteDamage 1 b) s.dev →
      (lsaBlocks (131072 * ld.val + off.toNat) len.toNat).find? (fun b => (d.prRead 1 b).isNone) = none →
      exec (.getLsa ld off len) s = .next (s.put (Dev.settle (d.mboxOk ld 0x4102 ((List.range len.toNat).map (fun i =>
        getD 0 ((131072 * ld.val + off.toNat + i) % 4032)
          ((d.prRead 1 ((131072 * ld.val + off.toNat + i) / 4032)).getD []))))))) ∧
    (∀ (dpa : BitVec 64) (data : Line) (damaged : Bool) (a : Dpa), dpa.toNat < s.dev.ldSize ld → s.dev.rdy Rdy.HOSTMEM = true →
      a = BitVec.ofNat 40 (s.dev.ldBase ld + dpa.toNat / 64 * 64) →
      exec (.injectPoison ld dpa damaged) s = .next (s.put (Dev.settle (s.dev.memArrive { op := .inject, ld := ld, tag := 0, dpa := a, data := 0, poison := true, seq := 0 } noErrs damaged))) ∧
      exec (.clearPoison ld dpa data damaged) s = .next (s.put (Dev.settle (s.dev.memArrive { op := .clear, ld := ld, tag := 0, dpa := a, data := data, poison := false, seq := 0 } noErrs damaged)))) ∧
    (∀ opcode : BitVec 16, exec (.unsupportedCommand ld opcode) s = .next (s.put
      (s.dev.refuse (.host ld) opcode.toNat 3 s.dev.unsupportedSt).drew))

/-- A KX_ command that raises a mode event posts the event's result and takes the event; KX_RESET of the cores completes and restarts
them without counting a fault (R174, Table 7-6).
Log entries 44 and 45 say what is the model's choice. -/
def Obligations.kx_mode_commands_take_their_event : Prop :=
  ∀ (p : Port) (input rest : Bytes) (s : State) (b : Dev),
    (∀ (c : Instr) (op : Nat) (x : Bytes) (e : Ev),
      (c, op, x, e) ∈ [(Instr.kxPowerOff p input, 0xC000, input, Ev.offReq), (.kxPowerOn p input, 0xC001, input, .onReq),
        (.kxModeMaintEnter p rest, 0xC002, 3 :: rest, .maintEnter), (.kxModeMaintExit p rest, 0xC002, 4 :: rest, .maintExit),
        (.kxModeRecovReq p rest, 0xC002, 5 :: rest, .recovReq), (.kxResetFull p rest, 0xC003, 2 :: rest, .resetFull)] →
      s.dev.kxAccepts p op x = true → b = s.dev.kxBefore p op x → (op = 0xC002 → leAt x 1 3 = 0) →
      exec c s = .next (s.put (Dev.settle ((b.kxEnd p op (b.modeEvent e).2 []).modeEvent e).1))) ∧
    (s.dev.kxAccepts p 0xC003 (1 :: rest) = true → b = s.dev.kxBefore p 0xC003 (1 :: rest) →
      exec (.kxResetFw p rest) s = .next (s.put (Dev.settle (b.kxEnd p 0xC003 .ok []).fwRestartCmd)))

/-- KX_GET_STATUS answers the registers of Table 7-7 as they stand and four bytes of 0; KX_LOG_READ the held records from a RSEQ on
that fit; KX_BATT_STATE_GET the learned state of an ACTIVE gauge (R175, R176, R366).
Log entry 45 says what is the model's choice. -/
def Obligations.kx_reports_answer : Prop :=
  ∀ (p : Port) (input : Bytes) (s : State) (b : Dev),
    (s.dev.kxAccepts p 0xC010 input = true → b = s.dev.kxBefore p 0xC010 input →
      exec (.kxGetStatus p input) s = .next (s.put (b.kxEnd p 0xC010 .ok
        (([Reg.CORE_MODE, Reg.CORE_READY, Reg.FERY_BUDGET_STATE, Reg.XING_STATUS, Reg.FERY_BUDGET_BYTES_LO, Reg.FERY_BUDGET_BYTES_HI,
          Reg.FERY_DIRTY_BYTES_LO, Reg.FERY_DIRTY_BYTES_HI, Reg.FERY_WEAR_BAL_LO, Reg.FERY_WEAR_BAL_HI, Reg.FERY_PINNED,
          Reg.XING_LAND_STATUS, Reg.GMAP_COUNT_UNRESTORED, Reg.FERY_ENERGY_INPUT, Reg.HLNK_LINK_STATUS].flatMap
            (fun off => leBytes 4 (b.readReg 0 off).toNat)) ++ leBytes 4 0)))) ∧
    (∀ (first : Nat) (held rs : List Found) (need next : Nat),
      s.dev.kxAccepts p 0xC020 input = true → b = s.dev.kxBefore p 0xC020 input →
      64 ≤ leAt input 8 4 → leAt input 8 4 ≤ 65520 → b.log.st = 2 → b.chtr.st ≠ 3 →
      first = max (max (leAt input 0 8) b.log.oldestRseq) 1 →
      held = b.logRecords.filter (fun f => decide (first ≤ f.rseq)) → takeFit (leAt input 8 4) held = (rs, need) →
      next = (match rs.getLast? with | some f => f.rseq + 1 | none => (match held with | f :: _ => f.rseq | [] => first)) →
      exec (.kxLogRead p input) s = .next (s.put (b.kxEnd p 0xC020 .ok (leBytes 8 next ++ leBytes 4 (rs.flatMap (fun f => f.bytes)).length ++
        leBytes 4 (b2n (decide (need = 0)) + 2 * b2n (decide (leAt input 0 8 ≠ 0) && decide (leAt input 0 8 < b.log.oldestRseq)) +
          4 * b2n (decide (need ≠ 0)) + fieldAt 16 16 need) ++ rs.flatMap (fun f => f.bytes))))) ∧
    (s.dev.kxAccepts p 0xC030 input = true → b = s.dev.kxBefore p 0xC030 input → b.batt.st = .active →
      exec (.kxBattStateGet p input) s = .next (s.put (b.kxEnd p 0xC030 .ok b.learnedState)))

/-- KX_BATT_STATE_PUT restores a learned state that passes R367, or records why not; KX_MARGIN moves a rail in MAINTENANCE by at most
600 mV and answers the offset applied; KX_DRAM_RETRAIN starts in the background (R169, R174, R345, R367).
Log entries 45 and 75 say what is the model's choice. -/
def Obligations.kx_maintenance_commands_take_effect : Prop :=
  ∀ (p : Port) (input : Bytes) (s : State) (b : Dev),
    (s.dev.kxAccepts p 0xC031 input = true → b = s.dev.kxBefore p 0xC031 input →
      (∀ st, b.putRefusal input = some st → exec (.kxBattStatePut p input) s = .next (s.put (Dev.settle
        (((b.latch Reg.BATT_ERR 4).logBatt LT.BATT_STATE_REJECTED st.code).kxEnd p 0xC031 st [])))) ∧
      (∀ (r : PackRec) (qf : Rat) (d : Dev), b.putRefusal input = none → b.packRec = some r →
        qf = max ((r.eol : Rat) / 2) (min ((leAt input 28 2 : Nat) : Rat) (r.rated : Rat)) →
        d = b.modBatt (fun k => { k with
          q := k.q * (qf / k.qFull), u := k.u * (qf / k.qFull), qFull := qf, learnCount := leAt input 30 2
          throughput := ((leAt input 32 4 : Nat) : Rat), learned := true, noPut := true }) →
        exec (.kxBattStatePut p input) s = .next (s.put (Dev.settle
          (((d.logBatt LT.BATT_STATE_RESTORED d.qFullMah).wornJudge r).kxEnd p 0xC031 .ok []))))) ∧
    (∀ (n : Nat) (off : Int) (d : Dev), s.dev.kxAccepts p 0xC050 input = true → b = s.dev.kxBefore p 0xC050 input →
      n = leAt input 0 1 → off = sint16 (leAt input 2 2) → -600 ≤ off → off ≤ 600 → n < 24 →
      (b.railRec n).populated = true → (b.railRec n).vtrim = true →
      d = (b.marginApply n off).modSeq (fun q => { q with marginStatus := 0 }) →
      exec (.kxMargin p input) s = .next (s.put (Dev.settle (d.kxEnd p 0xC050 .ok (leBytes 2 (twos16 d.seq.marginApplied) ++ [0, 0]))))) ∧
    (s.dev.kxAccepts p 0xC051 input = true → b = s.dev.kxBefore p 0xC051 input → BitVec.ofNat 8 (leAt input 0 1) ≠ 0 →
      b.bgRunning = false → b.trn.gather = none → b.trn.pending = 0 → (b.trn.phase = .idle ∨ b.trn.phase = .deferred) →
      exec (.kxDramRetrain p input) s = .next (s.put (Dev.settle
        (((b.bgStart p 0xC051).modCore (fun c => { c with proxy := some p })).retrainStart (BitVec.ofNat 8 (leAt input 0 1))).trnSettle)))

/-- The update session (R426, R431, R432, R434, R439, Table 19-6): an open with a good header on a free slot starts it; a good piece
goes to a buffer; the bitmap says which pieces are held; an abandon of its owner frees it; a commit that is accepted runs in
the background. The salvage commands do the same with the salvage session.
Log entry 78 says what is the model's choice. -/
def Obligations.update_commands_take_effect : Prop :=
  ∀ (p : Port) (input : Bytes) (s : State) (b : Dev),
    (∀ (c : Instr) (op : Nat) (sal : Bool) (d : Dev),
      (c, op, sal) ∈ [(Instr.kxUpdOpen p input, 0xC040, false), (.kxSalvageOpen p input, 0xC060, true)] →
      s.dev.kxAccepts p op input = true → b = s.dev.kxBefore p op input → updHeaderOk input sal = true → b.upd.st = 0 →
      d = b.updStart input (if sal then 3 else ownerOf p) sal →
      exec c s = .next (s.put (Dev.settle (d.kxEnd p op .ok
        (leBytes 4 d.upd.session ++ leBytes 4 (uhPieces d.upd.header) ++ leBytes 4 0))))) ∧
    (∀ (c : Instr) (op : Nat) (sal : Bool) (session n crc : Nat) (data : Bytes) (d e : Dev),
      (c, op, sal) ∈ [(Instr.kxUpdPiece p input, 0xC041, false), (.kxSalvagePiece p input, 0xC061, true)] →
      s.dev.kxAccepts p op input = true → b = s.dev.kxBefore p op input →
      session = leAt input 0 4 → n = leAt input 4 4 → data = input.drop 16 → crc = crc32c data → d = b.updTouch →
      b.updMine p session sal = true → b.upd.st = 1 → n < uhPieces b.upd.header → data.length = pieceLen b.upd.header n →
      (n = 0 → crc = leAt b.upd.header 28 4 ∧ manifestOk b.upd.header data sal = true) →
      (n ≠ 0 → b.upd.held.contains 0 = true → crc = d.tableWord n) →
      b.upd.held.contains n = false → (∀ x ∈ b.upd.bufs, x.1 ≠ n) → b.upd.bufs.length < 2 →
      e = d.modUpd (fun u => { u with bufs := u.bufs ++ [(n, data ++ List.replicate (uhPiece b.upd.header - data.length) 0xFF ++
        leBytes 4 session ++ leBytes 4 n ++ leBytes 4 crc ++ leBytes 4 d.opSeconds)] }) →
      exec c s = .next (s.put (Dev.settle (e.kxEnd p op .ok (leBytes 4 (e.upd.held.length + e.upd.bufs.length)))))) ∧
    (s.dev.kxAccepts p 0xC042 input = true → b = s.dev.kxBefore p 0xC042 input → b.updMine p (leAt input 0 4) false = true →
      1 ≤ leAt input 8 4 → leAt input 8 4 ≤ 524160 →
      exec (.kxUpdBitmap p input) s = .next (s.put (b.updTouch.kxEnd p 0xC042 .ok ((List.range (ceilDiv (leAt input 8 4) 8)).map (fun k =>
        BitVec.ofNat 8 ((List.range 8).foldl (fun v i =>
          if 8 * k + i < leAt input 8 4 && b.upd.held.contains (leAt input 4 4 + 8 * k + i) then v + 2 ^ i else v) 0)))))) ∧
    (s.dev.kxAccepts p 0xC044 input = true → b = s.dev.kxBefore p 0xC044 input → b.updMine p (leAt input 0 4) false = true → b.upd.st = 1 →
      exec (.kxUpdAbandon p input) s = .next (s.put (Dev.settle ((b.updLog LT.UPD_ABANDON b.updImage 1).updFree.kxEnd p 0xC044 .ok [])))) ∧
    (∀ (c : Instr) (op : Nat) (sal : Bool) (d : Dev),
      (c, op, sal) ∈ [(Instr.kxUpdCommit p input, 0xC043, false), (.kxSalvageCommit p input, 0xC062, true)] →
      s.dev.kxAccepts p op input = true → b = s.dev.kxBefore p op input → b.updCommit p (leAt input 0 4) sal b.bgRunning = (d, none) →
      exec c s = .next (s.put (Dev.settle d))) ∧
    (∀ (c : Instr) (op : Nat) (sal : Bool),
      (c, op, sal) ∈ [(Instr.kxUpdCommit p input, 0xC043, false), (.kxSalvageCommit p input, 0xC062, true),
        (.kxUpdPiece p input, 0xC041, false), (.kxSalvagePiece p input, 0xC061, true)] →
      s.dev.kxAccepts p op input = true → b = s.dev.kxBefore p op input → b.updMine p (leAt input 0 4) sal = false →
      exec c s = .next (s.put (Dev.settle (b.kxEnd p op .noSession []))))

/-- The checks of R397, in order: a command that the authority table refuses is recorded and answered ST_NO_AUTHORITY; on another LD
than LD 0 ST_NOT_ADMIN_LD; of another length than Table 7-6's ST_BAD_PARAM with Invalid Payload Length; in another mode ST_WRONG_MODE.
A closed mailbox takes nothing.
Log entry 44 says what is the model's choice. -/
def Obligations.kx_commands_are_checked_in_order : Prop :=
  ∀ (p : Port) (input rest : Bytes) (c : Instr) (op row : Nat) (x : Bytes) (s : State),
    (c, op, x) ∈ [(Instr.kxPowerOff p input, 0xC000, input), (.kxPowerOn p input, 0xC001, input), (.kxModeMaintEnter p rest, 0xC002, 3 :: rest),
      (.kxModeMaintExit p rest, 0xC002, 4 :: rest), (.kxModeRecovReq p rest, 0xC002, 5 :: rest), (.kxResetFw p rest, 0xC003, 1 :: rest),
      (.kxResetFull p rest, 0xC003, 2 :: rest), (.kxBattStatePut p input, 0xC031, input), (.kxUpdOpen p input, 0xC040, input),
      (.kxUpdPiece p input, 0xC041, input), (.kxUpdCommit p input, 0xC043, input), (.kxUpdAbandon p input, 0xC044, input),
      (.kxMargin p input, 0xC050, input), (.kxDramRetrain p input, 0xC051, input), (.kxSalvageOpen p input, 0xC060, input),
      (.kxSalvagePiece p input, 0xC061, input), (.kxSalvageCommit p input, 0xC062, input)] →
    kxRow op x = some row →
    (s.dev.kxArrives p = true → (s.dev.kxBefore p op x).portMay row p = false →
      exec c s = .next (s.put (Dev.settle (((s.dev.kxBefore p op x).authReject p row .noAuthority op).refuse p op 3 .noAuthority)))) ∧
    (s.dev.kxArrives p = true → (s.dev.kxBefore p op x).portMay row p = true → kxWrongLd p op = true →
      exec c s = .next (s.put (Dev.settle ((s.dev.kxBefore p op x).refuse p op 3 .notAdminLd)))) ∧
    (s.dev.kxArrives p = true → (s.dev.kxBefore p op x).portMay row p = true → kxWrongLd p op = false → kxLenOk op x = false →
      exec c s = .next (s.put (Dev.settle ((s.dev.kxBefore p op x).refuse p op 0x16 .badParam)))) ∧
    (s.dev.kxArrives p = true → (s.dev.kxBefore p op x).portMay row p = true → kxWrongLd p op = false → kxLenOk op x = true →
      (s.dev.kxBefore p op x).kxModeOk op = false →
      exec c s = .next (s.put (Dev.settle ((s.dev.kxBefore p op x).refuse p op 5 .wrongMode)))) ∧
    (∀ ld, p = .host ld → s.dev.rdy Rdy.MAILBOX = false → exec c s = .next (s.put (Dev.settle s.dev)))

/-- The budget and the wear balance (R38, R39, R51, R89): a recompute in SERVICE takes the limits of energy, region and configuration
anew, and B as their least unless forced to 0; a credit tick adds a millisecond's share of a day's wear, up to one day.
Log entries 12 and 61 say what is the model's choice. -/
def Obligations.budget_and_wear_are_computed : Prop :=
  (∀ (s : State) (le lr lc : Nat) (d : Dev),
    (s.dev.core.mode = .restore ∨ s.dev.core.mode = .service ∨ s.dev.core.mode = .maintenance) →
    s.dev.mainUp = true → le = s.dev.limEnergyOf s.dev.batt.elb (!s.dev.battValid) → lr = s.dev.limRegionOf → lc = s.dev.limCfgOf →
    d = s.dev.modFery (fun f => { f with
      limEnergy := le, limHard := s.dev.limHardOf s.dev.batt.elb, limRegion := lr, limCfg := lc, eInput := s.dev.batt.elb, eInvalid := !s.dev.battValid }) →
    d.bForced = false → 0 < min le (min lr lc) →
    exec .budgetRecompute s = .next (s.put (Dev.settle
      (d.modFery (fun f => { f with b := min le (min lr lc), bArm := min le (min lr lc)
                                    bind := if le = min le (min lr lc) then 0 else if lr = min le (min lr lc) then 1 else 2 })).restage))) ∧
  (∀ (s : State) (d : Dev), s.dev.fery.eng ≠ .off →
    d = (s.dev.modFery (fun f => { f with
      wear := min (s.dev.dailyBytes : Int) (f.wear + (((s.dev.dailyBytes + f.wearRem) / 86400000 : Nat) : Int))
      wearRem := (s.dev.dailyBytes + f.wearRem) % 86400000, creditMs := (f.creditMs + 1) % 1000 })).wearMark →
    d.fery.creditMs ≠ 0 → exec .wearCredit s = .next (s.put (Dev.settle d)))

/-- The loading of the map (R75, R77, R79): a whole directory takes every entry of its map granules, a damaged one repaired from the
copies in the NAND, and leads to the roll-forward of the copies in the stripes of the checkpoint's frontier, or, after a crossing, to the
merge of its index; a failed one leads to a rebuild from every unit; the ends of the roll-forward, the merge and the rebuild lead to the
normalisation, which sorts the copies the map does not record, leaves the map LIVE with every host granule UNRESTORED and sets READY_MAP;
each of these four completes in every state of its phase.
Log entries 58, 59, 88 and 94 say what is the model's choice. -/
def Obligations.the_map_is_loaded : Prop :=
  (∀ (s : State) (failed recon : Bool) (damaged : List (BitVec 26)) (d e : Dev),
    s.dev.gmap.phase = .loading → s.dev.gmap.normalising = false → d = (if recon then s.dev.latch Reg.GMAP_ERR 1 else s.dev) →
    e = d.modGmap (fun m => { m with dflt := GEntry.blank .clean, entries := d.dirEntries }) →
    (failed = true ∨ d.dirWhole = false → exec (.mapGranulesLoaded failed recon damaged) s = .next (s.put (Dev.settle d.mapRebuild))) ∧
    (failed = false → d.dirWhole = true → d.gmap.source ≠ 1 →
      exec (.mapGranulesLoaded failed recon damaged) s = .next (s.put (Dev.settle
        ((damaged.foldl (fun s g => s.fixLoaded g.toNat) e).modGmap (fun m => { m with phase := .rollfwd }))))) ∧
    (failed = false → d.dirWhole = true → d.gmap.source = 1 →
      exec (.mapGranulesLoaded failed recon damaged) s = .next (s.put (Dev.settle
        ((damaged.foldl (fun s g => s.fixLoaded g.toNat) ((e.indexOf (e.land.lastComplete.getD 0)).foldl Dev.mergeRec e)).modGmap
          (fun m => { m with normalising := true })))))) ∧
  (∀ s : State, s.dev.gmap.phase = .rollfwd → s.dev.gmap.normalising = false →
    exec .mapRollfwdEnd s = .next (s.put (Dev.settle
      (((s.dev.flsh.units.filter (fun p => p.1 < 2 ^ 32 && p.2.kind = 1 &&
        s.dev.ckptFront.contains (groupOf p.1))).foldl Dev.applyCopy s.dev).modGmap (fun m => { m with normalising := true }))))) ∧
  (∀ (s : State) (d : Dev), s.dev.gmap.phase = .rebuilding → s.dev.gmap.normalising = false →
    d = (s.dev.flsh.units.filter (fun p => p.2.kind = 1 && (decide (p.1 < 2 ^ 32) || s.dev.committedSeq p.2.crossSeq))).foldl Dev.applyCopy
      (s.dev.modGmap (fun m => { m with dflt := GEntry.blank .clean, entries := [] })) →
    exec .mapRebuildEnd s = .next (s.put (Dev.settle
      (((d.flsh.units.filter (fun p => p.2.kind = 2)).foldl (fun s p => s.supersede p.1 (2 ^ 20 + p.2.idx)) d).modGmap
        (fun m => { m with normalising := true }))))) ∧
  (∀ (s : State) (d : Dev), s.dev.gmap.normalising = true → d = (s.dev.modFlsh (fun x => { x with reclaim := [] })).sortOrphans.poisonLoad →
    exec .mapNormalisationEnd s = .next (s.put (Dev.settle
      (((((d.modGmap (fun m => { m with
          phase := .live, normalising := false, dflt := GEntry.blank .unrestored, unrestored := d.hostGranules, cache := []
          entries := (m.entries.map (fun p => (p.1, { p.2 with st := .unrestored, age := 0 }))).filter
            (fun p => decide (p.2 ≠ GEntry.blank .unrestored)) })).modLand (fun l => { l with bitmap := [] })).modFery
        (fun f => { f with fold := (if d.gmap.source = 1 then FoldWalk.index (d.indexOf (d.land.lastComplete.getD 0)) else FoldWalk.table 0)
                           foldTableDone := false, summary := [] })).firstFront.setReady Rdy.MAP).sessionStart.journalStep).evalAgain)))

/-- The map in service (R74, R81): a lookup write makes GMAP_LOOKUP busy and its end gives the entry's word; a cache flush ends with
the cache written back; the checkpoint interval asks for a checkpoint.
Log entry 38 says what is the model's choice. -/
def Obligations.the_map_is_looked_up_flushed_and_checkpointed : Prop :=
  (∀ (src : Src) (val : Word) (s : State), s.dev.accepts src Reg.GMAP_LOOKUP_IDX = true →
    exec (.gmapLookup src val) s = .next (s.put
      (((s.dev.setRegN Reg.GMAP_LOOKUP_IDX (val.toNat % 2 ^ 26)).modGmap (fun m => { m with lookupBusy := true, lookupDone := false })).writeStatus src .ok))) ∧
  (∀ (damaged : Bool) (s : State) (g : Nat) (d : Dev), s.dev.gmap.lookupBusy = true → g = s.dev.regF Reg.GMAP_LOOKUP_IDX 0 26 →
    d = s.dev.fixEntry (damaged && (s.dev.gmap.phase = .live || s.dev.gmap.phase = .saving || s.dev.gmap.phase = .saved) &&
      decide (g < s.dev.hostGranules)) g →
    exec (.gmapLookupDone damaged) s = .next (s.put (Dev.settle (d.modGmap (fun m => { m with
      lookupBusy := false, lookupDone := true, lookup := d.lookupWord g }))))) ∧
  (∀ (src : Src) (s : State), s.dev.accepts src Reg.GMAP_CACHE_CTL = true →
    exec (.gmapCacheFlush src) s = .next (s.put ((s.dev.setRegF Reg.GMAP_CACHE_CTL 1 1 1).writeStatus src .ok))) ∧
  (∀ s : State, s.dev.regF Reg.GMAP_CACHE_CTL 1 1 = 1 →
    exec .gmapCacheFlushDone s = .next (s.put (Dev.settle (s.dev.cacheFlush.setRegF Reg.GMAP_CACHE_CTL 1 1 0)))) ∧
  (∀ s : State, s.dev.gmap.phase = .live → s.dev.gmap.mapCommitted = true → s.dev.ckptBusy = false →
    exec .checkpointInterval s = .next (s.put (Dev.settle (s.dev.wantCkpt false))))

/-- The sweep (R85): a pass starts at its due time, or a timed pass that still runs sets FERY_ERR.SWEEP_LATE and is followed by the next;
at its end the candidates of its lines are judged, and a timed pass is counted with its duration.
Log entries 61 and 93 say what is the model's choice. -/
def Obligations.the_sweep_passes : Prop :=
  (∀ s : State, s.dev.fery.eng ≠ .off → s.dev.fery.eng ≠ .lent →
    (s.dev.fery.sweep = none →
      exec .sweepPassStart s = .next (s.put (Dev.settle (s.dev.modFery (fun f => { f with sweep := some (s.dev.ticks, true) }))))) ∧
    (∀ p timed, s.dev.fery.sweep = some (p, timed) →
      exec .sweepPassStart s = .next (s.put (Dev.settle (if timed then
        (s.dev.modFery (fun f => { f with sweepDue := true })).latch Reg.FERY_ERR 5
        else s.dev.modFery (fun f => { f with sweepDue := true })))))) ∧
  (∀ (start : Nat) (damaged : List (BitVec 26)) (s : State) (d e : Dev), s.dev.fery.sweep = some (start, true) →
    d = s.dev.fery.summary.foldl (fun s l => s.sweepLine true damaged l) s.dev →
    e = ((d.modFery (fun f => { f with sweep := none })).modFery (fun f => { f with sweepPasses := (f.sweepPasses + 1) % 65536 })).setRegF
      Reg.FERY_SWEEP_STATUS 0 16 (min 65535 (ceilDiv (d.ticks - start) 25000)) →
    e.fery.sweepDue = false → exec (.sweepPassEnd damaged) s = .next (s.put (Dev.settle e.untimedPass)))

/-- The engine's captures (R47, R82, R86, R92, R94, R103, R254, R268), in Table 4-1's order: a copy to issue again; the PINNED granule
that comes first, which is captured through the budget; a map granule that waits, then a checkpoint, or the next candidate; a fold and a
relocation take the next granule of their order; a group held open past its time is filled and launched; DRAIN_ONCE lists every DIRTY
granule; an access to an entry whose set of the map cache has 16 busy ways waits.
Log entries 12, 59, 60, 86, 90 and 92 say what is the model's choice. -/
def Obligations.the_engine_captures : Prop :=
  (∀ (g : BitVec 26) (damaged : Bool) (p : Pinned) (s : State) (d e : Dev),
    s.dev.fery.pinned.any (fun p => decide (p.g = g.toNat) && p.captured.isNone) = true →
    d = (s.dev.fixEntry damaged g.toNat).modFery (fun f => { f with
      pinned := f.pinned.map (fun p => if p.g = g.toNat && p.captured.isNone then { p with due := true } else p) }) →
    d.pickPinned = some p → d.pickReissue = none → d.hasRoom .thru 1 = true → d.cacheAccess p.g = some e →
    exec (.thruFerryCapture g damaged) s = .next (s.put (Dev.settle (Dev.thruGo 1023 (e.capturePinned p.g))))) ∧
  (∀ (damaged : Bool) (m : Nat) (s : State), s.dev.thruReady = false → s.dev.mapReady = true → s.dev.mapNext = some m →
    s.dev.hasRoom .mapGranule 1 = true →
    exec (.ferryCapture damaged) s = .next (s.put (Dev.settle (s.dev.mapCopy .mapGranule m).placeAll))) ∧
  (∀ (damaged : Bool) (s : State), s.dev.thruReady = false → s.dev.mapReady = false → s.dev.ckptGo = true →
    s.dev.hasRoom .checkpoint s.dev.ckptUnits = true →
    exec (.ferryCapture damaged) s = .next (s.put (Dev.settle s.dev.captureCkpt))) ∧
  (∀ (damaged : Bool) (g : Nat) (s : State) (d e : Dev), s.dev.thruReady = false → s.dev.mapReady = false → s.dev.ckptGo = false →
    s.dev.capturing = true → s.dev.bgGate = true → s.dev.hasRoom .background 1 = true → s.dev.takeCand 8193 = (d, some g) →
    (d.fixEntry damaged g).cacheAccess g = some e → e.candOk g = true →
    exec (.ferryCapture damaged) s = .next (s.put (Dev.settle (e.captureDirty g).untimedPass))) ∧
  (∀ (damaged : Bool) (c : Copy) (s : State) (e f : Dev), s.dev.pickReissue = some c → s.dev.hasRoom c.cls 1 = true →
    (s.dev.fixEntry damaged c.idx).cacheAccess c.idx = some e → f = e.modFery (fun f => { f with reissue := f.reissue.erase c }) →
    (c.cls = .background → (f.entry c.idx).st = .dirty → f.fery.parked.contains c.idx = false →
      (f.captureDirty c.idx).fery.nextCopy ≠ e.fery.nextCopy →
      exec (.ferryReissue damaged) s = .next (s.put (Dev.settle
        ((f.captureDirty c.idx).modCopy (e.fery.nextCopy + 1) (fun x => { x with reissued := true }))))) ∧
    (c.cls = .thru → (f.entry c.idx).st = .pinned → f.fery.pinned.any (fun p => decide (p.g = c.idx) && p.captured.isNone) = true →
      (f.capturePinned c.idx).fery.nextCopy ≠ e.fery.nextCopy →
      exec (.ferryReissue damaged) s = .next (s.put (Dev.settle
        ((f.capturePinned c.idx).modCopy (e.fery.nextCopy + 1) (fun x => { x with reissued := true })))))) ∧
  (∀ (g : BitVec 26) (s : State), exec (.ferryParkExpiry g) s =
    .next (s.put (Dev.settle (s.dev.modFery (fun f => { f with parked := f.parked.erase g.toNat }))))) ∧
  (∀ (src : Src) (s : State), s.dev.accepts src Reg.FERY_CTL = true →
    exec (.ferryDrainOnce src) s = .next (s.put (Dev.settle
      ((s.dev.modFery (fun f => { f with
        drainOnce := (s.dev.gmap.entries.filter (fun p => p.2.st = .dirty)).map (fun p => p.1) })).writeStatus src .ok)))) ∧
  (∀ (damaged : Bool) (g : Nat) (s : State) (d e : Dev), s.dev.foldsRun = true → s.dev.aboveFold = false → s.dev.hasRoom .fold 1 = true →
    s.dev.foldNext = (d, some g) → s.dev.refetching g = false → (d.fixEntry damaged g).cacheAccess g = some e →
    (e.entry g).xr = true → (e.entry g).st = .clean →
    exec (.foldCapture damaged) s = .next (s.put (Dev.settle (e.captureClean .fold g)))) ∧
  (∀ (damaged : Bool) (u : Nat × NUnit) (s : State), s.dev.relocRuns = true → s.dev.relocNext = some u →
    (s.dev.dieWorks (locCh u.1) (locDie u.1) = false → s.dev.flsh.rebuilt.contains u.1 = false →
      exec (.relocationCapture damaged) s = .next (s.put (Dev.settle (s.dev.rebuildStart u)))) ∧
    (s.dev.dieWorks (locCh u.1) (locDie u.1) = true ∨ s.dev.flsh.rebuilt.contains u.1 = true → s.dev.hasRoom .relocGranule 1 = true →
      (∀ e, u.2.kind = 1 → (s.dev.fixEntry damaged u.2.idx).cacheAccess u.2.idx = some e → e.relocatable u = true →
        exec (.relocationCapture damaged) s = .next (s.put (Dev.settle (e.captureClean .relocGranule u.2.idx)))) ∧
      (u.2.kind ≠ 1 →
        exec (.relocationCapture damaged) s = .next (s.put (Dev.settle (s.dev.mapCopy .relocMap u.2.idx).placeAll))))) ∧
  (∀ (g : Group) (damaged : List (BitVec 26)) (s : State),
    s.dev.flsh.groups.find? (fun g => decide (g.stream = 0) && !g.launched && !g.padded && !g.closing && decide (g.copies ≠ [])) = some g →
    exec (.groupCloseTimeout damaged) s = .next (s.put (Dev.settle ((s.dev.modFlsh (fun x => { x with
      groups := x.groups.map (fun y => if y.id = g.id then { y with closing := true } else y) })).fillClosing damaged))))

/-- The crossing's actions (R108, R110): quiesced, it records its times and queues its opening record; with the map flushed it
copies every changed map granule; it carries the granules in order, each as a copy charged to the balance.
Log entries 62, 63, 105, 108 and 109 say what is the model's choice. -/
def Obligations.the_crossing_carries : Prop :=
  (∀ (s : State) (t : Nat) (d : Dev), s.dev.xing.st = .quiesce → s.dev.xing.quiesced = false → t = min 65535 (s.dev.ticks - s.dev.xing.t0) →
    d = (s.dev.setRegN Reg.XING_QUIESCE_T (t + fieldAt 16 16 t)).modXing
      (fun x => { x with quiesced := true, ckptSeq := s.dev.gmap.ckptSeq }) →
    exec .hostQuiesced s = .next (s.put (Dev.settle (d.queueRecord .opening (.opening d.openingBytes))))) ∧
  (∀ (s : State) (ms : List Nat), s.dev.xing.st = .quiesce → s.dev.xing.flushed = false →
    ms = (s.dev.cacheFlush.gmap.mapDirty.map (fun p => p.1)).foldl (fun l m => insertN m l) [] →
    exec .crossingMapFlushed s = .next (s.put (Dev.settle
      (s.dev.cacheFlush.modXing (fun x => { x with flushed := true, st := .opened, toMap := ms, mapWritten := ms.length })).crossStep))) ∧
  (∀ (g : Nat) (rest : List Nat) (damaged : List (BitVec 26)) (s : State) (c d : Dev), s.dev.xing.st = .carry → s.dev.moversBusy < 64 →
    s.dev.fery.copies.length < 8192 → c = damaged.foldl (fun s g => s.carryRepair g.toNat) s.dev → c.xing.toCarry = g :: rest →
    d = (c.granuleCopy .xGranule g).debit →
    exec (.carryCapture damaged) s = .next (s.put (Dev.settle ((d.modXing (fun x => { x with
      toCarry := rest, walk := g + 1
      wseqFirst := if x.wseqFirst = 0 then d.fery.wseq else x.wseqFirst, wseqLast := d.fery.wseq })).crossStep))))

/-- The restore of a landing (R131, R134, R143): its walk takes the next UNRESTORED granule; a granule without a copy is filled with
zeros and is CLEAN; a write of the priority range that holds one starts the walk there; the SESSION_OPEN record opens the session.
Log entries 57 and 64 say what is the model's choice. -/
def Obligations.the_landing_restores : Prop :=
  (∀ (damaged : Bool) (g w : Nat) (s : State) (d : Dev), s.dev.walkRuns = true → s.dev.walkNext = some (g, w) →
    d = (s.dev.modLand (fun l => { l with walk := w, cursor := g + 1 })).restoreRepair damaged g →
    (d.entry g).st = .unrestored → exec (.restoreTake damaged) s = .next (s.put (Dev.settle (d.restoreTake g false d.ticks)))) ∧
  (∀ (damaged : Bool) (s : State), s.dev.walkRuns = true → s.dev.walkNext = none →
    exec (.restoreTake damaged) s = .next (s.put (Dev.settle (s.dev.modLand (fun l => { l with walk := 3 }))))) ∧
  (∀ (g : BitVec 26) (r : Restore) (s : State), s.dev.restore? g.toNat = some r → r.zero = true →
    exec (.restoreZeroFillDone g) s = .next (s.put (Dev.settle (((s.dev.restorePut r [] []).setSt g.toNat .clean).leaveFetching r)))) ∧
  (∀ (src : Src) (limit : Bool) (val : Word) (off : Nat) (s : State) (d : Dev),
    off = (if limit then Reg.XING_RESTORE_PRIO_LIMIT else Reg.XING_RESTORE_PRIO_BASE) → s.dev.accepts src off = true →
    d = (s.dev.setRegN off (val.toNat % 2 ^ 26)).writeStatus src .ok →
    exec (.restorePrioWrite src limit val) s = .next (s.put (Dev.settle
      (if d.land.st = .restoring ∧ d.prioBase < d.prioLimit ∧ (d.unrestoredIn d.prioBase d.prioLimit).isSome = true then
        d.modLand (fun l => { l with walk := 0, cursor := d.prioBase }) else d)))) ∧
  (∀ s : State, s.dev.land.sessionAsked = true → s.dev.land.sessionOpen = false → s.dev.log.st = 2 →
    (∀ e ∈ s.dev.log.queue, e.ty ≠ LT.SESSION_OPEN) →
    exec .sessionOpenWritten s = .next (s.put (Dev.settle
      (if s.dev.sessionHeld then (((s.dev.modLand (fun l => { l with sessionOpen := true })).reclaim
        (s.dev.modLand (fun l => { l with sessionOpen := true })).oldXMeta).journalStep).evalAgain else s.dev.sessionRecord))))

/-- The fabric's clock (R186, R190, R193, R195): a tide window refreshes the gauges, FAB_TIDE and its extremes and judges the alert; the
loop raises the core rail by 5 mV below TARGET up to 0.80 V and lowers it by 5 mV above TARGET plus HYST down to 0.70 V; a stall of a
live port is recorded, and at port 0 is a firmware fault; a write clears the extremes.
Log entries 10 and 43 say what is the model's choice. -/
def Obligations.the_fabric_clock_adapts : Prop :=
  (∀ (counts speeds : List Nat) (speed : Nat) (s : State) (a b d : Dev), s.dev.mainUp = true →
    speeds = (List.range 5).map (fun n => s.dev.gaugeSpeed n (counts.getD n 0)) → speed = speeds.foldl min 4095 →
    a = (List.range 5).foldl (fun s n => s.setRegN (Reg.FAB_TIDE_GAUGE + 4 * n)
      (speeds.getD n 0 + fieldAt 16 16 (min 65535 (counts.getD n 0)))) s.dev.drew →
    b = a.setRegN Reg.FAB_TIDE (speed + fieldAt 12 3 (((List.range 5).find? (fun n => decide (speeds.getD n 0 = speed))).getD 0) +
      fieldAt 15 1 1 + fieldAt 16 16 ((a.regF Reg.FAB_TIDE 16 16 + 1) % 65536)) →
    d = (b.setRegF Reg.FAB_TIDE_EXTREMES 0 12 (min speed (b.regF Reg.FAB_TIDE_EXTREMES 0 12))).setRegF Reg.FAB_TIDE_EXTREMES 16 12
      (max speed ((b.setRegF Reg.FAB_TIDE_EXTREMES 0 12 (min speed (b.regF Reg.FAB_TIDE_EXTREMES 0 12))).regF Reg.FAB_TIDE_EXTREMES 16 12)) →
    exec (.tideWindow counts) s = .next (s.put (Dev.settle
      (if speed < d.regF Reg.FAB_TIDE_CTL 16 12 then (d.latch Reg.FAB_ERR 1).logFab LT.FAB_SLOW else d)))) ∧
  (∀ (mv target hyst speed : Nat) (s : State), s.dev.mainUp = true → s.dev.avsMargined = false → s.dev.regF Reg.FAB_TIDE 15 1 = 1 →
    s.dev.regF Reg.FAB_AVS 31 1 = 1 → s.dev.chtr.calValid = true →
    mv = s.dev.regF Reg.FAB_AVS_STATUS 0 10 → target = clampN 768 1100 (s.dev.regF Reg.FAB_AVS 0 12) →
    hyst = s.dev.regF Reg.FAB_AVS 12 8 → speed = s.dev.regF Reg.FAB_TIDE 0 12 →
    (speed < target → mv < 800 → exec .avsStep s = .next (s.put (Dev.settle (s.dev.requestCore (mv + 5))))) ∧
    (speed < target → 800 ≤ mv → exec .avsStep s = .next (s.put (Dev.settle ((s.dev.latch Reg.FAB_ERR 2).logFab LT.FAB_AVS_LIMIT)))) ∧
    (target + hyst < speed → 700 < mv → exec .avsStep s = .next (s.put (Dev.settle (s.dev.requestCore (mv - 5))))) ∧
    (target ≤ speed → (speed ≤ target + hyst ∨ mv ≤ 700) → exec .avsStep s = .next (s.put (Dev.settle s.dev)))) ∧
  (∀ (port : Fin 16) (phase : Fin 4) (s : State), s.dev.portLive port.val = true →
    exec (.fabStall port phase) s = .next (s.put (Dev.settle
      (if port.val = 0 then (s.dev.recordStall port.val phase.val).fwFault 3 else s.dev.recordStall port.val phase.val)))) ∧
  (∀ (src : Src) (s : State), s.dev.accepts src Reg.FAB_TIDE_EXTREMES = true →
    exec (.tideExtremesClear src) s = .next (s.put ((s.dev.setRegN Reg.FAB_TIDE_EXTREMES 0xFFF).writeStatus src .ok)))

/-- A bank queue's head is issued (R201 to R204, R209 to R211, R218): refresh management that is due comes first; it wakes its rank,
activates its row where another is open and the spacing allows it, its commands enter the alert window of 64, and it leaves the row as
the predictor says. A rank or row left idle closes.
Log entries 46, 72, 95 and 96 say what is the model's choice. -/
def Obligations.dram_commands_are_issued : Prop :=
  (∀ (q : Fin 512) (e : QEntry) (rest : List QEntry) (s : State) (w a b : Dev), (s.dev.bank q.val).queue = e :: rest →
    s.dev.subServes (q.val / 64) = true → w = s.dev.setSub (q.val / 64) { s.dev.sub (q.val / 64) with st := .ready } →
    a = (Dev.rfmDue { w with dctl := { w.dctl with
          powerDown := w.dctl.powerDown.erase (q.val / 32), afterRef := false } } (q.val / 64)).raaManage q.val →
    ((a.bank q.val).opened = some e.row ∨ a.actSpaced q.val e.row = true) → b = a.openRow q.val e.row →
    exec (.dramCommandIssue q) s = .next (s.put (Dev.settle
      (((b.setBank q.val { b.bank q.val with
        queue := rest
        opened := if b.staysOpen { b.bank q.val with queue := rest } e.row then some e.row else none }).pushCmds (q.val / 64)
          [e.cmd q.val (!b.staysOpen { b.bank q.val with queue := rest } e.row)]).admitNext q.val 16)))) ∧
  (∀ (q : Fin 512) (s : State) (d : Dev), d = s.dev.rfmDue (q.val / 64) →
    ((d.bank q.val).opened = none → exec (.rowIdleClose q) s = .next (s.put d)) ∧
    (∀ r, (d.bank q.val).opened = some r → exec (.rowIdleClose q) s = .next (s.put
      ((d.setBank q.val { d.bank q.val with opened := none }).pushCmds (q.val / 64) [rowCmd .pre q.val r])))) ∧
  (∀ (sub : Fin 8) (rank : Fin 2) (s : State), (s.dev.sub sub.val).st = .ready → s.dev.regF Reg.DCTL_PWR 0 8 ≠ 0 →
    s.dev.rankIdle sub.val rank.val = true → rank.val ≤ s.dev.regF Reg.DCTL_CONFIG 9 1 →
    exec (.powerDownEntry sub rank) s = .next (s.put { s.dev with dctl := { s.dev.dctl with
      powerDown := insertN (2 * sub.val + rank.val) s.dev.dctl.powerDown
      banks := (s.dev.dctl.banks.map (fun p =>
        if p.1 / 32 = 2 * sub.val + rank.val && !s.dev.staysOpen p.2 (p.2.opened.getD 0) then (p.1, { p.2 with opened := none }) else p)).filter
        (fun p => decide (p.2 ≠ Bank.reset)) } })) ∧
  (∀ (sub : Fin 8) (s : State), (s.dev.core.mode = .restore ∧ s.dev.rdy Rdy.DRAM = true ∨ s.dev.core.mode = .maintenance) →
    s.dev.regF Reg.DCTL_SR_CTL 0 10 ≠ 0 → (s.dev.sub sub.val).st = .ready → s.dev.subIdle sub.val = true →
    exec (.selfRefreshEntry sub) s = .next (s.put (Dev.settle (s.dev.srEnter sub.val))))

/-- Refresh and temperature (R205 to R207, R210): each tREFI every READY subchannel refreshes and those in a replay or a pause owe one,
and after 8,192 the trackers clear; a hot poll latches and logs DRAM_HOT, and two normal polls end it.
Log entries 72, 95 and 96 say what is the model's choice. -/
def Obligations.dram_is_refreshed : Prop :=
  (∀ (s : State) (d : Dev), s.dev.dctl.subs.all (fun c => decide (c.st = .off)) = false →
    d = (List.range 8).foldl Dev.refreshTurn s.dev →
    (d.dctl.refreshes + 1 < 8192 →
      exec .refreshDue s = .next (s.put (Dev.settle
        { d with dctl := { d.dctl with refreshes := d.dctl.refreshes + 1, afterRef := true } }))) ∧
    (d.dctl.refreshes + 1 = 8192 →
      exec .refreshDue s = .next (s.put (Dev.settle ((List.range 8).foldl (fun s n => s.mapBanks n (fun b => { b with rh := [], flagged := [] }))
        { d with dctl := { d.dctl with refreshes := 0, afterRef := true } }))))) ∧
  (∀ (rates : List (BitVec 3 × Bool)) (top : Nat) (s : State) (a b : Dev), s.dev.dctl.subs.all (fun c => decide (c.st = .off)) = false →
    top = rates.foldl (fun m r => max m r.1.toNat) 0 →
    a = s.dev.setRegN Reg.DCTL_TEMP (top + fieldAt 8 4 (rates.findIdx (fun r => decide (r.1.toNat = top)))) →
    (rates.any (fun r => r.2) = true →
      b = (a.latch Reg.DCTL_ERR 8).logStd LT.DRAM_HOT (rates.findIdx (fun r => r.2) / 2) top →
      exec (.dramTempPoll rates) s = .next (s.put (Dev.settle
        { b with dctl := { b.dctl with hot := b.dctl.hot || decide (b.regF Reg.DCTL_REFRESH 16 1 = 1), normalReads := 0 } }))) ∧
    (rates.any (fun r => r.2) = false →
      exec (.dramTempPoll rates) s = .next (s.put (Dev.settle { a with dctl := { a.dctl with
        normalReads := min (a.dctl.normalReads + 1) 2, hot := a.dctl.hot && decide (a.dctl.normalReads + 1 < 2) } }))))

/-- A DRAM read that is captured with errors runs as the access it is for (R213 to R217, Table 9-3): a host read, the read of a merge,
a line of a copy, or a line of the reserved region; the refetched lines of a granule are written and its waiters go on.
Log entry 46 says what is the model's choice. -/
def Obligations.captured_errors_are_handled : Prop :=
  (∀ (addr : Dpa) (e0 e1 e2 : List (BitVec 40)) (ld : Fin 16) (tag : BitVec 16) (s : State),
    exec (.dramReadCapture addr (.host ld tag) e0 e1 e2) s =
      .next (s.put (Dev.settle (hostRead (s.dev.addrOf ld addr) false tag [e0, e1, e2] s.dev))) ∧
    ∀ (data : Line) (be : BitVec 64), exec (.dramReadCapture addr (.merge ld tag data be) e0 e1 e2) s =
      .next (s.put (Dev.settle (hostWrite (.writePtl be) (s.dev.addrOf ld addr) data false false tag [e0, e1, e2] s.dev)))) ∧
  (∀ (addr : Dpa) (e0 e1 e2 : List (BitVec 40)) (id : Nat) (s : State) (d : Dev) (x : ReadEnd),
    s.dev.capturesLine id (addr.toNat / 64 * 64) = true → s.dev.readBursts (addr.toNat / 64 * 64) true [e0, e1, e2] = (d, x) →
    exec (.dramReadCapture addr (.copy id) e0 e1 e2) s =
      .next (s.put (Dev.settle (if x = .ue then d.copyUe id (addr.toNat / 64 * 64) else d)))) ∧
  (∀ (addr : Dpa) (e0 e1 e2 : List (BitVec 40)) (s : State) (d : Dev) (x : ReadEnd),
    G * s.dev.hostGranules ≤ addr.toNat / 64 * 64 → addr.toNat / 64 * 64 < s.dev.installed →
    s.dev.readBursts (addr.toNat / 64 * 64) true [e0, e1, e2] = (d, x) →
    exec (.dramReadCapture addr .reserved e0 e1 e2) s = .next (s.put (Dev.settle
      (if x = .ue then d.reservedUe (addr.toNat / 64 * 64) (addr.toNat / 64 * 64 - G * d.hostGranules) else d)))) ∧
  (∀ (g : BitVec 26) (r : Refetch) (good : Bool) (s : State) (d e : Dev), s.dev.refetch? g.toNat = some r → r.result = some good →
    d = s.dev.modDctl (fun d => { d with refetches := d.refetches.filter (fun x => decide (x.g ≠ g.toNat)) }) →
    e = r.lines.foldl (fun s n => (if good then s.putLineOf g.toNat (d.copyData g.toNat).1 (d.copyData g.toNat).2 n
      else s.poisonMark (G * g.toNat + 64 * n)).enqueue (G * g.toNat + 64 * n) true Who.refetch) d →
    (good = true → exec (.cleanRefetchDone g) s = .next (s.put (Dev.settle
      (((e.readAgainAll g.toNat).refetchNext 16).note .retry).evalAgain))) ∧
    (∀ x first, good = false → x = e.poisonEvent g.toNat → first = G * g.toNat + 64 * r.lines.headD 0 →
      exec (.cleanRefetchDone g) s = .next (s.put (Dev.settle
        ((((x.logStd LT.DRAM_REFETCH_FAIL ((e.dramOf first).sc + 2 ^ 24 * first) 0).readAgainAll g.toNat).refetchNext 16).note .retry).evalAgain))))

/-- The subchannels (Table 9-4, R219 to R221, R229, R235): an alert in READY starts a replay; the third alert of a replay pauses the
subchannel for CA retraining with DRAM_CA_FAIL, and an alert in the replay after it fails the subchannel; while PAUSED or TRAINING an
alert is counted; in self-refresh, and with the subchannel off, set up or failed, it changes no state. The release of ALERT_n precharges
all banks and issues the window's commands again, the replay's end makes the subchannel READY, the retraining's end centres the CA delays
it found and replays once more; set-up ends in training.
Log entry 72 says what is the model's choice. -/
def Obligations.subchannels_recover_from_alerts : Prop :=
  ∀ (sub : Fin 8) (c : SubCh) (s : State), c = s.dev.sub sub.val →
    (c.st = .ready →
      exec (.caParityAlert sub) s = .next (s.put (Dev.settle
        (((s.dev.latch Reg.DCTL_ERR 4).setSub sub.val { c with alertLow := true }).startReplay sub.val false)))) ∧
    (c.st = .replay → c.retrained = false → c.alerts < 2 →
      exec (.caParityAlert sub) s = .next (s.put (Dev.settle
        (((s.dev.latch Reg.DCTL_ERR 4).setSub sub.val { c with alertLow := true }).setSub sub.val
          { ((s.dev.latch Reg.DCTL_ERR 4).setSub sub.val { c with alertLow := true }).sub sub.val with alerts := c.alerts + 1 })))) ∧
    (c.st = .replay → c.retrained = false → 2 ≤ c.alerts →
      exec (.caParityAlert sub) s = .next (s.put (Dev.settle
        ((((((s.dev.latch Reg.DCTL_ERR 4).setSub sub.val { c with alertLow := true }).setSub sub.val
          { ((s.dev.latch Reg.DCTL_ERR 4).setSub sub.val { c with alertLow := true }).sub sub.val with
            st := .paused, fromReplay := true, alerts := 0 }).latch Reg.DCTL_ERR 5).logStd LT.DRAM_CA_FAIL sub.val 0).latch
              Reg.DCTL_TRN_ERR 5)))) ∧
    (c.st = .paused ∨ c.st = .training →
      exec (.caParityAlert sub) s = .next (s.put (Dev.settle
        ((((s.dev.latch Reg.DCTL_ERR 4).setSub sub.val { c with alertLow := true }).countReg Reg.DCTL_REPLAY 0 16 1).setRegF
          Reg.DCTL_REPLAY 16 3 sub.val)))) ∧
    (c.st = .selfRefresh →
      exec (.caParityAlert sub) s = .next (s.put (Dev.settle (s.dev.setSub sub.val { c with alertLow := true })))) ∧
    (c.st = .off ∨ c.st = .init ∨ c.st = .failed → exec (.caParityAlert sub) s = .next (s.put (Dev.settle s.dev))) ∧
    (c.st = .replay → c.retrained = true →
      exec (.caParityAlert sub) s = .next (s.put (Dev.settle
        (((s.dev.latch Reg.DCTL_ERR 4).setSub sub.val { c with alertLow := true }).failSub sub.val)))) ∧
    (c.st = .replay → (s.dev.setSub sub.val { c with alertLow := false }).sub sub.val = { c with alertLow := false } →
      exec (.alertRelease sub) s = .next (s.put (Dev.settle
        ((((s.dev.setSub sub.val { c with alertLow := false }).closeRows sub.val).pushCmds sub.val [rowCmd .pre (64 * sub.val) 0]).reissueAll
          sub.val)))) ∧
    (c.st = .replay → c.alertLow = false →
      exec (.replayEnd sub) s = .next (s.put (Dev.settle
        ((s.dev.setSub sub.val { c with st := .ready, alerts := 0, retrained := false }).lateRefresh sub.val).dramCheck))) ∧
    (∀ found, c.st = .paused → c.fromReplay = true →
      exec (.caRetrainEnd sub found) s = .next (s.put (Dev.settle
        ((found.foldl (fun s f => s.caCentre sub.val f) s.dev).startReplay sub.val true)))) ∧
    (c.st = .init → exec (.dramInitDone sub) s = .next (s.put (Dev.settle
      ((s.dev.setSub sub.val { c with st := .training }).setCas (s.dev.regF Reg.DCTL_FREQ_REQ 0 4)))))

/-- Training (R227, R228, R231, R233, R237): in a mode that trains, a GO starts a gather on the subchannels that may train; its end
records each lane's eye from its passing points, rewrites the pattern rows and makes the results pending; they are applied, discarded, or
dropped after 100 ms. A subchannel's tracking turn pauses it after a refresh, one subchannel at a time, and its end makes it READY.
Log entries 73, 98 and 99 say what is the model's choice. -/
def Obligations.training_gathers_and_applies : Prop :=
  (∀ (src : Src) (val : Word) (op : Nat) (m : BitVec 8) (s : State) (d : Dev), s.dev.accepts src Reg.DCTL_TRN_CMD = true →
    op = bitsOf val.toNat 8 4 → 1 ≤ op → op ≤ 7 → (s.dev.putTrnCmd val).trainMode = true → (s.dev.putTrnCmd val).trn.gather = none →
    d = (s.dev.putTrnCmd val).srExit (BitVec.ofNat 8 (bitsOf val.toNat 0 8)) →
    m = ((subsOf (BitVec.ofNat 8 (bitsOf val.toNat 0 8))).filter d.trainable).foldl (fun a n => a ||| (1#8 <<< n)) 0#8 → m ≠ 0 →
    exec (.dctlTrnGo src val) s = .next (s.put (Dev.settle
      ((({ d with trn := { d.trn with gather := some (m, op) } } : Dev).setRegF Reg.DCTL_TRN_CMD 12 1 1).writeStatus src .ok)))) ∧
  (∀ (src : Src) (val : Word) (op : Nat) (s : State), s.dev.accepts src Reg.DCTL_TRN_CMD = true →
    op = bitsOf val.toNat 8 4 → (op = 0 ∨ 7 < op) →
    exec (.dctlTrnGo src val) s = .next (s.put (Dev.settle ((s.dev.putTrnCmd val).writeStatus src .badParam)))) ∧
  (∀ (passes : List (Fin 320 × BitVec 128)) (m : BitVec 8) (op pat : Nat) (s : State) (d : Dev), s.dev.trn.gather = some (m, op) →
    pat = s.dev.regF Reg.DCTL_TRN_SWEEP 24 4 →
    d = (subsOf m).foldl (fun s n => (List.range 40).foldl (fun s l => s.recordLane (40 * n + l)
      (((passes.find? (fun e => decide (e.1.val = 40 * n + l))).map (fun e => e.2)).getD 0)) s) s.dev →
    exec (.gatherEnd passes) s = .next (s.put (Dev.settle
      (({ d with trn := { d.trn with
        gather := none, pending := d.trn.pending ||| m
        pendBy := (subsOf m).foldl (fun l n => insertK n (op, d.ticks) l) d.trn.pendBy
        rows := (subsOf m).foldl (fun l n => insertK n (if pat ≤ 3 then pat else 0) l) d.trn.rows } } : Dev).setRegF
        Reg.DCTL_TRN_CMD 12 1 0)))) ∧
  (∀ (src : Src) (val : Word) (s : State) (m : BitVec 8) (d : Dev) (l : List Nat), s.dev.accepts src Reg.DCTL_TRN_CMD = true →
    m = BitVec.ofNat 8 (bitsOf val.toNat 0 8) → d = s.dev.putTrnCmd val → l = (subsOf (m &&& d.trn.pending)).filter d.trainable →
    (d.trainMode = true → l ≠ [] →
      exec (.dctlTrnApply src val) s = .next (s.put (Dev.settle
        (((l.foldl (fun s n => (s.applySub n).openTrained n) d).trnSettle).writeStatus src .ok)))) ∧
    (d.trainMode = false → exec (.dctlTrnApply src val) s = .next (s.put (Dev.settle (d.writeStatus src .wrongMode)))) ∧
    exec (.dctlTrnDiscard src val) s = .next (s.put (Dev.settle ((d.trnDrop m).writeStatus src .ok)))) ∧
  (∀ s : State, exec .trnResultsTimeout s = .next (s.put (Dev.settle (s.dev.trnDiscardOf s.dev.oldestResults)))) ∧
  (∀ (sub : Fin 8) (counts : List (Fin 10 × BitVec 16)) (passes : List (Fin 40 × Bool × Bool)) (s : State),
    (s.dev.core.mode = .service ∨ s.dev.core.mode = .maintenance) → s.dev.regF Reg.DCTL_TRN_PERIODIC 31 1 = 1 →
    (s.dev.trn.turn = sub.val ∨ sub.val ∈ s.dev.trn.skipped) →
    ((s.dev.sub sub.val).st = .ready → s.dev.dctl.afterRef = true → (List.range 8).any s.dev.tracking = false →
      exec (.periodicPause sub counts passes) s = .next (s.put (Dev.settle
        (((((s.dev.setSub sub.val { s.dev.sub sub.val with st := .paused, fromReplay := false }).wrapReg Reg.DCTL_TRN_DRIFT 16 16 1).nextTurn
          sub.val).track sub.val counts passes))))) ∧
    ((s.dev.sub sub.val).st = .selfRefresh →
      exec (.periodicPause sub counts passes) s = .next (s.put (Dev.settle
        { s.dev.nextTurn sub.val with trn := { (s.dev.nextTurn sub.val).trn with
          skipped := insertN sub.val (s.dev.nextTurn sub.val).trn.skipped } })))) ∧
  (∀ (sub : Fin 8) (s : State), s.dev.tracking sub.val = true →
    exec (.periodicPauseEnd sub) s = .next (s.put (Dev.settle
      ((s.dev.setSub sub.val { s.dev.sub sub.val with st := .ready }).lateRefresh sub.val))))

/-- A frequency change (R236 to R238, Table 10-3): accepted in MAINTENANCE for a speed that the components have, it starts or is
deferred until it may start; once every subchannel is in self-refresh the PLL is relocked, and a stored set of the new speed is loaded and
ends it, while without one every subchannel leaves self-refresh to be trained.
Log entries 73 and 97 say what is the model's choice. -/
def Obligations.the_memory_speed_changes : Prop :=
  (∀ (src : Src) (val : Word) (t : Nat) (s : State) (d : Dev), s.dev.accepts src Reg.DCTL_FREQ_REQ = true → t = bitsOf val.toNat 0 4 →
    s.dev.core.mode = .maintenance → 1 ≤ t → t ≤ s.dev.regF Reg.DCTL_CONFIG 4 4 → (s.dev.trn.phase = .idle ∨ s.dev.trn.phase = .deferred) →
    d = (s.dev.setRegF Reg.DCTL_FREQ_REQ 0 4 t).writeStatus src .ok →
    exec (.freqChangeRequest src val) s = .next (s.put (Dev.settle
      (if d.freqClear then d.freqStart else { d with trn := { d.trn with phase := .deferred } })))) ∧
  (∀ (src : Src) (val : Word) (s : State), s.dev.accepts src Reg.DCTL_FREQ_REQ = true → s.dev.core.mode ≠ .maintenance →
    exec (.freqChangeRequest src val) s = .next (s.put (Dev.settle (s.dev.writeStatus src .wrongMode)))) ∧
  (∀ s : State, s.dev.trn.phase = .deferred → s.dev.core.mode = .maintenance → s.dev.freqClear = true →
    exec .freqChangeStart s = .next (s.put (Dev.settle s.dev.freqStart))) ∧
  (∀ s : State, s.dev.trn.phase = .enter → s.dev.allSubs (fun c => decide (c.st = .selfRefresh) || decide (c.st = .failed)) = true →
    exec .freqEnterDone s = .next (s.put (Dev.settle { s.dev with trn := { s.dev.trn with phase := .relock } }))) ∧
  (∀ (t : Nat) (s : State), s.dev.trn.phase = .relock → t = s.dev.trn.newSpeed → (s.dev.trn.setA = t ∨ s.dev.trn.setB = t) →
    exec .pllLock s = .next (s.put (Dev.settle ((((s.dev.loadSet t).setCas t).freqEnd t 1).logStd LT.DRAM_FREQ_CHANGE 0 t)))) ∧
  (∀ (t : Nat) (s : State) (d : Dev), s.dev.trn.phase = .relock → t = s.dev.trn.newSpeed → s.dev.trn.setA ≠ t → s.dev.trn.setB ≠ t →
    d = { s.dev with trn := { s.dev.trn with phase := .train, repeated := 0 } } →
    exec .pllLock s = .next (s.put (Dev.settle
      (((d.setCas t).mapSubs (fun c => if c.st = .selfRefresh then { c with st := .paused, fromReplay := false } else c)).resetDone
        (List.range 8)))))

/-- A NAND die (R259, R262, R270 to R272, Table 11-7): its check ends with the die IDLE where the identity matches and the channel's PHY
trains, with the factory bad blocks it reports taken at the first start, else it or its channel is lost; an idle die takes the first
operation of its queue whose share is free; a completion with a status the profile allows counts, ends the operation and what hung on
it, and the next starts. READY_NAND sets once every die is checked, with the rows a power loss left undefined recorded and closed.
Log entries 13, 65, 66, 100, 104 and 107 say what is the model's choice. -/
def Obligations.nand_dies_work : Prop :=
  (∀ (ch : Fin 16) (d : Fin 8) (id : Option Bytes) (phy : Bool) (bad : List (Fin 4 × Fin 4096)) (s : State) (e f : Dev),
    (s.dev.die ch.val d.val).st = .init → s.dev.flsh.chLost.contains ch.val = false →
    e = s.dev.modDie ch.val d.val (fun c => { c with cur := none }) → f = e.modDie ch.val d.val (fun c => { c with st := .idle }) →
    (id = none → exec (.nandDieCheckEnd ch d id phy bad) s = .next (s.put (Dev.settle (e.dropDie ch.val d.val 0x31)))) ∧
    (id = some e.geo.idMatch → phy = true → exec (.nandDieCheckEnd ch d id phy bad) s =
      .next (s.put (Dev.settle (if f.flsh.factoryDone then f else
        f.factoryBlocks ((bad.filter (fun b => decide (b.2.val < f.geo.blocks))).map (fun b => mkLoc ch.val d.val b.1.val b.2.val 0)))))) ∧
    (id = some e.geo.idMatch → phy = false → exec (.nandDieCheckEnd ch d id phy bad) s =
      .next (s.put (Dev.settle (e.dropChannel ch.val 0x31))))) ∧
  (∀ (ch : Fin 16) (d : Fin 8) (x : Desc) (s : State), (s.dev.die ch.val d.val).st = .idle →
    (s.dev.die ch.val d.val).queue.find? (s.dev.shareFree ch.val) = some x →
    exec (.nandOpIssue ch d) s = .next (s.put (Dev.settle (s.dev.startDesc ch.val d.val x .busy)))) ∧
  (∀ (ch : Fin 16) (d : Fin 8) (x : Desc) (c : Instr) (st : NandStatus) (s : State) (a b e : Dev) (gone : List (Nat × Nat × Desc)),
    c = .nandOpComplete ch d st ∧ s.dev.mayEnd st = true ∨ c = .nandOpTimeout ch d ∧ st = .timeout →
    (s.dev.die ch.val d.val).cur = some x → (s.dev.die ch.val d.val).st ≠ .init →
    a = (s.dev.dieCounts ch.val d.val x st).modDie ch.val d.val (fun c => { c with cur := none }) →
    (if st = .timeout then a.latch Reg.FLSH_ERR 8 else a).descEnd ch.val d.val x st = (b, gone) → e = Dev.goneAll goneFuel gone b →
    exec c s = .next (s.put (Dev.settle
      ((if (e.die ch.val d.val).works && (decide (2 ≤ (e.die ch.val d.val).timeouts) || decide (4 ≤ (e.die ch.val d.val).fails.length)) then
          e.dropDie ch.val d.val (nandCode st) else e).dieNext ch.val d.val).evalAgain))) ∧
  (∀ (ch : Fin 16) (d : Fin 8) (loc : Nat) (x y : Desc) (rest : List Desc) (g : Nat) (slc : Bool) (s : State),
    (s.dev.die ch.val d.val).st = .busy → (s.dev.die ch.val d.val).cur = some x → x.op = .erase loc →
    (s.dev.die ch.val d.val).queue = y :: rest → y.demand = true → y.op = .read loc slc (.refetch g) →
    s.dev.minRun (s.dev.die ch.val d.val) = true →
    exec (.nandSuspend ch d) s = .next (s.put (Dev.settle
      ((s.dev.modDie ch.val d.val (fun c => { c with st := .suspended, susp := some x, cur := none })).wrapReg Reg.FLSH_SUSPEND 16 16 1)))) ∧
  (∀ (s : State) (a b c d : Dev), s.dev.flsh.st = 1 → s.dev.flsh.dies.any (fun c => decide (c.st = .init)) = false → s.dev.flshFailed = false →
    a = ((s.dev.flsh.rows.filter (fun p => decide (p.2.st = .undefinedRow))).map (fun p => p.1)).foldl Dev.logUndefined s.dev →
    b = ((a.flsh.cut.map (fun c => rowKey (c / 2 ^ 14) (bitsOf c 11 3))).eraseDups).foldl Dev.closeRow a →
    c = ((b.flsh.rows.filter (fun p => b.isXr (p.1 / 8) && decide (p.2.st = .opened))).map (fun p => p.1)).foldl
      (fun s k => s.modRow k (fun r => { r with st := .closed })) b →
    d = (c.flsh.blockErase.filter (fun p => p.2.2)).foldl (fun s p => (s.latch Reg.FLSH_ERR 10).logStd LT.NAND_UNDEFINED p.1 0) c →
    exec .readyNand s = .next (s.put (Dev.settle
      (((d.modFlsh (fun x => { x with st := 2, cut := [], factoryDone := true })).endurance.setReady Rdy.NAND).journalStep).evalAgain)))

/-- The start of the charter store (R277, R278, R299, Table 12-11): the 10 ms wait, then discovery to READY at the protocol that SFDP gives,
or to FAILED; REFCLK stable for 1 ms clocks the island, and its loss ends that at once where no operation runs.
Log entry 67 says what is the model's choice. -/
def Obligations.the_charter_store_starts : Prop :=
  (∀ s : State, s.dev.chtr.st = 1 → exec .partReady s = .next (s.put (s.dev.modChtr (fun c => { c with partReady := true })))) ∧
  (∀ (xspi : Bool) (density : Fin 4) (jedec : BitVec 24) (page512 : Bool) (s : State), s.dev.chtr.st = 1 → s.dev.chtr.partReady = true →
    (density.val ≠ 0 → exec (.chtrDiscoveryDone true xspi density jedec page512) s = .next (s.put (Dev.settle
      (s.dev.modChtr (fun c => { c with
        st := 2, proto := if xspi then 2 else 1, density := density.val, jedec := jedec.toNat, page512 := page512
        refclk := c.refStable })).chNext))) ∧
    exec (.chtrDiscoveryDone false xspi density jedec page512) s = .next (s.put (Dev.settle
      ((s.dev.modChtr (fun c => { c with st := 3, jedec := jedec.toNat })).latch Reg.CHTR_ERR 4)))) ∧
  (∀ (s : State) (c : ChtrSt), c = s.dev.chtr → c.st = 2 →
    exec .chtrRefclkStable s = .next (s.put (s.dev.modChtr (fun c => { c with refStable := true, refclk := true, refLost := false }))) ∧
    exec .chtrRefclkLost s = .next (s.put (s.dev.modChtr
      (fun x => if c.cur.isSome then { x with refStable := false, refLost := true } else { x with refStable := false, refclk := false }))))

/-- A store descriptor (R279, R281, R285, R297, R303): its words are loaded and, where the store takes it, it is queued; an
operation that ends tells its requester, one that times out is recorded, and the second in a row fails the store; an ACK removes the
oldest completion.
Log entry 67 says what is the model's choice. -/
def Obligations.store_operations_run : Prop :=
  (∀ (src : Src) (tag : Byte) (lenM1 : BitVec 16) (addr buf : Word) (ram : Bytes) (c : Instr) (op : Nat) (l : BitVec 16) (w : Word) (r : Bytes)
    (b : Option Nat) (s : State) (d : Dev),
    (c, op, l, w, r) ∈ [(Instr.chtrRead src tag lenM1 addr buf, 1, lenM1, buf, []), (.chtrProgram src tag lenM1 addr buf ram, 2, lenM1, buf, ram),
      (.chtrErase4k src tag addr, 4, 0, 0xFFFFFFFF, []), (.chtrErase64k src tag addr, 5, 0, 0xFFFFFFFF, []),
      (.chtrReadSfdp src tag lenM1 addr buf, 6, lenM1, buf, [])] →
    s.dev.accepts src Reg.CHTR_SUBMIT = true → d = s.dev.chLoaded src op tag l addr w r →
    d.chPort (chIdx src) = { s.dev.chPort (chIdx src) with
      d0 := BitVec.ofNat 32 (op + fieldAt 8 8 tag.toNat + fieldAt 16 16 l.toNat), d1 := addr, d2 := w } →
    chBuf src op w.toNat (chLen op (l.toNat + 1)) = some b → d.chTakes src op addr.toNat (l.toNat + 1) = true →
    exec c s = .next (s.put (Dev.settle
      ((d.chQueue (d.chDescOf src op addr.toNat (l.toNat + 1) (.native tag.toNat) b)).writeStatus src .ok)))) ∧
  (∀ (x : ChDesc) (bad : Bool) (s : State) (d : Dev) (st : St), s.dev.chtr.cur = some x → x.req ≠ .logbook →
    (s.dev.modChtr (fun c => { c with cur := none, timeouts := 0 })).chDo x bad = (d, st) →
    exec (.chtrOpComplete bad) s = .next (s.put (Dev.settle (d.storeTold x st).islandClock.chNext))) ∧
  (∀ (x : ChDesc) (s : State) (d : Dev), s.dev.chtr.cur = some x → x.req ≠ .logbook →
    d = ((((s.dev.chCut.modChtr (fun c => { c with cur := none, timeouts := c.timeouts + 1 })).chErr 3 x.addr).storeTold x .storeTimeout).logStd
      LT.CS_OP_FAIL x.addr St.storeTimeout.code).islandClock →
    exec .chtrOpTimeout s = .next (s.put (Dev.settle (if d.chtr.timeouts = 2 then d.storeFail else d.chNext)))) ∧
  (∀ (src : Src) (s : State), s.dev.accepts src Reg.CHTR_CMPL_ACK = true →
    exec (.chtrCmplAck src) s = .next (s.put
      ((s.dev.modChPort (chIdx src) (fun p => { p with cmpl := p.cmpl.drop 1 })).writeStatus src .ok)))

/-- The protected regions and their passwords (R294 to R296, R303): a read or a write of a block by its owner is queued, or answered
with why not; a password is set, checked, dropped, cleared or erased with its region, and the password registers clear after each
command; five wrong ones lock the region out until the lockout expires.
Log entries 39 and 69 say what is the model's choice. -/
def Obligations.protected_regions_and_passwords : Prop :=
  (∀ (src : Src) (p : Port) (pr block : Nat) (s : State), s.dev.accepts src Reg.CHTR_PR_CMD = true →
    pr = s.dev.regF Reg.CHTR_PR_ADDR 0 3 → block = s.dev.regF Reg.CHTR_PR_ADDR 8 10 →
    s.dev.actsFor src = some p → (p = .yard ∨ pr = ownRegion p) → s.dev.chtr.prBusy = false →
    (∀ st, s.dev.prRefusal pr block = some st →
      exec (.chtrPrRead src) s = .next (s.put (Dev.settle ((s.dev.prEnd st).writeStatus src st))) ∧
      exec (.chtrPrWrite src) s = .next (s.put (Dev.settle ((s.dev.prEnd st).writeStatus src st)))) ∧
    (s.dev.prRefusal pr block = none →
      exec (.chtrPrRead src) s = .next (s.put (Dev.settle
        (((s.dev.modChtr (fun c => { c with prBusy := true })).chQueue (prDesc pr block (.prRead pr block (chIdx src)))).writeStatus src .ok))) ∧
      exec (.chtrPrWrite src) s = .next (s.put (Dev.settle
        (((s.dev.modChtr (fun c => { c with prBusy := true })).chQueue
          (prDesc pr block (.prWrite pr block (s.dev.chPort (chIdx src)).buf))).writeStatus src .ok))))) ∧
  (∀ (p : Port) (region : Bool) (pr : Nat) (s : State) (d : Dev), s.dev.accepts (.port p) Reg.CHTR_PW_CMD = true →
    pr = (if region then 4 else 3) → s.dev.rdy Rdy.CIPHER = true → d = s.dev.writeStatus (.port p) .ok →
    (ownRegion p = pr → d.pwAllowed pr = true → d.prLocked pr = false →
      exec (.pwSet (.port p) region) s = .next (s.put (Dev.settle
        (d.chQueue (prDesc 2 1 (.pwSet pr (some (pwVerifier pr d.password))))).clearPw))) ∧
    (∀ v, ownRegion p = pr → (d.pwOf pr).lockout = none → (d.pwOf pr).verifier = some v →
      (v = pwVerifier pr d.password → exec (.pwUnlock (.port p) region) s = .next (s.put (Dev.settle
        ((d.modPw pr (fun r => { r with opened := true, fails := 0 })).pwEnd .ok).clearPw))) ∧
      (v ≠ pwVerifier pr d.password → exec (.pwUnlock (.port p) region) s = .next (s.put (Dev.settle
        ((((d.modPw pr (fun r => { r with
          fails := min 5 ((d.pwOf pr).fails + 1), lockout := if min 5 ((d.pwOf pr).fails + 1) = 5 then some d.ticks else none })).latch
            Reg.CHTR_ERR 7).logStd LT.PW_FAIL pr St.pwBad.code).pwEnd .pwBad).clearPw)))) ∧
    (ownRegion p = pr → exec (.pwLock (.port p) region) s = .next (s.put
      ((d.modPw pr (fun r => { r with opened := false })).pwEnd .ok).clearPw)) ∧
    (ownRegion p = pr → d.prLocked pr = false →
      exec (.pwClear (.port p) region) s = .next (s.put (Dev.settle (d.chQueue (prDesc 2 1 (.pwSet pr none))).clearPw))) ∧
    (p = .yard → exec (.pwEraseRegion (.port p) region) s = .next (s.put (Dev.settle (d.chQueue (prDesc 2 1 (.prErase pr))).clearPw)))) ∧
  (∀ (region : Bool) (s : State), exec (.pwLockoutExpiry region) s = .next (s.put
    (s.dev.modPw (if region then 4 else 3) (fun r => { r with lockout := none }))))

/-- The store services of the Slipway ROM (R298, Table 12-10): read, program, erase and SFDP submit a descriptor for the firmware;
the CRC service answers in A1 at once; bad arguments answer ST_BAD_PARAM in A1.
Log entry 68 says what is the model's choice. -/
def Obligations.rom_services_answer : Prop :=
  (∀ (addr : Word) (buf : BitVec 18) (len : BitVec 17) (len9 : BitVec 9) (big : Bool) (ram : Bytes) (pc : Word) (c : Instr) (op n bf : Nat) (r : Bytes)
    (b : Option Nat) (s : State) (d : Dev),
    (c, op, n, bf, r) ∈ [(Instr.romRead addr buf len pc, 1, len.toNat, buf.toNat, []), (.romProgram addr buf ram pc, 2, ram.length, buf.toNat, ram),
      (.romErase addr big pc, if big then 5 else 4, 0, 0, []), (.romSfdp addr buf len9 pc, 6, len9.toNat, buf.toNat, [])] →
    s.dev.core.fwState = 2 → (op = 1 → 1 ≤ n ∧ n ≤ 65536) → (op = 2 → 1 ≤ n ∧ n ≤ 256 ∧ addr.toNat % 256 + n ≤ 256) →
    (op = 6 → 1 ≤ n ∧ n ≤ 256) →
    d = ({ s.dev with fram := Memory.writeBytes 0 s.dev.fram bf (r.take (0x40000 - bf)) } : Dev).modChtr (fun c => { c with romA := none }) →
    chBuf (.firmware pc) op (0x20000000 + bf) (chLen op n) = some b → d.chTakes (.firmware pc) op addr.toNat n = true →
    exec c s = .next (s.put (Dev.settle (d.chQueue (d.chDescOf (.firmware pc) op addr.toNat n .romService b))))) ∧
  (∀ (ram : Bytes) (init : Word) (s : State), s.dev.core.fwState = 2 →
    exec (.romCrc32c ram init) s = .next (s.put
      (s.dev.modChtr (fun c => { c with romA := some (0, ram.foldl (crcStep 0) init.toNat ^^^ 0xFFFFFFFF) })))) ∧
  (∀ (addr : Word) (buf : BitVec 18) (pc : Word) (s : State), s.dev.core.fwState = 2 →
    exec (.romRead addr buf 0 pc) s = .next (s.put (Dev.settle (s.dev.modChtr (fun c => { c with romA := some (1, St.badParam.code) })))))

/-- The cipher engine (R306, R307, R310, R311, R314 to R316): a waiting message takes a free lane, and a demand message one of the background's; an
end gives the message's result to what it was for; ADVANCE below the limit starts the next epoch; a reservation whose two blocks are
written raises the limit, a failed one waits for its retry.
Log entries 70 and 71 say what is the model's choice. -/
def Obligations.the_cipher_engine_runs : Prop :=
  (∀ (m : Msg) (n : Nat) (s : State), s.dev.sealsExhausted = false → s.dev.freeLane = some n →
    (s.dev.ciph.waiting.find? (fun m => s.dev.msgDemand m && s.dev.msgMay m) = some m ∨
      s.dev.ciph.waiting.find? (fun m => s.dev.msgDemand m && s.dev.msgMay m) = none ∧ s.dev.ciph.suspended = [] ∧
        s.dev.ciph.waiting.find? s.dev.msgMay = some m) →
    exec .cipherMessageStart s = .next (s.put (Dev.settle (s.dev.takeMsg n m)))) ∧
  (∀ (lane : Fin 16) (m : Msg) (g : Nat) (s : State) (d : Dev), s.dev.ciph.lanes.getD lane.val none = some m →
    d = s.dev.modCiph (fun c => { c with lanes := c.lanes.set lane.val none }) →
    (m.who = .restore g →
      exec (.cipherMessageDone lane .good) s = .next (s.put (Dev.settle (d.restoreGood g))) ∧
      exec (.cipherMessageDone lane .tagFail) s = .next (s.put (Dev.settle ((d.tagFailed true).restoreFail g true))) ∧
      exec (.cipherMessageDone lane .metaFail) s = .next (s.put (Dev.settle (d.restoreFail g false)))) ∧
    (m.who = .refetch g →
      exec (.cipherMessageDone lane .good) s = .next (s.put (Dev.settle (d.refetchResult g true))) ∧
      exec (.cipherMessageDone lane .metaFail) s = .next (s.put (Dev.settle (d.refetchFail g)))) ∧
    (∀ (id : Nat) (c : Copy) (res : MsgEnd), m.who = .copy id → d.copy? id = some c → c.cls.stream.isSome = true →
      exec (.cipherMessageDone lane res) s = .next (s.put (Dev.settle (d.copySealed id))))) ∧
  (∀ (src : Src) (s : State), s.dev.accepts src Reg.CIPH_CTL = true → s.dev.ciph.st = .active →
    (s.dev.ciph.epoch < s.dev.ciph.limit →
      exec (.ciphAdvance src) s = .next (s.put (Dev.settle (s.dev.writeStatus src .ok).cipherTrigger))) ∧
    (s.dev.ciph.limit ≤ s.dev.ciph.epoch →
      exec (.ciphAdvance src) s = .next (s.put (Dev.settle (s.dev.writeStatus src .notReady))))) ∧
  (∀ (limit starts : Nat) (s : State) (d : Dev), s.dev.ciph.reserving = some limit → s.dev.ciph.st = .reserve →
    starts = (if s.dev.ciph.reserved then s.dev.ciph.starts else s.dev.ciph.starts + 1) →
    d = ((s.dev.modCiph (fun c => { c with reserving := none })).putEpochBlock 2 limit starts).putEpochBlock 3 limit starts →
    d.ciph.st = .reserve →
    exec (.epochReservationCommit 2) s = .next (s.put (Dev.settle
      (((d.modCiph (fun c => { c with limit := limit, starts := starts })).modCiph (fun c => { c with st := .active, reserved := true })).reserveMore.evalAgain)))) ∧
  (∀ (limit : Nat) (s : State) (d : Dev), s.dev.ciph.reserving = some limit →
    d = s.dev.modCiph (fun c => { c with reserving := none, retry := true }) →
    exec (.epochReservationCommit 0) s = .next (s.put (Dev.settle
      ((d.latch Reg.CIPH_ERR 2).logStd LT.EPOCH_RESERVE_FAIL d.ciph.epoch limit)))) ∧
  (∀ s : State, s.dev.ciph.retry = true → s.dev.ciph.reserving = none →
    exec .epochReserveRetry s = .next (s.put (Dev.settle (s.dev.modCiph (fun c => { c with
      retry := false, reserving := some (if c.st = .reserve then c.epoch + 15 else c.limit + 16) })))))

/-- The check-value units (R321 to R325, Table 13-4): INIT loads the polynomial's start, VALUE the register, a feed its bytes in
ascending order; EXPECT compares the result with the value written, and a difference sets the unit's CHK_ERR bit.
Log entry 70 says what is the model's choice. -/
def Obligations.check_units_compute : Prop :=
  ∀ (src : Src) (n : Fin 8) (val : Word) (s : State),
    (s.dev.accepts src (Reg.CHK_CTL_0 + 0x20 * n.val) = true →
      exec (.chkInit src n val) s = .next (s.put ((s.dev.modChk n.val (fun c => c.ctl n.val (val ||| 4))).writeStatus src .ok))) ∧
    (s.dev.accepts src (Reg.CHK_VALUE_0 + 0x20 * n.val) = true →
      exec (.chkValueWrite src n val) s = .next (s.put
        ((s.dev.modChk n.val (fun c => { c with value := BitVec.ofNat 32 (val.toNat &&& chkMask c.poly) })).writeStatus src .ok))) ∧
    (∀ (c : Instr) (off k : Nat), (c, off, k) ∈ [(Instr.chkFeed8 src n val, Reg.CHK_FEED8_0, 1), (.chkFeed16 src n val, Reg.CHK_FEED16_0, 2),
        (.chkFeed32 src n val, Reg.CHK_FEED32_0, 4)] → s.dev.accepts src (off + 0x20 * n.val) = true →
      exec c s = .next (s.put ((s.dev.modChk n.val (fun c => c.feed (leBytes k val.toNat))).writeStatus src .ok))) ∧
    (∀ hit : Bool, s.dev.accepts src (Reg.CHK_EXPECT_0 + 0x20 * n.val) = true →
      hit = decide ((s.dev.chk.getD n.val (ChkCtx.reset n.val)).result = val.toNat) →
      exec (.chkExpect src n val) s = .next (s.put
        (if hit then (s.dev.modChk n.val (fun c => { c with isMatch := hit, mismatch := !hit })).writeStatus src .ok
         else ((s.dev.modChk n.val (fun c => { c with isMatch := hit, mismatch := !hit })).writeStatus src .ok).latch Reg.CHK_ERR n.val)))

/-- The rails (R341 to R345): a sample corrects and judges every populated channel; a poll judges the PMBus rails by their masks; what
restarts or waits goes on. A rail whose ramp takes too long fails, one that does not discharge is STUCK; a restart leaves its window.
The timetables (R336 to R339): a wait that ends lets the run pass its step; a check that times out on the way up fails the rail
and goes to the target where the step names one, or, for a critical rail, ends the run.
Log entries 74 and 116 say what is the model's choice. -/
def Obligations.rails_are_watched_and_timetables_run : Prop :=
  (∀ (pins : PinLevels) (sns tele : List Nat) (s : State), s.dev.aonUp = true →
    exec (.railSample pins sns tele) s = .next (s.put (Dev.settle
      ((((List.range 24).foldl (fun (s : Dev) n => s.railTurn n sns tele) { s.dev with pins := pins }).restartAll).pokeRun)))) ∧
  (∀ (n : Nat) (sns tele : List Nat) (d : Dev), (d.railRec n).populated = true → d.railTurn n sns tele =
    d.railSample n (if (d.railRec n).sense = 0xFF then tele.getD n 0 else d.senseCorrect (d.railRec n).sense (sns.getD (d.railRec n).sense 0))) ∧
  (∀ (stat : List Byte) (s : State), s.dev.aonUp = true →
    exec (.pmStatusPoll stat) s = .next (s.put (Dev.settle
      ((((List.range 24).foldl (fun (s : Dev) n => s.pmJudge n (stat.getD n 0).toNat) s.dev).restartAll).pokeRun)))) ∧
  (∀ (rail : Fin 24) (s : State), (s.dev.rail rail.val).st = .ramp →
    s.dev.seq.restarts.any (fun r => r.ramping && decide (r.rails.head? = some rail.val)) = true →
    exec (.rampTimeout rail) s = .next (s.put (Dev.settle
      (((if (s.dev.railRec rail.val).critical && !s.dev.idleMode then ((s.dev.railFail rail.val 4).raiseCrit rail.val).railDrop rail.val
        else s.dev.railFault rail.val 4).restartAll).pokeRun)))) ∧
  (∀ (rail : Fin 24) (s : State), (s.dev.rail rail.val).st = .disch →
    exec (.dischargeTimeout rail) s = .next (s.put (Dev.settle
      (((((s.dev.modRail rail.val (fun r => { r with st := .stuck })).latch Reg.SEQ_ERR 3).railFail rail.val 5).restartAll).pokeRun)))) ∧
  (∀ (rail : Fin 24) (s : State), exec (.restartWindowExpiry rail) s =
    .next (s.put (s.dev.modRail rail.val (fun r => { r with restarts := r.restarts - 1 })))) ∧
  (∀ (src : Src) (val : Word) (n : Nat) (off : Int) (s : State) (a : Dev), s.dev.accepts src Reg.SEQ_MARGIN = true →
    a = s.dev.storeReg Reg.SEQ_MARGIN val → n = bitsOf val.toNat 0 8 → off = sint16 (bitsOf val.toNat 16 16) → a.core.mode = .maintenance →
    -600 ≤ off → off ≤ 600 → n < 24 → (a.railRec n).populated = true → (a.railRec n).vtrim = true →
    exec (.seqMarginWrite src val) s = .next (s.put (Dev.settle
      (((a.marginApply n off).modSeq (fun q => { q with marginStatus := 0 })).writeStatus src .ok)))) ∧
  (∀ s : State, s.dev.seq.run ≠ 0 → s.dev.seq.wait = .ticks →
    exec .timetableWaitExpiry s = .next (s.put (Dev.settle
      (s.dev.stepDone (s.dev.steps.getD s.dev.seq.step 5) (s.dev.seq.step + 1)).resumeRun))) ∧
  (∀ (w n : Nat) (s : State) (d : Dev), s.dev.seq.run = 1 → s.dev.seq.wait = .check → w = s.dev.steps.getD s.dev.seq.step 5 → n = stepRail w →
    d = s.dev.latch Reg.SEQ_ERR 0 → d.seq.run = 1 →
    (stepTarget w ≠ 0xFF →
      exec .timetableCheckTimeout s = .next (s.put (Dev.settle ((d.railFail n 4).goStep (stepTarget w)).resumeRun))) ∧
    (stepTarget w = 0xFF → (d.railRec n).critical = true →
      exec .timetableCheckTimeout s = .next (s.put (Dev.settle ((d.railFail n 4).stopRun n)))) ∧
    (stepTarget w = 0xFF → (d.railRec n).critical = false →
      exec .timetableCheckTimeout s = .next (s.put (Dev.settle ((d.railFault n 4).stepDone w (s.dev.seq.step + 1)).resumeRun))))

/-- The bell line (R346, R347, R349): firmware of a device of role 2 sends a code while the line is free; a good frame claims the line,
counts, and takes the event or the side run of its code; a bad one is recorded; the barrier's release frees the line, its timeout and the
line's failure are recorded, and its recovery makes it ready.
Log entry 28 says what is the model's choice. -/
def Obligations.the_bell_rings : Prop :=
  (∀ (src : Src) (val : Word) (s : State), s.dev.accepts src Reg.SEQ_BELL_TX = true → s.dev.bellRole = 2 →
    (s.dev.seq.bellPhase = 0 →
      exec (.bellTx src val) s = .next (s.put (Dev.settle
        ((s.dev.modSeq (fun q => { q with bellPhase := 1, bellCur := bitsOf val.toNat 0 6 })).writeStatus src .ok)))) ∧
    (s.dev.seq.bellPhase ≠ 0 → exec (.bellTx src val) s = .next (s.put (Dev.settle (s.dev.writeStatus src .busy))))) ∧
  (∀ (k : Fin 64) (s : State) (d : Dev), s.dev.aonUp = true → s.dev.bellRole ≠ 0 → s.dev.seq.bellPhase ≠ 2 → s.dev.seq.bellFailed = false →
    d = (s.dev.modSeq (fun q => { q with bellPhase := 2, bellCur := k.val, bellClaimed := true, bellTimedOut := false })).wrapReg
      Reg.SEQ_BELL_COUNT 0 16 1 →
    (∀ e, bellEv k.val = some e → exec (.bellFrame k true) s = .next (s.put (Dev.settle (d.note (.mode e))))) ∧
    (bellEv k.val = none → exec (.bellFrame k true) s = .next (s.put (Dev.settle (d.sideRun k.val)))) ∧
    exec (.bellFrame k false) s = .next (s.put (Dev.settle
      (((s.dev.modSeq (fun q => { q with bellPhase := 0 })).latch Reg.SEQ_ERR 6).logStd LT.BELL_PARITY k.val
        s.dev.bellStatus)))) ∧
  (∀ s : State, s.dev.seq.bellPhase = 2 → s.dev.seq.bellClaimed = false →
    exec .bellBarrierRelease s = .next (s.put (Dev.settle (s.dev.modSeq (fun q => { q with bellPhase := 0, bellLast := some q.bellCur }))))) ∧
  (∀ (s : State) (d : Dev), s.dev.seq.bellPhase = 2 →
    d = ((s.dev.modSeq (fun q => { q with bellPhase := 0, bellClaimed := false, bellTimedOut := true })).countReg Reg.SEQ_BELL_COUNT 16 16 1).latch
      Reg.SEQ_ERR 7 →
    exec .bellBarrierTimeout s = .next (s.put (Dev.settle
      (d.logStd LT.BELL_TIMEOUT s.dev.seq.bellCur
        (s.dev.modSeq (fun q => { q with bellPhase := 0, bellClaimed := false, bellTimedOut := true })).bellStatus)))) ∧
  (∀ (s : State) (d : Dev), s.dev.aonUp = true → s.dev.bellRole ≠ 0 →
    d = (s.dev.modSeq (fun q => { q with bellFailed := true, bellPhase := 0, bellClaimed := false })).clrReady Rdy.BELL →
    exec .bellLineFail s = .next (s.put (Dev.settle ((d.latch Reg.SEQ_ERR 8).logStd LT.BELL_FAIL d.seq.bellCur d.bellStatus)))) ∧
  (∀ s : State, s.dev.seq.bellFailed = true →
    exec .bellLineRecover s = .next (s.put (Dev.settle (s.dev.modSeq (fun q => { q with bellFailed := false })).bellReady)))

/-- The gauge's conversions (R356, R358 to R360): a sample corrects the readings, holds what was missed, and judges the presence of the
pack; with no pack record it does no more; three samples without a pack remove it. A pack present for its time is identified.
Log entry 75 says what is the model's choice. -/
def Obligations.the_battery_is_sampled : Prop :=
  (∀ (cur : Option Int) (volt : Option Nat) (temp : Option Int) (idMv : Option Nat) (there : Bool) (i t : Int) (s : State) (c d : Dev),
    s.dev.aonUp = true →
    i = (cur.map (fun r => r * (1000000 + s.dev.calInt 36) / 1000000 - s.dev.calInt 40)).getD s.dev.batt.cur →
    t = (temp.map (fun x => x + s.dev.calInt 44)).getD s.dev.batt.temp →
    there = packThere (idMv.getD s.dev.batt.idMv) t → c = s.dev.takeSample cur volt temp idMv → d = c.meter →
    c = s.dev.modBatt (fun b => { b with
      cur := i, volt := volt.getD b.volt, temp := t, idMv := idMv.getD b.idMv
      convRuns := (b.convRuns.zip [cur.isNone, volt.isNone, temp.isNone, idMv.isNone]).map (fun r => if r.2 then min 3 (r.1 + 1) else 0)
      curSum := b.curSum + i, samples := b.samples + 1
      present := there, held := b.held && there, goneRun := if there then 0 else min 3 (b.goneRun + 1) }) ∧
    ((3 ≤ d.batt.goneRun ∧ d.batt.st ≠ .absent) →
      exec (.battSample cur volt temp idMv) s = .next (s.put (Dev.settle d.packGone))) ∧
    (d.batt.goneRun < 3 → d.packRec = none → (d.batt.convRun < 3 ∨ d.batt.st ≠ .unknown) →
      exec (.battSample cur volt temp idMv) s = .next (s.put (Dev.settle d))) ∧
    (∀ r, d.batt.goneRun < 3 → d.packRec = some r → d.batt.st = .active → d.batt.convRun < 3 →
      2000 * r.cells ≤ d.batt.volt → d.batt.volt ≤ 4500 * r.cells → r.cells * r.vCutoff ≤ (d.countCharge r).batt.volt →
      exec (.battSample cur volt temp idMv) s = .next (s.put (Dev.settle
        ((d.countCharge r).modBatt (fun b => { b with cutRun := 0 })))))) ∧
  (∀ s : State, s.dev.aonUp = true → s.dev.batt.st = .absent → s.dev.batt.present = true →
    exec .packPresenceHeld s = .next (s.put (Dev.settle (s.dev.modBatt (fun b => { b with held := true })).packAct)))

/-- The gauge's states and references (R360, R363, R364): settling ends with the charge that the voltage gives, a fault returns to
settling, the tapers and a rest calibrate the charge at full, at empty and from the open-circuit voltage.
The gauge's output and the charger (R361, R368): at each recompute the mean current and the energy lower bound are
computed, which is 0 where the gauge is not ACTIVE, and the charger is judged; a failed charger is tried again; a recalibration is asked
for with BATT_CTL.RECAL.
Log entries 11, 75 and 117 say what is the model's choice. -/
def Obligations.the_gauge_calibrates_and_bounds_the_energy : Prop :=
  (∀ (p : PackRec) (s : State), s.dev.packRec = some p → s.dev.batt.st = .settling →
    exec .settlingTimeout s = .next (s.put (Dev.settle
      ((s.dev.modBatt (fun b => { b with st := .active, q := s.dev.qV p, u := 0 })).drew).evalAgain))) ∧
  (∀ s : State, s.dev.batt.st = .fault →
    exec .faultRecovered s = .next (s.put (Dev.settle (s.dev.modBatt (fun b => { b with
      st := .settling, q := 0, u := 0, ref := none, convRuns := [0, 0, 0, 0], cutRun := 0 })).evalAgain))) ∧
  (∀ (p : PackRec) (s : State) (d : Dev), s.dev.packRec = some p → s.dev.batt.st = .active → s.dev.core.mode ≠ .save → s.dev.batt.charging = true →
    p.cells * (p.vChg - 30) ≤ s.dev.batt.volt → s.dev.batt.cur ≤ -1000 → -(1000 * (p.iTaper : Int)) ≤ s.dev.batt.cur →
    d = (((s.dev.calibrate p 1 1 (1 / 100)).modBatt (fun b => { b with empty := false, due := false, recal := false })).setRegF Reg.BATT_CTL 1 1 0) →
    exec .chargeTaper s = .next (s.put (Dev.settle d.chargeJudge))) ∧
  (∀ (p : PackRec) (s : State), s.dev.packRec = some p → s.dev.batt.st = .active → s.dev.core.mode ≠ .save → 1000 ≤ s.dev.batt.cur →
    s.dev.batt.cur ≤ 1000 * (p.iTaper : Int) → s.dev.batt.volt ≤ p.cells * (p.vCutoff + 100) →
    exec .dischargeTaper s = .next (s.put (Dev.settle (s.dev.calibrate p 2 (s.dev.socOf p (s.dev.ocvLb p) / 100) p.margin).drew))) ∧
  (∀ (p : PackRec) (s : State), s.dev.packRec = some p → s.dev.batt.st = .active → s.dev.core.mode ≠ .save →
    -(1000 * (p.iRest : Int)) < s.dev.batt.cur → s.dev.batt.cur < 1000 * (p.iRest : Int) →
    ((s.dev.calibrate p 3 (s.dev.socOf p ((s.dev.batt.volt : Rat) / (p.cells : Rat)) / 100) p.margin).drew).batt.st = .active →
    exec .restCalibration s = .next (s.put (Dev.settle
      (s.dev.calibrate p 3 (s.dev.socOf p ((s.dev.batt.volt : Rat) / (p.cells : Rat)) / 100) p.margin).drew))) ∧
  (∀ (s : State) (a : Dev), s.dev.aonUp = true →
    a = s.dev.energySum.modBatt (fun b => { b with curAvg := if b.samples = 0 then b.curAvg else b.curSum / b.samples, curSum := 0, samples := 0 }) →
    (∀ p, a.batt.st = .active → a.packRec = some p →
      exec .elbRecompute s = .next (s.put (Dev.settle
        ((((a.modBatt (fun b => { b with elb := (a.elbOf p).1, bind := (a.elbOf p).2, ocvLb := (a.ocvLb p).floor.toNat })).drew).chargeDue.chargeJudge).evalAgain)))) ∧
    (a.batt.st ≠ .active →
      exec .elbRecompute s = .next (s.put (Dev.settle (((a.modBatt (fun b => { b with elb := 0 })).chargeDue.chargeJudge).evalAgain))))) ∧
  (∀ (s : State) (d : Dev), s.dev.batt.chgFailed = true → d = s.dev.modBatt (fun b => { b with chgFailed := false }) →
    exec .chargerRetry s = .next (s.put (Dev.settle (if d.chargerBusy then d else d.pmQueue (.charger d.chargeOk))))) ∧
  (∀ (src : Src) (val : Word) (s : State) (d : Dev), s.dev.accepts src Reg.BATT_CTL = true →
    d = (s.dev.setRegF Reg.BATT_CTL 0 1 (bitsOf val.toNat 0 1)).writeStatus src .ok →
    exec (.battRecal src val) s = .next (s.put (Dev.settle
      ((d.modBatt (fun b => { b with recal := true, due := true })).setRegF Reg.BATT_CTL 1 1 1).chargeJudge)))

/-- The window codes of a sideband port (R386, Table 16-4): WIN_ADDR takes an aligned offset within the window, WIN_DATA writes the
register there as the port and reads it, and WIN_NEXT reads and moves on by 4.
Log entry 76 says what is the model's choice. -/
def Obligations.the_sideband_window_works : Prop :=
  ∀ (sv : Bool) (count : Byte) (data : Bytes) (pec : Option Byte) (wantPec : Bool) (s : State),
    (s.dev.sbGood sv 0x01 count data pec = true → count.toNat = 4 →
      (leAt data 0 4 % 4 = 0 → leAt data 0 4 < 0x100000 → exec (.winAddr sv count data pec) s = .next (s.put
        ((s.dev.modTwb (sbPort sv) (fun t => { t with window := leAt data 0 4, status := 0 })).sbDone sv 0x01))) ∧
      (leAt data 0 4 % 4 ≠ 0 ∨ 0x100000 ≤ leAt data 0 4 →
        exec (.winAddr sv count data pec) s = .next (s.put (s.dev.sbDiscard sv 0x01 .badParam)))) ∧
    (∀ d : Dev, s.dev.sbGood sv 0x02 count data pec = true → count.toNat = 4 → d = s.dev.modTwb (sbPort sv) (fun t => { t with status := 0 }) →
      exec (.winDataWrite sv count data pec) s = .next (s.put (Dev.settle
        ((regWrite (.port (sbSrc sv)) (d.port (sbPort sv)).window (BitVec.ofNat 32 (leAt data 0 4)) d).sbDone sv 0x02)))) ∧
    (∀ (d : Dev) (v : Word), s.dev.sbLive sv = true → s.dev.readBy (.port (sbSrc sv)) (s.dev.port (sbPort sv)).window = (d, v) →
      exec (.winDataRead sv wantPec) s = .next (s.put (d.sbBlockRead sv 0x02 wantPec (leBytes 4 v.toNat))) ∧
      exec (.winNext sv wantPec) s = .next (s.put
        ((d.sbBlockRead sv 0x03 wantPec (leBytes 4 v.toNat)).modTwb (sbPort sv) (fun t => { t with window := t.window + 4 })))) ∧
    (count.toNat ≠ 4 → s.dev.sbGood sv 0x01 count data pec = true →
      exec (.winAddr sv count data pec) s = .next (s.put (s.dev.sbDiscard sv 0x01 .badParam))) ∧
    (∀ x, s.dev.sbLive sv = true → data.length = count.toNat → pec = some x →
      x ≠ BitVec.ofNat 8 (crc8 ([BitVec.ofNat 8 (2 * (s.dev.port (sbPort sv)).addr), BitVec.ofNat 8 0x01, count] ++ data)) →
      exec (.winAddr sv count data pec) s = .next (s.put ((s.dev.twbErr (sbPort sv) 1).sbDiscard sv 0x01 .twbPec)))

/-- The buffer and status codes of a sideband port (R383, R385, R387, Table 16-4): STATUS, INFO and RESULT report; BUF_PTR sets the
position, BUF_DATA writes at it and reads up to OUT_LEN; EXEC serves a command on the buffer's first bytes; a code not in the table is
discarded with ST_BAD_PARAM.
Log entry 76 says what is the model's choice. -/
def Obligations.the_sideband_buffer_works : Prop :=
  ∀ (sv : Bool) (count : Byte) (data : Bytes) (pec : Option Byte) (wantPec : Bool) (s : State),
    (s.dev.sbLive sv = true →
      exec (.status sv wantPec) s = .next (s.put ((s.dev.sbRead sv 0x04 wantPec (leBytes 2 (s.dev.port (sbPort sv)).status)).sbDone sv 0x04)) ∧
      exec (.info sv wantPec) s = .next (s.put (s.dev.sbBlockRead sv 0x05 wantPec
        ([0x01, BitVec.ofNat 8 (sbPort sv), 0, 0] ++ leBytes 4 s.dev.coreMode))) ∧
      exec (.result sv wantPec) s = .next (s.put (s.dev.sbBlockRead sv 0x13 wantPec
        ([BitVec.ofNat 8 (s.dev.port (sbPort sv)).execSt, 0] ++ leBytes 2 (s.dev.port (sbPort sv)).execRes ++
          leBytes 4 (s.dev.port (sbPort sv)).outLen))) ∧
      (∀ n : Nat, n = min 240 ((s.dev.port (sbPort sv)).outLen - (s.dev.port (sbPort sv)).bufPos) →
        exec (.bufDataRead sv wantPec) s = .next (s.put
          ((s.dev.modTwb (sbPort sv) (fun t => { t with bufPos := t.bufPos + n })).sbBlockRead sv 0x11 wantPec
            (Memory.readBytes 0 (s.dev.port (sbPort sv)).buf (s.dev.port (sbPort sv)).bufPos n)))) ∧
      (∀ code, exec (.sidebandUnknownCode sv code) s = .next (s.put (s.dev.sbDiscard sv code.toNat .badParam)))) ∧
    (s.dev.sbGood sv 0x10 count data pec = true → count.toNat = 4 → leAt data 0 4 ≤ 65535 →
      exec (.bufPtr sv count data pec) s = .next (s.put
        ((s.dev.modTwb (sbPort sv) (fun t => { t with bufPos := leAt data 0 4, status := 0 })).sbDone sv 0x10))) ∧
    (s.dev.sbGood sv 0x11 count data pec = true → 1 ≤ count.toNat → count.toNat ≤ 240 →
      exec (.bufDataWrite sv count data pec) s = .next (s.put
        ((s.dev.modTwb (sbPort sv) (fun t => { t with
          buf := putBuf t.buf t.bufPos data, bufPos := t.bufPos + data.length, status := 0 })).sbDone sv 0x11))) ∧
    (s.dev.sbGood sv 0x12 count data pec = true → count.toNat = 8 → leAt data 4 4 ≤ 65536 → (s.dev.port (sbPort sv)).execSt ≠ 1 →
      exec (.exec sv count data pec) s = .next (s.put (Dev.settle
        (((s.dev.execStart (sbSrc sv) (leAt data 0 2)).kxChecked (sbSrc sv) (leAt data 0 2)
          (Memory.readBytes 0 (s.dev.port (sbPort sv)).buf 0 (leAt data 4 4))).sbDone sv 0x12))))

/-- The PM controller (R375, R377 to R379, Table 16-6): a firmware transfer that the device table allows is queued; the running transfer
ends with its result, or with a stretch timeout, which is logged; a retry is queued again.
Log entries 41 and 76 say what is the model's choice. -/
def Obligations.pm_transfers_run : Prop :=
  (∀ (src : Src) (val w : Word) (s : State) (d : Dev), w = val ||| 0x80000000 → s.dev.accepts src Reg.TWB_XFER_CTL = true → s.dev.twb.xferGo = false →
    d = (s.dev.storeReg Reg.TWB_XFER_CTL w).writeStatus src .ok →
    (bitsOf w.toNat 7 1 = 1 ∨ d.bh03 (bitsOf w.toNat 0 7) (bitsOf w.toNat 8 8) = false) → d.bh07Ok (bitsOf w.toNat 0 7) (bitsOf w.toNat 8 8) = true →
    (d.core.mode = .restore ∨ d.core.mode = .service ∨ d.core.mode = .maintenance) → bitsOf w.toNat 16 6 ≤ 32 →
    exec (.twbXfer src val) s = .next (s.put (Dev.settle (d.modTwbSt (fun t => { t with xferGo := true, pm := t.pm ++ [.firmware] }))))) ∧
  (∀ (pc val w : Word) (s : State) (d : Dev), w = val ||| 0x80000000 → s.dev.accepts (.firmware pc) Reg.TWB_XFER_CTL = true → s.dev.twb.xferGo = false →
    d = s.dev.storeReg Reg.TWB_XFER_CTL w → bitsOf w.toNat 7 1 = 0 → d.bh03 (bitsOf w.toNat 0 7) (bitsOf w.toNat 8 8) = true →
    exec (.twbXfer (.firmware pc) val) s = .next (s.put (Dev.settle
      (((d.twbErr 1 7).modTwbSt (fun t => { t with xferStatus := St.bulkhead.code })).bulkhead 3 5 .bulkhead
        (256 * bitsOf w.toNat 0 7 + bitsOf w.toNat 8 8) pc)))) ∧
  (∀ (data : Bytes) (s : State), (s.dev.port 1).st = 2 →
    exec (.twbTransferDone .ok data) s = .next (s.put (Dev.settle (s.dev.pmFinish .ok data))) ∧
    exec (.twbTransferDone .nack data) s = .next (s.put (Dev.settle ((s.dev.twbErr 1 2).pmFinish .twbNack []))) ∧
    exec (.twbTransferDone .pec data) s = .next (s.put (Dev.settle ((s.dev.twbErr 1 1).pmFinish .twbPec []))) ∧
    exec (.twbTransferDone .arbLost data) s = .next (s.put (Dev.settle ((s.dev.twbErr 1 5).pmFinish .twbArbLost [])))) ∧
  (∀ (x : PmXfer) (rest : List PmXfer) (sda : Option Bool) (s : State) (d : Dev), (s.dev.port 1).st = 2 → s.dev.twb.pm = x :: rest →
    d = ((s.dev.twbErr 1 3).twbLog LT.TWB_TIMEOUT 1 (s.dev.pmTarget x).1 .twbTimeout).pmFinish .twbTimeout [] →
    exec (.stretchTimeout sda) s = .next (s.put (Dev.settle (if sda = some false then d.busStuck 1 (s.dev.pmTarget x).1 else d)))) ∧
  (∀ (x : PmXfer) (rest : List PmXfer) (s : State) (d : Dev), s.dev.twb.pmRetry = x :: rest →
    d = s.dev.modTwbSt (fun t => { t with pmRetry := rest, pm := t.pm ++ [x] }) →
    exec .pmRetry s = .next (s.put (Dev.settle (if (d.port 1).st = 1 then d.modTwb 1 (fun t => { t with st := 2 }) else d))))

/-- The ports as targets, and Host Notify (R376, R378, R380 to R382, R388, Table 16-3): each bus error latches its bit and leaves the port
IDLE; a FAILED bus recovers; YARD_EN low turns SV off; the pending set is sent, and again after a failure.
Log entry 76 says what is the model's choice. -/
def Obligations.port_errors_and_notifies : Prop :=
  (∀ (sv : Bool) (s : State), s.dev.sbLive sv = true →
    exec (.targetStretchLimit sv) s = .next (s.put
      ((s.dev.modTwb (sbPort sv) (fun t => { t with status := St.busy.code, lastStatus := St.busy.code })).emit (.twoWire (sbPort sv) [0xFF])))) ∧
  (∀ (p : Fin 3) (s : State), (s.dev.port p.val).st = 1 →
    exec (.repeatedStartAbort p) s = .next (s.put (Dev.settle (s.dev.twbErr p.val 0))) ∧
    exec (.targetSclTimeout p) s = .next (s.put (Dev.settle (s.dev.twbErr p.val 4))) ∧
    exec (.addressNotOwn p) s = .next (s.put (s.dev.modTwb p.val (fun t => { t with st := 1 })))) ∧
  (∀ (p : Fin 3) (s : State), (s.dev.port p.val).st = 5 →
    exec (.busFailedRecover p) s = .next (s.put (Dev.settle
      ((s.dev.modTwb p.val (fun t => { t with st := 1, scl := true, sda := true })).twbLog LT.TWB_BUS_RECOVERED p.val 0 .ok)))) ∧
  (∀ s : State, s.dev.twb.svLive = true →
    exec .yardEnLow s = .next (s.put (Dev.settle
      ((s.dev.modTwb 2 (fun t => { t with st := 0, scl := true, sda := true })).modTwbSt (fun t => { t with svLive := false }))))) ∧
  (∀ (e : XferEnd) (s : State), s.dev.twb.notifyPend ≠ 0 → (s.dev.port 0).st = 1 →
    (s.dev.twb.notifyWait = false → exec (.hostNotify e) s = .next (s.put (Dev.settle (s.dev.notifySend e)))) ∧
    (s.dev.twb.notifyWait = true → exec (.hostNotifyRetry e) s = .next (s.put (Dev.settle (s.dev.notifySend e))))) ∧
  (∀ (addr : BitVec 7) (data : BitVec 16) (s : State), (s.dev.port 1).st = 1 →
    exec (.powerPartHostNotify addr data) s = .next (s.put (Dev.settle ((s.dev.twbCount 1).twbLast 1 0 (2 * addr.toNat) addr.toNat))))

/-- The logbook (R410 to R420): the scan ends with the head found and LT_POWER_ON first in the queue; in READY, an append first judges the
sector ahead, then carries its records, and with nothing to carry or erase issues the first waiting event; a program's end makes the record held; repeats are flushed in time, and a time mark is
recorded.
Log entry 77 says what is the model's choice. -/
def Obligations.the_logbook_records : Prop :=
  (∀ s : State, s.dev.log.st = 1 → exec .logScanDone s = .next (s.put (Dev.settle s.dev.logHead.logAhead.logPowerOn))) ∧
  (∀ (d : Dev), d.log.queue.length < 32 → d.logPowerOn = d.modLog (fun l => { l with queue :=
    { ty := LT.POWER_ON, payload := leBytes 4 d.coreBoot ++ leBytes 4 d.log.skipped, count := 1, opS := d.opSeconds, early := false, issued := false } ::
      l.queue })) ∧
  (∀ (e : LogEv) (s : State) (d : Dev), s.dev.log.st = 2 → s.dev.log.busy = 0 → d = s.dev.logJudge →
    (∀ c rest, d.log.carry = c :: rest → d.log.pending = 0 →
      exec .logAppend s = .next (s.put (Dev.settle
        ((d.modLog (fun l => { l with carry := rest })).logAppendRec LT.CARRIED c 1 d.opSeconds 3 none)))) ∧
    (d.log.carry = [] → d.log.toErase = none → d.log.queue.find? (fun e => !e.issued) = some e → d.log.pending = 0 →
      exec .logAppend s = .next (s.put (Dev.settle
        ((d.modLog (fun l => { l with queue := issueFirst l.queue })).logAppendRec e.ty e.payload (min maxCount e.count)
          (if e.early then e.opS + d.log.base else e.opS) 1 (if 1 < min maxCount e.count then some (min maxCount e.count) else none)))))) ∧
  (∀ (x : ChDesc) (s : State) (d : Dev), s.dev.chtr.cur = some x → x.req = .logbook →
    d = (s.dev.modChtr (fun c => { c with cur := none, timeouts := 0 })).modLog (fun l => { l with busy := 0 }) →
    exec (.logProgramDone false) s = .next (s.put (Dev.settle (((d.norOp x false).1).logEnd s.dev.log.busy).chNext))) ∧
  (∀ s : State, s.dev.log.st = 2 → s.dev.log.busy = 0 → 0 < s.dev.log.pending → s.dev.log.carry = [] → s.dev.log.toErase = none →
    exec .logTimedFlush s = .next (s.put (Dev.settle s.dev.logFlush))) ∧
  (∀ s : State, s.dev.log.st = 2 → exec .logTimeMark s = .next (s.put (s.dev.logEvent LT.TIME_MARK [])))

/-- The update manager's own events (R431, R432, R437, R438): a buffered piece that is written
joins the held ones where its slot reads back as the piece, and is erased where it does not, an idle session is
abandoned, a trial that expires is confirmed, and UPD_CTL rolls back in MAINTENANCE, where both slots are valid, or confirms a trial.
Log entry 78 says what is the model's choice. -/
def Obligations.updates_progress : Prop :=
  (∀ (n : Nat) (slot : Bytes) (rest : List (Nat × Bytes)) (s : State) (d : Dev), s.dev.upd.bufs = (n, slot) :: rest → s.dev.core.mode ≠ .save →
    s.dev.upd.st = 1 → d = (s.dev.modUpd (fun u => { u with bufs := rest })).stagErase (slotOff s.dev.upd.header n) (4096 * uhK s.dev.upd.header) →
    d.chtr.st = 2 →
    (exec (.updPieceWritten true) s = .next (s.put (Dev.settle (d.latch Reg.UPD_ERR 5)))) ∧
    (∀ e : Dev, n ≠ 0 → e = (d.stagWrite (slotOff d.upd.header n) slot) →
      (e.slotHolds e.upd.session (e.upd.held.contains 0) n = true →
        exec (.updPieceWritten false) s = .next (s.put (Dev.settle (e.modUpd (fun u => { u with held := insertN n u.held }))))) ∧
      (e.slotHolds e.upd.session (e.upd.held.contains 0) n = false →
        exec (.updPieceWritten false) s = .next (s.put (Dev.settle
          (e.stagErase (slotOff e.upd.header n) (4096 * uhK e.upd.header))))))) ∧
  (∀ s : State, s.dev.upd.st = 1 →
    exec .updIdleExpiry s = .next (s.put (Dev.settle
      ((s.dev.latch Reg.UPD_ERR 4).updLog LT.UPD_ABANDON s.dev.updImage 3).updFree))) ∧
  (∀ s : State, s.dev.upd.st = 4 → s.dev.rdy Rdy.FW = true → exec .trialExpiry s = .next (s.put (Dev.settle s.dev.updConfirm))) ∧
  (∀ (src : Src) (s : State), s.dev.accepts src Reg.UPD_CTL = true →
    (s.dev.core.mode = .maintenance → (s.dev.upd.st = 0 ∨ s.dev.upd.st = 4) →
      exec (.updCtlRollback src) s = .next (s.put (Dev.settle
        (if s.dev.prevValid then (s.dev.rollback 1).writeStatus src .ok else s.dev.writeStatus src .notReady)))) ∧
    (s.dev.core.mode ≠ .maintenance →
      exec (.updCtlRollback src) s = .next (s.put (Dev.settle (s.dev.writeStatus src .wrongMode)))) ∧
    (s.dev.upd.st = 4 → exec (.updCtlConfirm src) s = .next (s.put (Dev.settle (s.dev.updConfirm.writeStatus src .ok)))) ∧
    (s.dev.upd.st ≠ 4 → exec (.updCtlConfirm src) s = .next (s.put (Dev.settle (s.dev.writeStatus src .notReady)))))
end

