-- ==== Sys2Proof/Decode.lean ====
section
/-!
DEFINITION. Commands by word: the table gives no row any bits.
-/
namespace Sys2Proof

/-- The command that a word spells by the table's bits: none, since no row of spec/opcode_table.json has bits. -/
def decodeTableWord (_nbits _w : Nat) : Option Instr := none

end Sys2Proof
end

