-- ==== Sys2Proof/Laws/Memory.lean ====
section
/-!
SUPPORT. Keyed lists and memory: a read after a write gives what was written, a write leaves every other place alone, and every
operation keeps the canonical form.
-/
namespace Sys2Proof.Laws
open Sys2Proof Sys2Proof.Machine

/-- Every key of the list is above k. -/
def Above {α : Type} (k : Nat) (l : List (Nat × α)) : Prop := ∀ p ∈ l, k < p.1

theorem sortedK_cons {α : Type} (k : Nat) (v : α) (l : List (Nat × α)) :
    sortedK ((k, v) :: l) = true ↔ Above k l ∧ sortedK l = true := by
  induction l generalizing k v with
  | nil => simp [sortedK, Above]
  | cons p t ih =>
    obtain ⟨k', v'⟩ := p
    simp only [sortedK, Bool.and_eq_true, decide_eq_true_eq]
    constructor
    · rintro ⟨h, hs⟩
      refine ⟨?_, hs⟩
      intro q hq
      rcases List.mem_cons.mp hq with rfl | hq
      · exact h
      · have h1 := ((ih k' v').mp hs).1 q hq
        omega
    · rintro ⟨h, hs⟩
      exact ⟨h (k', v') (by simp), hs⟩

theorem lookupK_above {α : Type} {k : Nat} {l : List (Nat × α)} (h : Above k l) : lookupK k l = none := by
  cases l with
  | nil => rfl
  | cons p t =>
    have := h p (by simp)
    simp only [lookupK]
    rw [if_neg (by omega), if_pos this]

theorem lookupK_insertK {α : Type} (k j : Nat) (v : α) (l : List (Nat × α)) (h : sortedK l = true) :
    lookupK j (insertK k v l) = if j = k then some v else lookupK j l := by
  induction l with
  | nil => simp [insertK, lookupK]
  | cons p t ih =>
    obtain ⟨k', v'⟩ := p
    have hs := (sortedK_cons k' v' t).mp h
    simp only [insertK]
    split
    · next h1 => simp only [lookupK]; split <;> rename_i h2 <;> grind
    · split
      · next h1 h2 => subst h2; simp only [lookupK]; grind
      · next h1 h2 =>
        have := ih hs.2
        simp only [lookupK, this]
        grind

theorem mem_insertK {α : Type} (k : Nat) (v : α) (l : List (Nat × α)) (p : Nat × α) (h : p ∈ insertK k v l) : p = (k, v) ∨ p ∈ l := by
  induction l with
  | nil => simpa [insertK] using h
  | cons q t ih =>
    obtain ⟨k', v'⟩ := q
    simp only [insertK] at h
    split at h
    · simpa using h
    · split at h
      · simp only [List.mem_cons] at h ⊢; grind
      · simp only [List.mem_cons] at h ⊢; grind

theorem mem_eraseK {α : Type} (k : Nat) (l : List (Nat × α)) (p : Nat × α) (h : p ∈ eraseK k l) : p ∈ l := by
  induction l with
  | nil => simp [eraseK] at h
  | cons q t ih =>
    obtain ⟨k', v'⟩ := q
    simp only [eraseK] at h
    grind

theorem sortedK_insertK {α : Type} (k : Nat) (v : α) (l : List (Nat × α)) (h : sortedK l = true) : sortedK (insertK k v l) = true := by
  induction l with
  | nil => rfl
  | cons p t ih =>
    obtain ⟨k', v'⟩ := p
    have hs := (sortedK_cons k' v' t).mp h
    simp only [insertK]
    split
    · next h1 =>
      refine (sortedK_cons _ _ _).mpr ⟨?_, h⟩
      intro q hq
      rcases List.mem_cons.mp hq with rfl | hq
      · exact h1
      · have := hs.1 q hq; omega
    · split
      · next h1 h2 => subst h2; exact (sortedK_cons _ _ _).mpr ⟨hs.1, hs.2⟩
      · next h1 h2 =>
        refine (sortedK_cons _ _ _).mpr ⟨?_, ih hs.2⟩
        intro q hq
        rcases mem_insertK k v t q hq with rfl | hq
        · simp only; omega
        · exact hs.1 q hq

theorem sortedK_eraseK {α : Type} (k : Nat) (l : List (Nat × α)) (h : sortedK l = true) : sortedK (eraseK k l) = true := by
  induction l with
  | nil => rfl
  | cons p t ih =>
    obtain ⟨k', v'⟩ := p
    have hs := (sortedK_cons k' v' t).mp h
    simp only [eraseK]
    split
    · exact hs.2
    · split
      · exact h
      · exact (sortedK_cons _ _ _).mpr ⟨fun q hq => hs.1 q (mem_eraseK k t q hq), ih hs.2⟩

theorem lookupK_eraseK {α : Type} (k j : Nat) (l : List (Nat × α)) (h : sortedK l = true) :
    lookupK j (eraseK k l) = if j = k then none else lookupK j l := by
  induction l with
  | nil => simp [eraseK, lookupK]
  | cons p t ih =>
    obtain ⟨k', v'⟩ := p
    have hs := (sortedK_cons k' v' t).mp h
    simp only [eraseK]
    split
    · next h1 =>
      subst h1
      split
      · next h2 => subst h2; exact lookupK_above hs.1
      · next h2 =>
        simp only [lookupK, h2, if_false]
        split
        · next h3 => exact lookupK_above (fun q hq => by have := hs.1 q hq; omega)
        · rfl
    · split
      · next h1 h2 => simp only [lookupK]; grind
      · next h1 h2 => simp only [lookupK, ih hs.2]; grind

/-- Reading a key after setting one, in a canonical list. -/
theorem getD_putD {α : Type} [DecidableEq α] (d : α) (k j : Nat) (v : α) (l : List (Nat × α)) (h : wfD d l = true) :
    getD d j (putD d k v l) = if j = k then v else getD d j l := by
  simp only [wfD, Bool.and_eq_true] at h
  unfold putD getD
  split
  · next hv => rw [lookupK_eraseK _ _ _ h.1]; split <;> simp [hv]
  · rw [lookupK_insertK _ _ _ _ h.1]; split <;> rfl

/-- Setting a key keeps the canonical form. -/
theorem wfD_putD {α : Type} [DecidableEq α] (d : α) (k : Nat) (v : α) (l : List (Nat × α)) (h : wfD d l = true) :
    wfD d (putD d k v l) = true := by
  simp only [wfD, Bool.and_eq_true, List.all_eq_true, decide_eq_true_eq] at h ⊢
  unfold putD
  split
  · exact ⟨sortedK_eraseK _ _ h.1, fun p hp => h.2 p (mem_eraseK _ _ _ hp)⟩
  · next hv =>
    refine ⟨sortedK_insertK _ _ _ h.1, fun p hp => ?_⟩
    rcases mem_insertK _ _ _ _ hp with rfl | hp
    · exact hv
    · exact h.2 p hp

theorem sortedK_filter {α : Type} (f : Nat × α → Bool) (l : List (Nat × α)) (h : sortedK l = true) : sortedK (l.filter f) = true := by
  induction l with
  | nil => rfl
  | cons p t ih =>
    obtain ⟨k, v⟩ := p
    have hs := (sortedK_cons k v t).mp h
    simp only [List.filter_cons]
    split
    · exact (sortedK_cons _ _ _).mpr ⟨fun q hq => hs.1 q (List.mem_filter.mp hq).1, ih hs.2⟩
    · exact ih hs.2

theorem wfD_filter {α : Type} [DecidableEq α] (d : α) (f : Nat × α → Bool) (l : List (Nat × α)) (h : wfD d l = true) :
    wfD d (l.filter f) = true := by
  simp only [wfD, Bool.and_eq_true, List.all_eq_true] at h ⊢
  exact ⟨sortedK_filter f l h.1, fun p hp => h.2 p (List.mem_filter.mp hp).1⟩

theorem lookupK_filter {α : Type} (f : Nat → Bool) (k : Nat) (l : List (Nat × α)) (h : sortedK l = true) :
    lookupK k (l.filter (fun c => f c.1)) = if f k then lookupK k l else none := by
  induction l with
  | nil => simp [lookupK]
  | cons p t ih =>
    obtain ⟨k', v⟩ := p
    have hs := (sortedK_cons k' v t).mp h
    simp only [List.filter_cons]
    by_cases hk : k = k'
    · subst hk
      by_cases hf : f k = true
      · simp [hf, lookupK]
      · simp [hf, ih hs.2]
    · by_cases hf : f k' = true
      · simp only [hf, if_true, lookupK, if_neg hk, ih hs.2]
        split <;> simp
      · rw [if_neg hf, ih hs.2]
        simp only [lookupK, if_neg hk]
        by_cases hlt : k < k'
        · rw [if_pos hlt, lookupK_above (fun q hq => by have := hs.1 q hq; omega)]
        · rw [if_neg hlt]

/-! ### Memory -/

theorem memory_read_write (d b : Byte) (m : Memory) (a x : Nat) (h : Memory.wf d m = true) :
    Memory.read d (Memory.write d m a b) x = if x = a then b else Memory.read d m x := getD_putD d a x b m h

theorem memory_write_wf (d b : Byte) (m : Memory) (a : Nat) (h : Memory.wf d m = true) : Memory.wf d (Memory.write d m a b) = true :=
  wfD_putD d a b m h

theorem memory_writeBytes_wf (d : Byte) (bs : List Byte) (m : Memory) (a : Nat) (h : Memory.wf d m = true) :
    Memory.wf d (Memory.writeBytes d m a bs) = true := by
  induction bs generalizing m a with
  | nil => exact h
  | cons b t ih => exact ih _ _ (memory_write_wf d b m a h)

theorem memory_clear_wf (d : Byte) (m : Memory) (a n : Nat) (h : Memory.wf d m = true) : Memory.wf d (Memory.clear m a n) = true :=
  wfD_filter d _ m h

theorem memory_putSlice_wf (d : Byte) (m : Memory) (a n : Nat) (sl : List (Nat × Byte)) (h : Memory.wf d m = true) :
    Memory.wf d (Memory.putSlice d m a n sl) = true := by
  unfold Memory.putSlice
  suffices hh : ∀ (sl : List (Nat × Byte)) (m : Memory), Memory.wf d m = true →
      Memory.wf d (sl.foldl (fun m c => if c.1 < n then Memory.write d m (a + c.1) c.2 else m) m) = true from
    hh sl _ (memory_clear_wf d m a n h)
  intro sl
  induction sl with
  | nil => intro m h; exact h
  | cons c t ih =>
    intro m h
    simp only [List.foldl_cons]
    refine ih _ ?_
    split
    · exact memory_write_wf d c.2 m _ h
    · exact h

/-- What a read gives after a byte string is written. -/
theorem memory_read_writeBytes (d : Byte) (bs : List Byte) (m : Memory) (a x : Nat) (h : Memory.wf d m = true) :
    Memory.read d (Memory.writeBytes d m a bs) x = if a ≤ x ∧ x < a + bs.length then bs.getD (x - a) d else Memory.read d m x := by
  induction bs generalizing m a with
  | nil => simp only [Memory.writeBytes, List.length_nil]; rw [if_neg (by omega)]
  | cons b t ih =>
    simp only [Memory.writeBytes, ih _ (a + 1) (memory_write_wf d b m a h), memory_read_write d b m a x h, List.length_cons]
    by_cases hx : x = a
    · subst hx; rw [if_neg (by omega), if_pos rfl, if_pos (by omega)]; simp
    · rw [if_neg hx]
      by_cases hi : a + 1 ≤ x ∧ x < a + 1 + t.length
      · rw [if_pos hi, if_pos (by omega)]
        obtain ⟨n, hn⟩ : ∃ n, x - a = n + 1 := ⟨x - a - 1, by omega⟩
        rw [hn, show x - (a + 1) = n by omega]; simp
      · rw [if_neg hi, if_neg (by omega)]

theorem memory_read_clear (d : Byte) (m : Memory) (a n x : Nat) (h : Memory.wf d m = true) :
    Memory.read d (Memory.clear m a n) x = if a ≤ x ∧ x < a + n then d else Memory.read d m x := by
  simp only [Memory.wf, wfD, Bool.and_eq_true] at h
  simp only [Memory.read, Memory.clear, getD]
  rw [lookupK_filter (fun k => !(decide (a ≤ k) && decide (k < a + n))) x m h.1]
  by_cases hx : a ≤ x ∧ x < a + n
  · simp [hx]
  · rw [if_neg hx, if_pos]; simp; omega

/-- A read of n bytes is n reads of one byte. -/
theorem memory_readBytes (d : Byte) (m : Memory) (a n : Nat) (h : Memory.wf d m = true) :
    Memory.readBytes d m a n = (List.range n).map (fun i => Memory.read d m (a + i)) := by
  simp only [Memory.wf, wfD, Bool.and_eq_true] at h
  unfold Memory.readBytes
  refine List.map_congr_left fun i hi => ?_
  have := List.mem_range.mp hi
  simp only [Memory.read, getD]
  rw [lookupK_filter (fun k => decide (a ≤ k) && decide (k < a + n)) (a + i) m h.1, if_pos (by simp; omega)]

/-- n bytes of a number are n. -/
@[simp] theorem leBytes_length (n v : Nat) : (leBytes n v).length = n := by
  induction n generalizing v with
  | zero => rfl
  | succ n ih => simp [leBytes, ih]

theorem leVal_leBytes (n v : Nat) : leVal (leBytes n v) = v % 256 ^ n := by
  induction n generalizing v with
  | zero => simp [leBytes, leVal, Nat.mod_one]
  | succ n ih =>
    simp only [leBytes, leVal, ih, BitVec.toNat_ofNat]
    rw [show (256 : Nat) ^ (n + 1) = 256 * 256 ^ n from by rw [Nat.pow_succ, Nat.mul_comm], Nat.mod_mul]

/-- Reading back a byte string that was written. -/
theorem memory_readBytes_writeBytes (d : Byte) (bs : List Byte) (m : Memory) (a : Nat) (h : Memory.wf d m = true) :
    Memory.readBytes d (Memory.writeBytes d m a bs) a bs.length = bs := by
  rw [memory_readBytes d _ a bs.length (memory_writeBytes_wf d bs m a h)]
  apply List.ext_getElem
  · simp
  · intro i h1 h2
    simp only [List.getElem_map, List.getElem_range]
    rw [memory_read_writeBytes d bs m a _ h, if_pos (by omega), show a + i - a = i by omega, List.getD_eq_getElem _ _ h2]

/-- Bytes outside what was written read as before. -/
theorem memory_readBytes_other (d : Byte) (bs : List Byte) (m : Memory) (a b n : Nat) (h : Memory.wf d m = true)
    (hd : b + n ≤ a ∨ a + bs.length ≤ b) :
    Memory.readBytes d (Memory.writeBytes d m a bs) b n = Memory.readBytes d m b n := by
  rw [memory_readBytes d _ b n (memory_writeBytes_wf d bs m a h), memory_readBytes d m b n h]
  refine List.map_congr_left fun i hi => ?_
  have := List.mem_range.mp hi
  rw [memory_read_writeBytes d bs m a _ h, if_neg (by omega)]

end Sys2Proof.Laws
end

