-- ==== Sys2Proof/Laws/State.lean ====
section
/-!
SUPPORT. What the updates of the state leave alone, and what a guarded write does.
-/
namespace Sys2Proof.Laws
open Sys2Proof Sys2Proof.Machine

@[simp] theorem put_dev (s : State) (d : Dev) : (s.put d).dev = d := rfl
@[simp] theorem put_pending (s : State) (d : Dev) : (s.put d).pending = s.pending := rfl
@[simp] theorem put_put (s : State) (d e : Dev) : (s.put d).put e = s.put e := rfl
@[simp] theorem put_self (s : State) : s.put s.dev = s := rfl
theorem onDev_eq (s : State) (f : Dev → Dev) : s.onDev f = .next (s.put (f s.dev)) := rfl

/-! ### Updates of the device -/

@[simp] theorem modCore_fields (s : Dev) (f : CoreSt → CoreSt) :
    (s.modCore f).core = f s.core ∧ (s.modCore f).ticks = s.ticks ∧ (s.modCore f).pins = s.pins ∧
    (s.modCore f).regs = s.regs ∧ (s.modCore f).pairLatch = s.pairLatch ∧ (s.modCore f).charter = s.charter ∧
    (s.modCore f).hlnk = s.hlnk ∧ (s.modCore f).dctl = s.dctl ∧ (s.modCore f).trn = s.trn ∧ (s.modCore f).gmap = s.gmap ∧
    (s.modCore f).fery = s.fery ∧ (s.modCore f).xing = s.xing ∧ (s.modCore f).land = s.land ∧ (s.modCore f).flsh = s.flsh ∧
    (s.modCore f).chtr = s.chtr ∧ (s.modCore f).ciph = s.ciph ∧ (s.modCore f).chk = s.chk ∧ (s.modCore f).seq = s.seq ∧
    (s.modCore f).batt = s.batt ∧ (s.modCore f).twb = s.twb ∧ (s.modCore f).log = s.log ∧ (s.modCore f).upd = s.upd ∧
    (s.modCore f).dram = s.dram ∧ (s.modCore f).poisonLines = s.poisonLines ∧ (s.modCore f).nor = s.nor ∧
    (s.modCore f).fram = s.fram ∧ (s.modCore f).freeCtr = s.freeCtr ∧ (s.modCore f).todo = s.todo ∧ (s.modCore f).out = s.out :=
  ⟨rfl, rfl, rfl, rfl, rfl, rfl, rfl, rfl, rfl, rfl, rfl, rfl, rfl, rfl, rfl, rfl, rfl, rfl, rfl, rfl, rfl, rfl, rfl, rfl, rfl, rfl, rfl, rfl, rfl⟩

@[simp] theorem modHlnk_fields (s : Dev) (f : HlnkSt → HlnkSt) :
    (s.modHlnk f).hlnk = f s.hlnk ∧ (s.modHlnk f).ticks = s.ticks ∧ (s.modHlnk f).pins = s.pins ∧
    (s.modHlnk f).regs = s.regs ∧ (s.modHlnk f).pairLatch = s.pairLatch ∧ (s.modHlnk f).core = s.core ∧
    (s.modHlnk f).charter = s.charter ∧ (s.modHlnk f).dctl = s.dctl ∧ (s.modHlnk f).trn = s.trn ∧
    (s.modHlnk f).gmap = s.gmap ∧ (s.modHlnk f).fery = s.fery ∧ (s.modHlnk f).xing = s.xing ∧ (s.modHlnk f).land = s.land ∧
    (s.modHlnk f).flsh = s.flsh ∧ (s.modHlnk f).chtr = s.chtr ∧ (s.modHlnk f).ciph = s.ciph ∧ (s.modHlnk f).chk = s.chk ∧
    (s.modHlnk f).seq = s.seq ∧ (s.modHlnk f).batt = s.batt ∧ (s.modHlnk f).twb = s.twb ∧ (s.modHlnk f).log = s.log ∧
    (s.modHlnk f).upd = s.upd ∧ (s.modHlnk f).dram = s.dram ∧ (s.modHlnk f).poisonLines = s.poisonLines ∧
    (s.modHlnk f).nor = s.nor ∧ (s.modHlnk f).fram = s.fram ∧ (s.modHlnk f).freeCtr = s.freeCtr ∧
    (s.modHlnk f).todo = s.todo ∧ (s.modHlnk f).out = s.out :=
  ⟨rfl, rfl, rfl, rfl, rfl, rfl, rfl, rfl, rfl, rfl, rfl, rfl, rfl, rfl, rfl, rfl, rfl, rfl, rfl, rfl, rfl, rfl, rfl, rfl, rfl, rfl, rfl, rfl, rfl⟩

@[simp] theorem modDctl_fields (s : Dev) (f : DctlSt → DctlSt) :
    (s.modDctl f).dctl = f s.dctl ∧ (s.modDctl f).ticks = s.ticks ∧ (s.modDctl f).pins = s.pins ∧
    (s.modDctl f).regs = s.regs ∧ (s.modDctl f).pairLatch = s.pairLatch ∧ (s.modDctl f).core = s.core ∧
    (s.modDctl f).charter = s.charter ∧ (s.modDctl f).hlnk = s.hlnk ∧ (s.modDctl f).trn = s.trn ∧
    (s.modDctl f).gmap = s.gmap ∧ (s.modDctl f).fery = s.fery ∧ (s.modDctl f).xing = s.xing ∧ (s.modDctl f).land = s.land ∧
    (s.modDctl f).flsh = s.flsh ∧ (s.modDctl f).chtr = s.chtr ∧ (s.modDctl f).ciph = s.ciph ∧ (s.modDctl f).chk = s.chk ∧
    (s.modDctl f).seq = s.seq ∧ (s.modDctl f).batt = s.batt ∧ (s.modDctl f).twb = s.twb ∧ (s.modDctl f).log = s.log ∧
    (s.modDctl f).upd = s.upd ∧ (s.modDctl f).dram = s.dram ∧ (s.modDctl f).poisonLines = s.poisonLines ∧
    (s.modDctl f).nor = s.nor ∧ (s.modDctl f).fram = s.fram ∧ (s.modDctl f).freeCtr = s.freeCtr ∧
    (s.modDctl f).todo = s.todo ∧ (s.modDctl f).out = s.out :=
  ⟨rfl, rfl, rfl, rfl, rfl, rfl, rfl, rfl, rfl, rfl, rfl, rfl, rfl, rfl, rfl, rfl, rfl, rfl, rfl, rfl, rfl, rfl, rfl, rfl, rfl, rfl, rfl, rfl, rfl⟩

@[simp] theorem modGmap_fields (s : Dev) (f : GmapSt → GmapSt) :
    (s.modGmap f).gmap = f s.gmap ∧ (s.modGmap f).ticks = s.ticks ∧ (s.modGmap f).pins = s.pins ∧
    (s.modGmap f).regs = s.regs ∧ (s.modGmap f).pairLatch = s.pairLatch ∧ (s.modGmap f).core = s.core ∧
    (s.modGmap f).charter = s.charter ∧ (s.modGmap f).hlnk = s.hlnk ∧ (s.modGmap f).dctl = s.dctl ∧
    (s.modGmap f).trn = s.trn ∧ (s.modGmap f).fery = s.fery ∧ (s.modGmap f).xing = s.xing ∧ (s.modGmap f).land = s.land ∧
    (s.modGmap f).flsh = s.flsh ∧ (s.modGmap f).chtr = s.chtr ∧ (s.modGmap f).ciph = s.ciph ∧ (s.modGmap f).chk = s.chk ∧
    (s.modGmap f).seq = s.seq ∧ (s.modGmap f).batt = s.batt ∧ (s.modGmap f).twb = s.twb ∧ (s.modGmap f).log = s.log ∧
    (s.modGmap f).upd = s.upd ∧ (s.modGmap f).dram = s.dram ∧ (s.modGmap f).poisonLines = s.poisonLines ∧
    (s.modGmap f).nor = s.nor ∧ (s.modGmap f).fram = s.fram ∧ (s.modGmap f).freeCtr = s.freeCtr ∧
    (s.modGmap f).todo = s.todo ∧ (s.modGmap f).out = s.out :=
  ⟨rfl, rfl, rfl, rfl, rfl, rfl, rfl, rfl, rfl, rfl, rfl, rfl, rfl, rfl, rfl, rfl, rfl, rfl, rfl, rfl, rfl, rfl, rfl, rfl, rfl, rfl, rfl, rfl, rfl⟩

@[simp] theorem modFery_fields (s : Dev) (f : FerySt → FerySt) :
    (s.modFery f).fery = f s.fery ∧ (s.modFery f).ticks = s.ticks ∧ (s.modFery f).pins = s.pins ∧
    (s.modFery f).regs = s.regs ∧ (s.modFery f).pairLatch = s.pairLatch ∧ (s.modFery f).core = s.core ∧
    (s.modFery f).charter = s.charter ∧ (s.modFery f).hlnk = s.hlnk ∧ (s.modFery f).dctl = s.dctl ∧
    (s.modFery f).trn = s.trn ∧ (s.modFery f).gmap = s.gmap ∧ (s.modFery f).xing = s.xing ∧ (s.modFery f).land = s.land ∧
    (s.modFery f).flsh = s.flsh ∧ (s.modFery f).chtr = s.chtr ∧ (s.modFery f).ciph = s.ciph ∧ (s.modFery f).chk = s.chk ∧
    (s.modFery f).seq = s.seq ∧ (s.modFery f).batt = s.batt ∧ (s.modFery f).twb = s.twb ∧ (s.modFery f).log = s.log ∧
    (s.modFery f).upd = s.upd ∧ (s.modFery f).dram = s.dram ∧ (s.modFery f).poisonLines = s.poisonLines ∧
    (s.modFery f).nor = s.nor ∧ (s.modFery f).fram = s.fram ∧ (s.modFery f).freeCtr = s.freeCtr ∧
    (s.modFery f).todo = s.todo ∧ (s.modFery f).out = s.out :=
  ⟨rfl, rfl, rfl, rfl, rfl, rfl, rfl, rfl, rfl, rfl, rfl, rfl, rfl, rfl, rfl, rfl, rfl, rfl, rfl, rfl, rfl, rfl, rfl, rfl, rfl, rfl, rfl, rfl, rfl⟩

@[simp] theorem modXing_fields (s : Dev) (f : XingSt → XingSt) :
    (s.modXing f).xing = f s.xing ∧ (s.modXing f).ticks = s.ticks ∧ (s.modXing f).pins = s.pins ∧
    (s.modXing f).regs = s.regs ∧ (s.modXing f).pairLatch = s.pairLatch ∧ (s.modXing f).core = s.core ∧
    (s.modXing f).charter = s.charter ∧ (s.modXing f).hlnk = s.hlnk ∧ (s.modXing f).dctl = s.dctl ∧
    (s.modXing f).trn = s.trn ∧ (s.modXing f).gmap = s.gmap ∧ (s.modXing f).fery = s.fery ∧ (s.modXing f).land = s.land ∧
    (s.modXing f).flsh = s.flsh ∧ (s.modXing f).chtr = s.chtr ∧ (s.modXing f).ciph = s.ciph ∧ (s.modXing f).chk = s.chk ∧
    (s.modXing f).seq = s.seq ∧ (s.modXing f).batt = s.batt ∧ (s.modXing f).twb = s.twb ∧ (s.modXing f).log = s.log ∧
    (s.modXing f).upd = s.upd ∧ (s.modXing f).dram = s.dram ∧ (s.modXing f).poisonLines = s.poisonLines ∧
    (s.modXing f).nor = s.nor ∧ (s.modXing f).fram = s.fram ∧ (s.modXing f).freeCtr = s.freeCtr ∧
    (s.modXing f).todo = s.todo ∧ (s.modXing f).out = s.out :=
  ⟨rfl, rfl, rfl, rfl, rfl, rfl, rfl, rfl, rfl, rfl, rfl, rfl, rfl, rfl, rfl, rfl, rfl, rfl, rfl, rfl, rfl, rfl, rfl, rfl, rfl, rfl, rfl, rfl, rfl⟩

@[simp] theorem modLand_fields (s : Dev) (f : LandSt → LandSt) :
    (s.modLand f).land = f s.land ∧ (s.modLand f).ticks = s.ticks ∧ (s.modLand f).pins = s.pins ∧
    (s.modLand f).regs = s.regs ∧ (s.modLand f).pairLatch = s.pairLatch ∧ (s.modLand f).core = s.core ∧
    (s.modLand f).charter = s.charter ∧ (s.modLand f).hlnk = s.hlnk ∧ (s.modLand f).dctl = s.dctl ∧
    (s.modLand f).trn = s.trn ∧ (s.modLand f).gmap = s.gmap ∧ (s.modLand f).fery = s.fery ∧ (s.modLand f).xing = s.xing ∧
    (s.modLand f).flsh = s.flsh ∧ (s.modLand f).chtr = s.chtr ∧ (s.modLand f).ciph = s.ciph ∧ (s.modLand f).chk = s.chk ∧
    (s.modLand f).seq = s.seq ∧ (s.modLand f).batt = s.batt ∧ (s.modLand f).twb = s.twb ∧ (s.modLand f).log = s.log ∧
    (s.modLand f).upd = s.upd ∧ (s.modLand f).dram = s.dram ∧ (s.modLand f).poisonLines = s.poisonLines ∧
    (s.modLand f).nor = s.nor ∧ (s.modLand f).fram = s.fram ∧ (s.modLand f).freeCtr = s.freeCtr ∧
    (s.modLand f).todo = s.todo ∧ (s.modLand f).out = s.out :=
  ⟨rfl, rfl, rfl, rfl, rfl, rfl, rfl, rfl, rfl, rfl, rfl, rfl, rfl, rfl, rfl, rfl, rfl, rfl, rfl, rfl, rfl, rfl, rfl, rfl, rfl, rfl, rfl, rfl, rfl⟩

@[simp] theorem modFlsh_fields (s : Dev) (f : FlshSt → FlshSt) :
    (s.modFlsh f).flsh = f s.flsh ∧ (s.modFlsh f).ticks = s.ticks ∧ (s.modFlsh f).pins = s.pins ∧
    (s.modFlsh f).regs = s.regs ∧ (s.modFlsh f).pairLatch = s.pairLatch ∧ (s.modFlsh f).core = s.core ∧
    (s.modFlsh f).charter = s.charter ∧ (s.modFlsh f).hlnk = s.hlnk ∧ (s.modFlsh f).dctl = s.dctl ∧
    (s.modFlsh f).trn = s.trn ∧ (s.modFlsh f).gmap = s.gmap ∧ (s.modFlsh f).fery = s.fery ∧ (s.modFlsh f).xing = s.xing ∧
    (s.modFlsh f).land = s.land ∧ (s.modFlsh f).chtr = s.chtr ∧ (s.modFlsh f).ciph = s.ciph ∧ (s.modFlsh f).chk = s.chk ∧
    (s.modFlsh f).seq = s.seq ∧ (s.modFlsh f).batt = s.batt ∧ (s.modFlsh f).twb = s.twb ∧ (s.modFlsh f).log = s.log ∧
    (s.modFlsh f).upd = s.upd ∧ (s.modFlsh f).dram = s.dram ∧ (s.modFlsh f).poisonLines = s.poisonLines ∧
    (s.modFlsh f).nor = s.nor ∧ (s.modFlsh f).fram = s.fram ∧ (s.modFlsh f).freeCtr = s.freeCtr ∧
    (s.modFlsh f).todo = s.todo ∧ (s.modFlsh f).out = s.out :=
  ⟨rfl, rfl, rfl, rfl, rfl, rfl, rfl, rfl, rfl, rfl, rfl, rfl, rfl, rfl, rfl, rfl, rfl, rfl, rfl, rfl, rfl, rfl, rfl, rfl, rfl, rfl, rfl, rfl, rfl⟩

@[simp] theorem modChtr_fields (s : Dev) (f : ChtrSt → ChtrSt) :
    (s.modChtr f).chtr = f s.chtr ∧ (s.modChtr f).ticks = s.ticks ∧ (s.modChtr f).pins = s.pins ∧
    (s.modChtr f).regs = s.regs ∧ (s.modChtr f).pairLatch = s.pairLatch ∧ (s.modChtr f).core = s.core ∧
    (s.modChtr f).charter = s.charter ∧ (s.modChtr f).hlnk = s.hlnk ∧ (s.modChtr f).dctl = s.dctl ∧
    (s.modChtr f).trn = s.trn ∧ (s.modChtr f).gmap = s.gmap ∧ (s.modChtr f).fery = s.fery ∧ (s.modChtr f).xing = s.xing ∧
    (s.modChtr f).land = s.land ∧ (s.modChtr f).flsh = s.flsh ∧ (s.modChtr f).ciph = s.ciph ∧ (s.modChtr f).chk = s.chk ∧
    (s.modChtr f).seq = s.seq ∧ (s.modChtr f).batt = s.batt ∧ (s.modChtr f).twb = s.twb ∧ (s.modChtr f).log = s.log ∧
    (s.modChtr f).upd = s.upd ∧ (s.modChtr f).dram = s.dram ∧ (s.modChtr f).poisonLines = s.poisonLines ∧
    (s.modChtr f).nor = s.nor ∧ (s.modChtr f).fram = s.fram ∧ (s.modChtr f).freeCtr = s.freeCtr ∧
    (s.modChtr f).todo = s.todo ∧ (s.modChtr f).out = s.out :=
  ⟨rfl, rfl, rfl, rfl, rfl, rfl, rfl, rfl, rfl, rfl, rfl, rfl, rfl, rfl, rfl, rfl, rfl, rfl, rfl, rfl, rfl, rfl, rfl, rfl, rfl, rfl, rfl, rfl, rfl⟩

@[simp] theorem modCiph_fields (s : Dev) (f : CiphSt → CiphSt) :
    (s.modCiph f).ciph = f s.ciph ∧ (s.modCiph f).ticks = s.ticks ∧ (s.modCiph f).pins = s.pins ∧
    (s.modCiph f).regs = s.regs ∧ (s.modCiph f).pairLatch = s.pairLatch ∧ (s.modCiph f).core = s.core ∧
    (s.modCiph f).charter = s.charter ∧ (s.modCiph f).hlnk = s.hlnk ∧ (s.modCiph f).dctl = s.dctl ∧
    (s.modCiph f).trn = s.trn ∧ (s.modCiph f).gmap = s.gmap ∧ (s.modCiph f).fery = s.fery ∧ (s.modCiph f).xing = s.xing ∧
    (s.modCiph f).land = s.land ∧ (s.modCiph f).flsh = s.flsh ∧ (s.modCiph f).chtr = s.chtr ∧ (s.modCiph f).chk = s.chk ∧
    (s.modCiph f).seq = s.seq ∧ (s.modCiph f).batt = s.batt ∧ (s.modCiph f).twb = s.twb ∧ (s.modCiph f).log = s.log ∧
    (s.modCiph f).upd = s.upd ∧ (s.modCiph f).dram = s.dram ∧ (s.modCiph f).poisonLines = s.poisonLines ∧
    (s.modCiph f).nor = s.nor ∧ (s.modCiph f).fram = s.fram ∧ (s.modCiph f).freeCtr = s.freeCtr ∧
    (s.modCiph f).todo = s.todo ∧ (s.modCiph f).out = s.out :=
  ⟨rfl, rfl, rfl, rfl, rfl, rfl, rfl, rfl, rfl, rfl, rfl, rfl, rfl, rfl, rfl, rfl, rfl, rfl, rfl, rfl, rfl, rfl, rfl, rfl, rfl, rfl, rfl, rfl, rfl⟩

@[simp] theorem modSeq_fields (s : Dev) (f : SeqSt → SeqSt) :
    (s.modSeq f).seq = f s.seq ∧ (s.modSeq f).ticks = s.ticks ∧ (s.modSeq f).pins = s.pins ∧ (s.modSeq f).regs = s.regs ∧
    (s.modSeq f).pairLatch = s.pairLatch ∧ (s.modSeq f).core = s.core ∧ (s.modSeq f).charter = s.charter ∧
    (s.modSeq f).hlnk = s.hlnk ∧ (s.modSeq f).dctl = s.dctl ∧ (s.modSeq f).trn = s.trn ∧ (s.modSeq f).gmap = s.gmap ∧
    (s.modSeq f).fery = s.fery ∧ (s.modSeq f).xing = s.xing ∧ (s.modSeq f).land = s.land ∧ (s.modSeq f).flsh = s.flsh ∧
    (s.modSeq f).chtr = s.chtr ∧ (s.modSeq f).ciph = s.ciph ∧ (s.modSeq f).chk = s.chk ∧ (s.modSeq f).batt = s.batt ∧
    (s.modSeq f).twb = s.twb ∧ (s.modSeq f).log = s.log ∧ (s.modSeq f).upd = s.upd ∧ (s.modSeq f).dram = s.dram ∧
    (s.modSeq f).poisonLines = s.poisonLines ∧ (s.modSeq f).nor = s.nor ∧ (s.modSeq f).fram = s.fram ∧
    (s.modSeq f).freeCtr = s.freeCtr ∧ (s.modSeq f).todo = s.todo ∧ (s.modSeq f).out = s.out :=
  ⟨rfl, rfl, rfl, rfl, rfl, rfl, rfl, rfl, rfl, rfl, rfl, rfl, rfl, rfl, rfl, rfl, rfl, rfl, rfl, rfl, rfl, rfl, rfl, rfl, rfl, rfl, rfl, rfl, rfl⟩

@[simp] theorem modBatt_fields (s : Dev) (f : BattSt → BattSt) :
    (s.modBatt f).batt = f s.batt ∧ (s.modBatt f).ticks = s.ticks ∧ (s.modBatt f).pins = s.pins ∧
    (s.modBatt f).regs = s.regs ∧ (s.modBatt f).pairLatch = s.pairLatch ∧ (s.modBatt f).core = s.core ∧
    (s.modBatt f).charter = s.charter ∧ (s.modBatt f).hlnk = s.hlnk ∧ (s.modBatt f).dctl = s.dctl ∧
    (s.modBatt f).trn = s.trn ∧ (s.modBatt f).gmap = s.gmap ∧ (s.modBatt f).fery = s.fery ∧ (s.modBatt f).xing = s.xing ∧
    (s.modBatt f).land = s.land ∧ (s.modBatt f).flsh = s.flsh ∧ (s.modBatt f).chtr = s.chtr ∧ (s.modBatt f).ciph = s.ciph ∧
    (s.modBatt f).chk = s.chk ∧ (s.modBatt f).seq = s.seq ∧ (s.modBatt f).twb = s.twb ∧ (s.modBatt f).log = s.log ∧
    (s.modBatt f).upd = s.upd ∧ (s.modBatt f).dram = s.dram ∧ (s.modBatt f).poisonLines = s.poisonLines ∧
    (s.modBatt f).nor = s.nor ∧ (s.modBatt f).fram = s.fram ∧ (s.modBatt f).freeCtr = s.freeCtr ∧
    (s.modBatt f).todo = s.todo ∧ (s.modBatt f).out = s.out :=
  ⟨rfl, rfl, rfl, rfl, rfl, rfl, rfl, rfl, rfl, rfl, rfl, rfl, rfl, rfl, rfl, rfl, rfl, rfl, rfl, rfl, rfl, rfl, rfl, rfl, rfl, rfl, rfl, rfl, rfl⟩

@[simp] theorem modTwbSt_fields (s : Dev) (f : TwbSt → TwbSt) :
    (s.modTwbSt f).twb = f s.twb ∧ (s.modTwbSt f).ticks = s.ticks ∧ (s.modTwbSt f).pins = s.pins ∧
    (s.modTwbSt f).regs = s.regs ∧ (s.modTwbSt f).pairLatch = s.pairLatch ∧ (s.modTwbSt f).core = s.core ∧
    (s.modTwbSt f).charter = s.charter ∧ (s.modTwbSt f).hlnk = s.hlnk ∧ (s.modTwbSt f).dctl = s.dctl ∧
    (s.modTwbSt f).trn = s.trn ∧ (s.modTwbSt f).gmap = s.gmap ∧ (s.modTwbSt f).fery = s.fery ∧ (s.modTwbSt f).xing = s.xing ∧
    (s.modTwbSt f).land = s.land ∧ (s.modTwbSt f).flsh = s.flsh ∧ (s.modTwbSt f).chtr = s.chtr ∧
    (s.modTwbSt f).ciph = s.ciph ∧ (s.modTwbSt f).chk = s.chk ∧ (s.modTwbSt f).seq = s.seq ∧ (s.modTwbSt f).batt = s.batt ∧
    (s.modTwbSt f).log = s.log ∧ (s.modTwbSt f).upd = s.upd ∧ (s.modTwbSt f).dram = s.dram ∧
    (s.modTwbSt f).poisonLines = s.poisonLines ∧ (s.modTwbSt f).nor = s.nor ∧ (s.modTwbSt f).fram = s.fram ∧
    (s.modTwbSt f).freeCtr = s.freeCtr ∧ (s.modTwbSt f).todo = s.todo ∧ (s.modTwbSt f).out = s.out :=
  ⟨rfl, rfl, rfl, rfl, rfl, rfl, rfl, rfl, rfl, rfl, rfl, rfl, rfl, rfl, rfl, rfl, rfl, rfl, rfl, rfl, rfl, rfl, rfl, rfl, rfl, rfl, rfl, rfl, rfl⟩

@[simp] theorem modLog_fields (s : Dev) (f : LogSt → LogSt) :
    (s.modLog f).log = f s.log ∧ (s.modLog f).ticks = s.ticks ∧ (s.modLog f).pins = s.pins ∧ (s.modLog f).regs = s.regs ∧
    (s.modLog f).pairLatch = s.pairLatch ∧ (s.modLog f).core = s.core ∧ (s.modLog f).charter = s.charter ∧
    (s.modLog f).hlnk = s.hlnk ∧ (s.modLog f).dctl = s.dctl ∧ (s.modLog f).trn = s.trn ∧ (s.modLog f).gmap = s.gmap ∧
    (s.modLog f).fery = s.fery ∧ (s.modLog f).xing = s.xing ∧ (s.modLog f).land = s.land ∧ (s.modLog f).flsh = s.flsh ∧
    (s.modLog f).chtr = s.chtr ∧ (s.modLog f).ciph = s.ciph ∧ (s.modLog f).chk = s.chk ∧ (s.modLog f).seq = s.seq ∧
    (s.modLog f).batt = s.batt ∧ (s.modLog f).twb = s.twb ∧ (s.modLog f).upd = s.upd ∧ (s.modLog f).dram = s.dram ∧
    (s.modLog f).poisonLines = s.poisonLines ∧ (s.modLog f).nor = s.nor ∧ (s.modLog f).fram = s.fram ∧
    (s.modLog f).freeCtr = s.freeCtr ∧ (s.modLog f).todo = s.todo ∧ (s.modLog f).out = s.out :=
  ⟨rfl, rfl, rfl, rfl, rfl, rfl, rfl, rfl, rfl, rfl, rfl, rfl, rfl, rfl, rfl, rfl, rfl, rfl, rfl, rfl, rfl, rfl, rfl, rfl, rfl, rfl, rfl, rfl, rfl⟩

@[simp] theorem modUpd_fields (s : Dev) (f : UpdSt → UpdSt) :
    (s.modUpd f).upd = f s.upd ∧ (s.modUpd f).ticks = s.ticks ∧ (s.modUpd f).pins = s.pins ∧ (s.modUpd f).regs = s.regs ∧
    (s.modUpd f).pairLatch = s.pairLatch ∧ (s.modUpd f).core = s.core ∧ (s.modUpd f).charter = s.charter ∧
    (s.modUpd f).hlnk = s.hlnk ∧ (s.modUpd f).dctl = s.dctl ∧ (s.modUpd f).trn = s.trn ∧ (s.modUpd f).gmap = s.gmap ∧
    (s.modUpd f).fery = s.fery ∧ (s.modUpd f).xing = s.xing ∧ (s.modUpd f).land = s.land ∧ (s.modUpd f).flsh = s.flsh ∧
    (s.modUpd f).chtr = s.chtr ∧ (s.modUpd f).ciph = s.ciph ∧ (s.modUpd f).chk = s.chk ∧ (s.modUpd f).seq = s.seq ∧
    (s.modUpd f).batt = s.batt ∧ (s.modUpd f).twb = s.twb ∧ (s.modUpd f).log = s.log ∧ (s.modUpd f).dram = s.dram ∧
    (s.modUpd f).poisonLines = s.poisonLines ∧ (s.modUpd f).nor = s.nor ∧ (s.modUpd f).fram = s.fram ∧
    (s.modUpd f).freeCtr = s.freeCtr ∧ (s.modUpd f).todo = s.todo ∧ (s.modUpd f).out = s.out :=
  ⟨rfl, rfl, rfl, rfl, rfl, rfl, rfl, rfl, rfl, rfl, rfl, rfl, rfl, rfl, rfl, rfl, rfl, rfl, rfl, rfl, rfl, rfl, rfl, rfl, rfl, rfl, rfl, rfl, rfl⟩

/-- A register that is set changes the register file only. -/
@[simp] theorem setReg_fields (s : Dev) (off : Nat) (v : Word) :
    (s.setReg off v).ticks = s.ticks ∧ (s.setReg off v).pins = s.pins ∧ (s.setReg off v).pairLatch = s.pairLatch ∧
    (s.setReg off v).core = s.core ∧ (s.setReg off v).charter = s.charter ∧ (s.setReg off v).hlnk = s.hlnk ∧
    (s.setReg off v).dctl = s.dctl ∧ (s.setReg off v).trn = s.trn ∧ (s.setReg off v).gmap = s.gmap ∧
    (s.setReg off v).fery = s.fery ∧ (s.setReg off v).xing = s.xing ∧ (s.setReg off v).land = s.land ∧
    (s.setReg off v).flsh = s.flsh ∧ (s.setReg off v).chtr = s.chtr ∧ (s.setReg off v).ciph = s.ciph ∧
    (s.setReg off v).chk = s.chk ∧ (s.setReg off v).seq = s.seq ∧ (s.setReg off v).batt = s.batt ∧
    (s.setReg off v).twb = s.twb ∧ (s.setReg off v).log = s.log ∧ (s.setReg off v).upd = s.upd ∧
    (s.setReg off v).dram = s.dram ∧ (s.setReg off v).poisonLines = s.poisonLines ∧ (s.setReg off v).nor = s.nor ∧
    (s.setReg off v).fram = s.fram ∧ (s.setReg off v).freeCtr = s.freeCtr ∧ (s.setReg off v).todo = s.todo ∧
    (s.setReg off v).out = s.out :=
  ⟨rfl, rfl, rfl, rfl, rfl, rfl, rfl, rfl, rfl, rfl, rfl, rfl, rfl, rfl, rfl, rfl, rfl, rfl, rfl, rfl, rfl, rfl, rfl, rfl, rfl, rfl, rfl, rfl⟩

@[simp] theorem setRegN_fields (s : Dev) (off v : Nat) :
    (s.setRegN off v).ticks = s.ticks ∧ (s.setRegN off v).pins = s.pins ∧ (s.setRegN off v).pairLatch = s.pairLatch ∧
    (s.setRegN off v).core = s.core ∧ (s.setRegN off v).charter = s.charter ∧ (s.setRegN off v).hlnk = s.hlnk ∧
    (s.setRegN off v).dctl = s.dctl ∧ (s.setRegN off v).trn = s.trn ∧ (s.setRegN off v).gmap = s.gmap ∧
    (s.setRegN off v).fery = s.fery ∧ (s.setRegN off v).xing = s.xing ∧ (s.setRegN off v).land = s.land ∧
    (s.setRegN off v).flsh = s.flsh ∧ (s.setRegN off v).chtr = s.chtr ∧ (s.setRegN off v).ciph = s.ciph ∧
    (s.setRegN off v).chk = s.chk ∧ (s.setRegN off v).seq = s.seq ∧ (s.setRegN off v).batt = s.batt ∧
    (s.setRegN off v).twb = s.twb ∧ (s.setRegN off v).log = s.log ∧ (s.setRegN off v).upd = s.upd ∧
    (s.setRegN off v).dram = s.dram ∧ (s.setRegN off v).poisonLines = s.poisonLines ∧ (s.setRegN off v).nor = s.nor ∧
    (s.setRegN off v).fram = s.fram ∧ (s.setRegN off v).freeCtr = s.freeCtr ∧ (s.setRegN off v).todo = s.todo ∧
    (s.setRegN off v).out = s.out :=
  ⟨rfl, rfl, rfl, rfl, rfl, rfl, rfl, rfl, rfl, rfl, rfl, rfl, rfl, rfl, rfl, rfl, rfl, rfl, rfl, rfl, rfl, rfl, rfl, rfl, rfl, rfl, rfl, rfl⟩

@[simp] theorem setRegF_fields (s : Dev) (off lo w v : Nat) :
    (s.setRegF off lo w v).ticks = s.ticks ∧ (s.setRegF off lo w v).pins = s.pins ∧
    (s.setRegF off lo w v).pairLatch = s.pairLatch ∧ (s.setRegF off lo w v).core = s.core ∧
    (s.setRegF off lo w v).charter = s.charter ∧ (s.setRegF off lo w v).hlnk = s.hlnk ∧
    (s.setRegF off lo w v).dctl = s.dctl ∧ (s.setRegF off lo w v).trn = s.trn ∧ (s.setRegF off lo w v).gmap = s.gmap ∧
    (s.setRegF off lo w v).fery = s.fery ∧ (s.setRegF off lo w v).xing = s.xing ∧ (s.setRegF off lo w v).land = s.land ∧
    (s.setRegF off lo w v).flsh = s.flsh ∧ (s.setRegF off lo w v).chtr = s.chtr ∧ (s.setRegF off lo w v).ciph = s.ciph ∧
    (s.setRegF off lo w v).chk = s.chk ∧ (s.setRegF off lo w v).seq = s.seq ∧ (s.setRegF off lo w v).batt = s.batt ∧
    (s.setRegF off lo w v).twb = s.twb ∧ (s.setRegF off lo w v).log = s.log ∧ (s.setRegF off lo w v).upd = s.upd ∧
    (s.setRegF off lo w v).dram = s.dram ∧ (s.setRegF off lo w v).poisonLines = s.poisonLines ∧
    (s.setRegF off lo w v).nor = s.nor ∧ (s.setRegF off lo w v).fram = s.fram ∧ (s.setRegF off lo w v).freeCtr = s.freeCtr ∧
    (s.setRegF off lo w v).todo = s.todo ∧ (s.setRegF off lo w v).out = s.out :=
  ⟨rfl, rfl, rfl, rfl, rfl, rfl, rfl, rfl, rfl, rfl, rfl, rfl, rfl, rfl, rfl, rfl, rfl, rfl, rfl, rfl, rfl, rfl, rfl, rfl, rfl, rfl, rfl, rfl⟩

@[simp] theorem emit_fields (s : Dev) (o : Out) :
    (s.emit o).out = s.out ++ [o] ∧ (s.emit o).ticks = s.ticks ∧ (s.emit o).pins = s.pins ∧ (s.emit o).regs = s.regs ∧
    (s.emit o).pairLatch = s.pairLatch ∧ (s.emit o).core = s.core ∧ (s.emit o).charter = s.charter ∧
    (s.emit o).hlnk = s.hlnk ∧ (s.emit o).dctl = s.dctl ∧ (s.emit o).trn = s.trn ∧ (s.emit o).gmap = s.gmap ∧
    (s.emit o).fery = s.fery ∧ (s.emit o).xing = s.xing ∧ (s.emit o).land = s.land ∧ (s.emit o).flsh = s.flsh ∧
    (s.emit o).chtr = s.chtr ∧ (s.emit o).ciph = s.ciph ∧ (s.emit o).chk = s.chk ∧ (s.emit o).seq = s.seq ∧
    (s.emit o).batt = s.batt ∧ (s.emit o).twb = s.twb ∧ (s.emit o).log = s.log ∧ (s.emit o).upd = s.upd ∧
    (s.emit o).dram = s.dram ∧ (s.emit o).poisonLines = s.poisonLines ∧ (s.emit o).nor = s.nor ∧ (s.emit o).fram = s.fram ∧
    (s.emit o).freeCtr = s.freeCtr ∧ (s.emit o).todo = s.todo :=
  ⟨rfl, rfl, rfl, rfl, rfl, rfl, rfl, rfl, rfl, rfl, rfl, rfl, rfl, rfl, rfl, rfl, rfl, rfl, rfl, rfl, rfl, rfl, rfl, rfl, rfl, rfl, rfl, rfl, rfl⟩

@[simp] theorem note_fields (s : Dev) (n : Note) :
    (s.note n).todo = s.todo ++ [n] ∧ (s.note n).ticks = s.ticks ∧ (s.note n).pins = s.pins ∧ (s.note n).regs = s.regs ∧
    (s.note n).pairLatch = s.pairLatch ∧ (s.note n).core = s.core ∧ (s.note n).charter = s.charter ∧
    (s.note n).hlnk = s.hlnk ∧ (s.note n).dctl = s.dctl ∧ (s.note n).trn = s.trn ∧ (s.note n).gmap = s.gmap ∧
    (s.note n).fery = s.fery ∧ (s.note n).xing = s.xing ∧ (s.note n).land = s.land ∧ (s.note n).flsh = s.flsh ∧
    (s.note n).chtr = s.chtr ∧ (s.note n).ciph = s.ciph ∧ (s.note n).chk = s.chk ∧ (s.note n).seq = s.seq ∧
    (s.note n).batt = s.batt ∧ (s.note n).twb = s.twb ∧ (s.note n).log = s.log ∧ (s.note n).upd = s.upd ∧
    (s.note n).dram = s.dram ∧ (s.note n).poisonLines = s.poisonLines ∧ (s.note n).nor = s.nor ∧ (s.note n).fram = s.fram ∧
    (s.note n).freeCtr = s.freeCtr ∧ (s.note n).out = s.out :=
  ⟨rfl, rfl, rfl, rfl, rfl, rfl, rfl, rfl, rfl, rfl, rfl, rfl, rfl, rfl, rfl, rfl, rfl, rfl, rfl, rfl, rfl, rfl, rfl, rfl, rfl, rfl, rfl, rfl, rfl⟩

@[simp] theorem drew_fields (s : Dev)  :
    (s.drew).freeCtr = s.freeCtr + 1 ∧ (s.drew).ticks = s.ticks ∧ (s.drew).pins = s.pins ∧ (s.drew).regs = s.regs ∧
    (s.drew).pairLatch = s.pairLatch ∧ (s.drew).core = s.core ∧ (s.drew).charter = s.charter ∧ (s.drew).hlnk = s.hlnk ∧
    (s.drew).dctl = s.dctl ∧ (s.drew).trn = s.trn ∧ (s.drew).gmap = s.gmap ∧ (s.drew).fery = s.fery ∧
    (s.drew).xing = s.xing ∧ (s.drew).land = s.land ∧ (s.drew).flsh = s.flsh ∧ (s.drew).chtr = s.chtr ∧
    (s.drew).ciph = s.ciph ∧ (s.drew).chk = s.chk ∧ (s.drew).seq = s.seq ∧ (s.drew).batt = s.batt ∧ (s.drew).twb = s.twb ∧
    (s.drew).log = s.log ∧ (s.drew).upd = s.upd ∧ (s.drew).dram = s.dram ∧ (s.drew).poisonLines = s.poisonLines ∧
    (s.drew).nor = s.nor ∧ (s.drew).fram = s.fram ∧ (s.drew).todo = s.todo ∧ (s.drew).out = s.out :=
  ⟨rfl, rfl, rfl, rfl, rfl, rfl, rfl, rfl, rfl, rfl, rfl, rfl, rfl, rfl, rfl, rfl, rfl, rfl, rfl, rfl, rfl, rfl, rfl, rfl, rfl, rfl, rfl, rfl, rfl⟩

@[simp] theorem notifyEv_fields (s : Dev) (n : Nat) :
    (s.notifyEv n).ticks = s.ticks ∧ (s.notifyEv n).pins = s.pins ∧ (s.notifyEv n).regs = s.regs ∧
    (s.notifyEv n).pairLatch = s.pairLatch ∧ (s.notifyEv n).core = s.core ∧ (s.notifyEv n).charter = s.charter ∧
    (s.notifyEv n).hlnk = s.hlnk ∧ (s.notifyEv n).dctl = s.dctl ∧ (s.notifyEv n).trn = s.trn ∧ (s.notifyEv n).gmap = s.gmap ∧
    (s.notifyEv n).fery = s.fery ∧ (s.notifyEv n).xing = s.xing ∧ (s.notifyEv n).land = s.land ∧
    (s.notifyEv n).flsh = s.flsh ∧ (s.notifyEv n).chtr = s.chtr ∧ (s.notifyEv n).ciph = s.ciph ∧ (s.notifyEv n).chk = s.chk ∧
    (s.notifyEv n).seq = s.seq ∧ (s.notifyEv n).batt = s.batt ∧ (s.notifyEv n).log = s.log ∧ (s.notifyEv n).upd = s.upd ∧
    (s.notifyEv n).dram = s.dram ∧ (s.notifyEv n).poisonLines = s.poisonLines ∧ (s.notifyEv n).nor = s.nor ∧
    (s.notifyEv n).fram = s.fram ∧ (s.notifyEv n).freeCtr = s.freeCtr ∧ (s.notifyEv n).todo = s.todo ∧
    (s.notifyEv n).out = s.out :=
  by unfold Dev.notifyEv; split <;> simp

@[simp] theorem signal_fields (s : Dev) (ld : Fin 16) (v : Fin 4) :
    (s.signal ld v).ticks = s.ticks ∧ (s.signal ld v).pins = s.pins ∧ (s.signal ld v).regs = s.regs ∧
    (s.signal ld v).pairLatch = s.pairLatch ∧ (s.signal ld v).core = s.core ∧ (s.signal ld v).charter = s.charter ∧
    (s.signal ld v).dctl = s.dctl ∧ (s.signal ld v).trn = s.trn ∧ (s.signal ld v).gmap = s.gmap ∧
    (s.signal ld v).fery = s.fery ∧ (s.signal ld v).xing = s.xing ∧ (s.signal ld v).land = s.land ∧
    (s.signal ld v).flsh = s.flsh ∧ (s.signal ld v).chtr = s.chtr ∧ (s.signal ld v).ciph = s.ciph ∧
    (s.signal ld v).chk = s.chk ∧ (s.signal ld v).seq = s.seq ∧ (s.signal ld v).batt = s.batt ∧ (s.signal ld v).twb = s.twb ∧
    (s.signal ld v).log = s.log ∧ (s.signal ld v).upd = s.upd ∧ (s.signal ld v).dram = s.dram ∧
    (s.signal ld v).poisonLines = s.poisonLines ∧ (s.signal ld v).nor = s.nor ∧ (s.signal ld v).fram = s.fram ∧
    (s.signal ld v).freeCtr = s.freeCtr ∧ (s.signal ld v).todo = s.todo :=
  by unfold Dev.signal; split <;> simp [Dev.modLd]

/-- A latched bit changes its register, and signals and notifies. -/
@[simp] theorem latch_fields (s : Dev) (off bit : Nat) :
    (s.latch off bit).ticks = s.ticks ∧ (s.latch off bit).pins = s.pins ∧ (s.latch off bit).pairLatch = s.pairLatch ∧
    (s.latch off bit).core = s.core ∧ (s.latch off bit).charter = s.charter ∧ (s.latch off bit).dctl = s.dctl ∧
    (s.latch off bit).trn = s.trn ∧ (s.latch off bit).gmap = s.gmap ∧ (s.latch off bit).fery = s.fery ∧
    (s.latch off bit).xing = s.xing ∧ (s.latch off bit).land = s.land ∧ (s.latch off bit).flsh = s.flsh ∧
    (s.latch off bit).chtr = s.chtr ∧ (s.latch off bit).ciph = s.ciph ∧ (s.latch off bit).chk = s.chk ∧
    (s.latch off bit).seq = s.seq ∧ (s.latch off bit).batt = s.batt ∧ (s.latch off bit).log = s.log ∧
    (s.latch off bit).upd = s.upd ∧ (s.latch off bit).dram = s.dram ∧ (s.latch off bit).poisonLines = s.poisonLines ∧
    (s.latch off bit).nor = s.nor ∧ (s.latch off bit).fram = s.fram ∧ (s.latch off bit).freeCtr = s.freeCtr ∧
    (s.latch off bit).todo = s.todo :=
  by unfold Dev.latch; dsimp only; (repeat' split) <;> simp

@[simp] theorem logLost_fields (s : Dev) (ty : Nat) :
    (s.logLost ty).ticks = s.ticks ∧ (s.logLost ty).pins = s.pins ∧ (s.logLost ty).pairLatch = s.pairLatch ∧
    (s.logLost ty).core = s.core ∧ (s.logLost ty).charter = s.charter ∧ (s.logLost ty).dctl = s.dctl ∧
    (s.logLost ty).trn = s.trn ∧ (s.logLost ty).gmap = s.gmap ∧ (s.logLost ty).fery = s.fery ∧ (s.logLost ty).xing = s.xing ∧
    (s.logLost ty).land = s.land ∧ (s.logLost ty).flsh = s.flsh ∧ (s.logLost ty).chtr = s.chtr ∧
    (s.logLost ty).ciph = s.ciph ∧ (s.logLost ty).chk = s.chk ∧ (s.logLost ty).seq = s.seq ∧ (s.logLost ty).batt = s.batt ∧
    (s.logLost ty).upd = s.upd ∧ (s.logLost ty).dram = s.dram ∧ (s.logLost ty).poisonLines = s.poisonLines ∧
    (s.logLost ty).nor = s.nor ∧ (s.logLost ty).fram = s.fram ∧ (s.logLost ty).freeCtr = s.freeCtr ∧
    (s.logLost ty).todo = s.todo :=
  by simp [Dev.logLost, Dev.countReg]

/-- A recorded event changes the logbook, its registers and what they signal. -/
@[simp] theorem logEvent_fields (s : Dev) (ty : Nat) (p : Bytes) :
    (s.logEvent ty p).ticks = s.ticks ∧ (s.logEvent ty p).pins = s.pins ∧ (s.logEvent ty p).pairLatch = s.pairLatch ∧
    (s.logEvent ty p).core = s.core ∧ (s.logEvent ty p).charter = s.charter ∧ (s.logEvent ty p).dctl = s.dctl ∧
    (s.logEvent ty p).trn = s.trn ∧ (s.logEvent ty p).gmap = s.gmap ∧ (s.logEvent ty p).fery = s.fery ∧
    (s.logEvent ty p).xing = s.xing ∧ (s.logEvent ty p).land = s.land ∧ (s.logEvent ty p).flsh = s.flsh ∧
    (s.logEvent ty p).chtr = s.chtr ∧ (s.logEvent ty p).ciph = s.ciph ∧ (s.logEvent ty p).chk = s.chk ∧
    (s.logEvent ty p).seq = s.seq ∧ (s.logEvent ty p).batt = s.batt ∧ (s.logEvent ty p).upd = s.upd ∧
    (s.logEvent ty p).dram = s.dram ∧ (s.logEvent ty p).poisonLines = s.poisonLines ∧ (s.logEvent ty p).nor = s.nor ∧
    (s.logEvent ty p).fram = s.fram ∧ (s.logEvent ty p).freeCtr = s.freeCtr ∧ (s.logEvent ty p).todo = s.todo :=
  by unfold Dev.logEvent; dsimp only; (repeat' split) <;> simp

@[simp] theorem logStd_fields (s : Dev) (ty subject detail : Nat) :
    (s.logStd ty subject detail).ticks = s.ticks ∧ (s.logStd ty subject detail).pins = s.pins ∧
    (s.logStd ty subject detail).pairLatch = s.pairLatch ∧ (s.logStd ty subject detail).core = s.core ∧
    (s.logStd ty subject detail).charter = s.charter ∧ (s.logStd ty subject detail).dctl = s.dctl ∧
    (s.logStd ty subject detail).trn = s.trn ∧ (s.logStd ty subject detail).gmap = s.gmap ∧
    (s.logStd ty subject detail).fery = s.fery ∧ (s.logStd ty subject detail).xing = s.xing ∧
    (s.logStd ty subject detail).land = s.land ∧ (s.logStd ty subject detail).flsh = s.flsh ∧
    (s.logStd ty subject detail).chtr = s.chtr ∧ (s.logStd ty subject detail).ciph = s.ciph ∧
    (s.logStd ty subject detail).chk = s.chk ∧ (s.logStd ty subject detail).seq = s.seq ∧
    (s.logStd ty subject detail).batt = s.batt ∧ (s.logStd ty subject detail).upd = s.upd ∧
    (s.logStd ty subject detail).dram = s.dram ∧ (s.logStd ty subject detail).poisonLines = s.poisonLines ∧
    (s.logStd ty subject detail).nor = s.nor ∧ (s.logStd ty subject detail).fram = s.fram ∧
    (s.logStd ty subject detail).freeCtr = s.freeCtr ∧ (s.logStd ty subject detail).todo = s.todo :=
  by simp [Dev.logStd]

/-! ### Lines of DRAM -/

@[simp] theorem writeLine_poisonLines (s : Dev) (a : Nat) (d : Line) : (s.writeLine a d).poisonLines = s.poisonLines := by
  unfold Dev.writeLine; split <;> rfl
@[simp] theorem writeLine_failed (s : Dev) (a b : Nat) (d : Line) : (s.writeLine a d).lineFailed b = s.lineFailed b := by
  unfold Dev.writeLine; split <;> rfl
@[simp] theorem markLine_dram (s : Dev) (a : Nat) (on : Bool) : (s.markLine a on).dram = s.dram := by
  unfold Dev.markLine; split <;> rfl
@[simp] theorem markLine_failed (s : Dev) (a b : Nat) (on : Bool) : (s.markLine a on).lineFailed b = s.lineFailed b := by
  unfold Dev.markLine; split <;> rfl

/-! ### Guards -/

/-- A write that is neither ignored nor refused does what it does. -/
theorem guarded_of_accepts {s : Dev} {src : Src} {off : Nat} (act : Dev → Dev) (h : s.accepts src off = true) :
    s.guarded src off act = act s := by
  cases src <;> simp [Dev.accepts] at h <;> simp [Dev.guarded, h]

/-- A KX_ command that passes the checks is served. -/
theorem kxCommand_of_accepts {s : Dev} {p : Port} {opcode : Nat} {input : Bytes} (h : s.kxAccepts p opcode input = true) :
    s.kxCommand p opcode input = (s.kxBefore p opcode input).kxServe p opcode input := by
  simp only [Dev.kxAccepts, Bool.and_eq_true, Bool.not_eq_true'] at h
  obtain ⟨⟨⟨⟨⟨h1, h2⟩, h3⟩, h4⟩, h5⟩, h6⟩ := h
  have hc : ∀ d : Dev, d = s.kxBefore p opcode input → d.kxChecked p opcode input = d.kxServe p opcode input := by
    intro d hd
    rw [← hd] at h2 h5 h6
    cases hr : kxRow opcode input with
    | none => simp [hr] at h2
    | some row =>
      simp only [hr, Option.any_some] at h2
      simp only [Dev.kxChecked, hr, h2, h3, h4, h5]
      cases p <;> simp [Dev.kxServed] at h6 ⊢
      · intro x y; simp [x, y] at h6
      · intro x y; simp [x, y] at h6
  cases p with
  | host ld =>
    simp only [Dev.kxArrives, Bool.and_eq_true] at h1
    simp only [Dev.kxCommand, h1.1, h1.2]
    exact hc s rfl
  | chassis =>
    simp only [Dev.kxArrives, Bool.and_eq_true, decide_eq_true_eq] at h1
    simp only [Dev.kxCommand]
    rw [if_neg (by simp [h1.1]), if_neg h1.2]
    exact hc _ rfl
  | yard =>
    simp only [Dev.kxArrives, Bool.and_eq_true, decide_eq_true_eq] at h1
    simp only [Dev.kxCommand]
    rw [if_neg (by simp [h1.1]), if_neg h1.2]
    exact hc _ rfl

/-- A descriptor that the charter store takes is queued. -/
theorem chSubmit_of_takes {s : Dev} {src : Src} {op addr len : Nat} {b : Option Nat} (tag buf : Nat) (what : ChFor)
    (hb : chBuf src op buf (chLen op len) = some b) (h : s.chTakes src op addr len = true) :
    s.chSubmit src op tag addr len buf what = (s.chQueue (s.chDescOf src op addr len what b)).writeStatus src .ok := by
  simp only [Dev.chTakes, Bool.and_eq_true, Bool.not_eq_true', decide_eq_true_eq] at h
  obtain ⟨⟨⟨⟨⟨⟨⟨h1, h2⟩, h3⟩, h4⟩, h5⟩, h6⟩, h7⟩, h8⟩ := h
  unfold Dev.chSubmit
  simp only [chBuf] at hb
  have hn : (if op = 4 then 4096 else if op = 5 then 65536 else len) = chLen op len := rfl
  simp only [hn, hb]
  rw [if_neg (by rw [h1, h2, h3]; simp)]
  have hbad : (if (op = 2 || op = 4 || op = 5) = true then s.storeRefusal (chReq src) addr (chLen op len)
      else if (op = 1 && s.norSize < addr + chLen op len) = true then some .region else none) = none := by
    by_cases hc : (op = 2 || op = 4 || op = 5) = true
    · rw [if_pos hc] at h4 ⊢; simpa using h4
    · rw [if_neg hc] at h4 ⊢
      rw [if_neg]
      simp only [Bool.and_eq_true, decide_eq_true_eq, Bool.or_eq_true, not_and] at h4 ⊢
      intro ho; rcases h4 with h4 | h4
      · exact absurd ho (by simpa using h4)
      · omega
  rw [hbad]
  dsimp only
  rw [if_neg (by omega), if_neg (by simp [h5, h6]), if_neg (by simp; omega)]
  rfl

/-- The fields of a descriptor's first word. -/
theorem descriptor_fields (op : Nat) (tag : Byte) (l : BitVec 16) (h : op < 16) :
    bitsOf (BitVec.ofNat 32 (op + fieldAt 8 8 tag.toNat + fieldAt 16 16 l.toNat)).toNat 0 4 = op ∧
    bitsOf (BitVec.ofNat 32 (op + fieldAt 8 8 tag.toNat + fieldAt 16 16 l.toNat)).toNat 8 8 = tag.toNat ∧
    bitsOf (BitVec.ofNat 32 (op + fieldAt 8 8 tag.toNat + fieldAt 16 16 l.toNat)).toNat 16 16 = l.toNat := by
  have h1 := tag.isLt
  have h2 := l.isLt
  simp only [bitsOf, fieldAt, BitVec.toNat_ofNat]
  omega

/-- A good Block Write with a count that its code takes is acted on. -/
theorem sbWrite_of_good {s : Dev} {sv : Bool} {code : Nat} {count : Byte} {data : Bytes} {pec : Option Byte} {ok : Nat → Bool}
    (act : Dev → Dev) (h : s.sbGood sv code count data pec = true) (hk : ok count.toNat = true) :
    s.sbWrite sv code count data pec ok act = act s := by
  simp only [Dev.sbGood, Bool.and_eq_true, decide_eq_true_eq] at h
  obtain ⟨⟨h1, h2⟩, h3⟩ := h
  cases pec <;> simp [Dev.sbWrite, h1, h2, hk] at h3 ⊢ <;> simp [h3]

end Sys2Proof.Laws
end

