-- ==== Sys2Proof/Laws/Map.lean ====
section
/-!
SUPPORT. What setting a map entry does to the map.
-/
namespace Sys2Proof.Laws
open Sys2Proof Sys2Proof.Machine

@[simp] theorem markMap_entries (s : Dev) (m : Nat) : (s.markMap m).gmap.entries = s.gmap.entries := by
  unfold Dev.markMap; split <;> rfl
@[simp] theorem markMap_dflt (s : Dev) (m : Nat) : (s.markMap m).gmap.dflt = s.gmap.dflt := by
  unfold Dev.markMap; split <;> rfl
@[simp] theorem poisonSlot_entries (s : Dev) (g : Nat) (on : Bool) : (s.poisonSlot g on).gmap.entries = s.gmap.entries := by
  unfold Dev.poisonSlot; dsimp only; (repeat' split) <;> simp
@[simp] theorem poisonSlot_dflt (s : Dev) (g : Nat) (on : Bool) : (s.poisonSlot g on).gmap.dflt = s.gmap.dflt := by
  unfold Dev.poisonSlot; dsimp only; (repeat' split) <;> simp

/-- Setting an entry sets its value in the map's list. -/
theorem setEntry_entries (s : Dev) (g : Nat) (e : GEntry) : (s.setEntry g e).gmap.entries = putD s.gmap.dflt g e s.gmap.entries := by
  unfold Dev.setEntry; dsimp only
  (repeat' split) <;> simp
theorem setEntry_dflt (s : Dev) (g : Nat) (e : GEntry) : (s.setEntry g e).gmap.dflt = s.gmap.dflt := by
  unfold Dev.setEntry; dsimp only
  (repeat' split) <;> simp

/-- An entry that is set reads back, and every other entry stays. -/
theorem entry_setEntry (s : Dev) (g k : Nat) (e : GEntry) (h : wfD s.gmap.dflt s.gmap.entries = true) :
    (s.setEntry g e).entry k = if k = g then e else s.entry k := by
  unfold Dev.entry; rw [setEntry_entries, setEntry_dflt]; exact getD_putD _ _ _ _ _ h

/-- Setting an entry keeps the map's canonical form. -/
theorem setEntry_wf (s : Dev) (g : Nat) (e : GEntry) (h : wfD s.gmap.dflt s.gmap.entries = true) :
    wfD (s.setEntry g e).gmap.dflt (s.setEntry g e).gmap.entries = true := by
  rw [setEntry_entries, setEntry_dflt]; exact wfD_putD _ _ _ _ h

end Sys2Proof.Laws
end

