-- ==== Sys2Proof/Machine/Conf.lean ====
section
/-!
DEFINITION. What the device reports in the standard places that no command of the table reads: the features of Table 7-1, its
readiness (R161), the GPF DVSEC (R162) and the BARs (R164, Table 7-3). Log entry 111.
-/
namespace Sys2Proof.Machine

/-! ### Features (R149, Table 7-1) -/

/-- The features whose support Table 7-1 states with a yes or a no. -/
inductive Feature where
  | laneReversal | polarityInversion | flit256 | flitLatencyOptimized | flit68 | cxlIo | cxlMem | cxlCache | hdmH | hdmDb
  | dynamicCapacity | metadata | mld | volatileCapacity | partitioning | gpf | devLoad | fmQos | poison | viral | doeCdat | cxlIde | spdm
  | tsp | security | d3hot | aspmL0s | aspmL1 | l1Substates | l0p | flr | cxlReset | memClearOnReset | primaryMailbox | secondaryMailbox
  | msix | msi | intx
  deriving DecidableEq, Repr

/-- The features that the device does not support: it reports each as absent. -/
def Feature.absent : List Feature :=
  [.cxlCache, .hdmDb, .dynamicCapacity, .metadata, .volatileCapacity, .partitioning, .fmQos, .viral, .cxlIde, .spdm, .tsp, .security, .aspmL0s,
    .aspmL1, .l1Substates, .l0p, .memClearOnReset, .secondaryMailbox, .msi, .intx]

/-- What the capability of a feature reports. -/
def Feature.reported (f : Feature) : Bool := !Feature.absent.contains f

/-! ### Readiness (R161) -/

/-- Media Status of the Memory Device Status register. -/
inductive MediaStatus where
  | notReady | ready | disabled
  deriving DecidableEq, Repr

/-- Media Status: Ready while READY_HOSTMEM is set, Disabled in MAINTENANCE, Not Ready otherwise. -/
def Dev.mediaStatus (s : Dev) : MediaStatus :=
  if s.rdy Rdy.HOSTMEM then .ready else if s.core.mode = .maintenance then .disabled else .notReady

/-- The fields of CXL DVSEC Range 1 and of the GPF DVSEC (R161, R162). -/
structure Dvsec where
  memoryInfoValid : Bool
  memoryActive : Bool
  /-- The encoding 0b100: 256 s. -/
  memoryActiveTimeout : BitVec 3
  /-- GPF Phase 2 Duration: its time base in µs, and how many of them. -/
  gpfTimeBaseUs : Nat
  gpfScale : Nat
  gpfPowerMw : Nat
  deriving DecidableEq, Repr

/-- What an LD reports: Memory_Info_Valid sets with READY_LINK, Memory_Active when READY_HOSTMEM first sets after a landing. -/
def Dev.dvsec (s : Dev) : Dvsec :=
  { memoryInfoValid := s.rdy Rdy.LINK, memoryActive := s.hlnk.memActive, memoryActiveTimeout := 0b100, gpfTimeBaseUs := 1000, gpfScale := 5
    gpfPowerMw := 36000 }

/-! ### The BARs (R164, Table 7-3) -/

/-- What lies at an offset of BAR0. -/
inductive Bar0 where
  | component | device | msixTable | msixPba | reserved
  deriving DecidableEq, Repr

/-- The layout of BAR0: 256 KiB. -/
def bar0Part (off : BitVec 18) : Bar0 :=
  if off.toNat < 0x10000 then .component
  else if off.toNat < 0x20000 then .device
  else if off.toNat < 0x21000 then .msixTable
  else if off.toNat < 0x22000 then .msixPba
  else .reserved

/-- The bytes of a BAR of an LD: BAR0 on every LD, BAR2 on LD 0 only, and no BAR4. -/
def barBytes (ld : Fin 16) (bar : Nat) : Nat :=
  if bar = 0 then 2 ^ 18 else if bar = 2 && ld = 0 then 2 ^ 20 else 0

/-- A doubleword of BAR0 that the spec or the device's own state gives: the vector-control words of the four MSI-X entries and the
pending-bit array, as PCI Express lays them out (PRESUMED: assumption 16), and zeros in the reserved range. The other words of
the register blocks are those of CXL 3.1; the addresses and data of the MSI-X entries are what the host wrote there. -/
def Dev.bar0Word (s : Dev) (ld : Fin 16) (off : BitVec 18) : Option Word :=
  match bar0Part off with
  | .msixTable =>
    let v := (off.toNat - 0x20000) / 16
    if off.toNat % 16 = 12 && v < 4 then some (BitVec.ofNat 32 (b2n ((s.ld ld).msixMask.getLsbD v))) else none
  | .msixPba => some (if off.toNat < 0x21004 then BitVec.ofNat 32 (s.ld ld).msixPend.toNat else 0)
  | .reserved => some 0
  | _ => none

end Sys2Proof.Machine
end

