-- ==== Sys2Proof/Machine/Layout.lean ====
section
/-!
DEFINITION. The byte layouts of what State holds as typed data: the reserved region (Tables 3-1 and 4-2), the poison list (R71), the
crossing index (R76), the checkpoint (Table 3-5), unit metadata (Table 11-3) and journal entries (R263).
-/
namespace Sys2Proof.Machine

/-! ### The map's tables -/

/-- A 4-byte slot of the poison list (R71): the granule index, and VALID. A free slot is 0. -/
def poisonWord (g : Option Nat) : Nat := match g with | some g => fieldAt 0 26 g + 2 ^ 31 | none => 0

/-- A record of the crossing index (R76). -/
def IndexRec.word (r : IndexRec) : Nat := fieldAt 0 32 r.loc + fieldAt 32 26 r.g + fieldAt 58 1 (b2n r.poison)

/-- A map granule as NAND holds it: the persistable form of its 2,048 entries (R61), little-endian. -/
def mapGranuleBytes (dflt : GEntry) (entries : List (Nat × GEntry)) (m : Nat) : Bytes :=
  (List.range 2048).flatMap (fun i => leBytes 8 (getD dflt (2048 * m + i) entries).persist.word.toNat)

/-- The directory's bytes, for `n` map granules (R73). -/
def dirBytes (d : List (Nat × DirEntry)) (n : Nat) : Bytes := (List.range n).flatMap (fun m => leBytes 8 (DirEntry.word (lookupK m d)).toNat)

/-- The poison list's bytes, for its first `n` slots. -/
def poisonBytes (l : List (Nat × Nat)) (n : Nat) : Bytes := (List.range n).flatMap (fun k => leBytes 4 (poisonWord (lookupK k l)))

/-- The stripes of an image group of the frontier list, ordered by PAGE and then PLANE (R255). -/
def frontStripes (code : Nat) : List Nat :=
  (groupPages 0 (bitsOf code 0 11)).flatMap (fun pg => (List.range 4).map (fun pl => mkLoc 0 (bitsOf code 11 3) pl (code / 2 ^ 14) pg))

/-- The 4,096 stripe addresses of a frontier list (R74). -/
def frontierStripes (front : List Nat) : List Nat := (front.flatMap frontStripes).take 4096

/-- The bytes of a map checkpoint (Table 3-5), for `n` map granules. -/
def checkpointBytes (seq roll epoch n : Nat) (d : List (Nat × DirEntry)) (slots : List (Nat × Nat)) (front : List Nat) : Bytes :=
  let hdr := leBytes 4 0x474D434B ++ leBytes 2 1 ++ leBytes 2 64 ++ leBytes 8 seq ++ leBytes 8 (roll % 2 ^ 48) ++ leBytes 4 n ++
    leBytes 4 (poisonSpan slots) ++ leBytes 4 4096 ++ leBytes 4 0 ++ leBytes 4 (epoch % 2 ^ 24) ++ List.replicate 16 0
  let body := dirBytes d n ++ poisonBytes slots (poisonSpan slots) ++ (frontierStripes front).flatMap (leBytes 4)
  hdr ++ leBytes 4 (crc32c hdr) ++ body ++ leBytes 4 (crc32c body)

/-! ### Unit metadata (Table 11-3) -/

/-- POISON_MAP: bit n is 1 where line n is poisoned. -/
def poisonMap (lines : List Nat) : Bytes :=
  (List.range 32).map (fun i => BitVec.ofNat 8 (((List.range 8).map (fun j => if lines.contains (8 * i + j) then 2 ^ j else 0)).sum))

/-- The 128 bytes of a unit's metadata, given its place and its cipher tag. -/
def NUnit.metadata (u : NUnit) (loc : Nat) (slc : Bool) (tag : Bytes) : Bytes :=
  let b := leBytes 1 u.kind ++ [1] ++ leBytes 2 (if slc then 3 else 0) ++ leBytes 4 u.idx ++ leBytes 2 u.gen ++ leBytes 6 u.wseq ++
    leBytes 3 u.epoch ++ [0] ++ poisonMap u.poison ++ leBytes 4 loc ++ leBytes 4 (u.next.getD 0xFFFFFFFF) ++ leBytes 2 u.mask ++
    leBytes 1 u.parity ++ [0] ++ leBytes 8 u.crossSeq ++ subBytes tag 0 16 ++ List.replicate 36 0
  b ++ leBytes 4 (crc32c b)

/-! ### The journal (R263) -/

/-- A journal entry: ADDR, OP, and a CRC-8. -/
def journalBytes (e : Nat × Nat) : Bytes :=
  let b := leBytes 4 e.2 ++ leBytes 1 e.1 ++ [0, 0]
  b ++ leBytes 1 (crc8 b)

/-- A journal page: up to 2,048 entries, and zeros where it has fewer. -/
def journalPageBytes (es : List (Nat × Nat)) : Bytes :=
  (es.take 2048).flatMap journalBytes ++ List.replicate (16384 - 8 * min 2048 es.length) 0

/-! ### The reserved region (Tables 3-1 and 4-2) -/

/-- The byte of a little-endian word. -/
def wordByte (v i : Nat) : Byte := BitVec.ofNat 8 (bitsOf v (8 * i) 8)

/-- The training-pattern area is shared by the eight subchannels of the module by their rows: what a subchannel's rows hold is the
pattern last written there (R227, R228). -/
def Dev.patternAt (s : Dev) (a : Nat) : Byte :=
  match lookupK (s.dramOf a).sc s.trn.rows with | some p => Config.patternByte p (a % 2 ^ 26) | none => 0

/-- What the reserved region holds at an offset (R56, Tables 3-1 and 4-2); none in the staging areas, where the bytes are a unit on
its way, and in the parity accumulators, of which the spec gives no layout. A table that is smaller than its space fills it from
its start, and the rest reads 0. -/
def Dev.reservedByte (s : Dev) (off : Nat) : Option Byte :=
  if off < Res.dir then
    let g := off / 8
    some (if g < s.hostGranules then wordByte (s.entry g).word.toNat (off % 8) else 0)
  else if off < Res.poison then
    let m := (off - Res.dir) / 8
    some (if m < s.mapGranules then wordByte (DirEntry.word (lookupK m s.gmap.dir)).toNat (off % 8) else 0)
  else if off < Res.bitmap then
    some (wordByte (poisonWord (lookupK ((off - Res.poison) / 4) s.gmap.poisonList)) (off % 4))
  else if off < 0x20C40000 then
    let b := off - Res.bitmap
    some (BitVec.ofNat 8 (((List.range 8).map (fun j => if s.land.bitmap.contains (8 * b + j) then 2 ^ j else 0)).sum))
  else if off < Res.patterns then some 0
  else if off < 0x25000000 then some (s.patternAt (s.reservedAt off))
  else if off < Res.staging then some 0
  else if off < Res.summary then none
  else if off < Res.refetch then
    let b := off - Res.summary
    some (BitVec.ofNat 8 (((List.range 8).map (fun j => if s.fery.summary.contains (8 * b + j) then 2 ^ j else 0)).sum))
  else if off < 0x38180000 then none
  else if Res.parity ≤ off && off < 0x3B000000 then none
  else some 0

/-- A staging area's slot, where the unit with that slot number lies (Table 4-2): copy staging, landing staging (R130) and refetch
staging (R217). -/
def stagingAt (area slot : Nat) : Nat := area + 16384 * slot

end Sys2Proof.Machine
end

