-- ==== Sys2Proof/Tests/Slice0.lean ====
section
/-!
SUPPORT. Tests on small states: an ill-formed command for each check of Instr.wf, single steps with values worked out in the spec, and
for each statement a state and operands that meet its premises.
-/
namespace Sys2Proof.Tests
open Sys2Proof Sys2Proof.Machine

/-! ### Ill-formed commands -/

/-- More bytes than a payload holds. -/
def long : Bytes := List.replicate 65537 0

theorem test_wf_mode : (Instr.auxOn ⟨true, true, true, true⟩).wf = true := by decide
set_option maxRecDepth 20000 in
theorem test_wf_allocations : (Instr.setLdAllocations (List.replicate 17 1)).wf = false := by decide
theorem test_wf_decoder_size : (Instr.hdmDecoderCommit 0 0 true 0 (2 ^ 52 + 1) 0 0 0).wf = false := by decide
theorem test_wf_decoder_skip : (Instr.hdmDecoderCommit 0 0 true 0 1 0 0 (2 ^ 52 + 1)).wf = false := by decide
set_option maxRecDepth 20000 in
theorem test_wf_handles : (Instr.clearEventRecords 0 0 false (List.replicate 256 0)).wf = false := by decide
theorem test_long : long.length = 65537 := List.length_replicate
theorem test_wf_payload : payloadOk long = false := by rw [payloadOk, test_long]; rfl
theorem test_wf_lsa : (Instr.setLsa 0 0 long).wf = false := test_wf_payload
theorem test_wf_kx : (Instr.kxPowerOff .yard long).wf = false ∧ (Instr.kxPowerOn .yard long).wf = false ∧
    (Instr.kxGetStatus .yard long).wf = false ∧ (Instr.kxLogRead .yard long).wf = false ∧ (Instr.kxBattStateGet .yard long).wf = false ∧
    (Instr.kxBattStatePut .yard long).wf = false ∧ (Instr.kxUpdOpen .yard long).wf = false ∧ (Instr.kxUpdPiece .yard long).wf = false ∧
    (Instr.kxUpdBitmap .yard long).wf = false ∧ (Instr.kxUpdCommit .yard long).wf = false ∧ (Instr.kxUpdAbandon .yard long).wf = false ∧
    (Instr.kxMargin .yard long).wf = false ∧ (Instr.kxDramRetrain .yard long).wf = false ∧ (Instr.kxSalvageOpen .yard long).wf = false ∧
    (Instr.kxSalvagePiece .yard long).wf = false ∧ (Instr.kxSalvageCommit .yard long).wf = false := by
  simp only [Instr.wf, test_wf_payload, and_self]
theorem test_wf_kx_codes : (Instr.kxModeMaintEnter .yard long).wf = false ∧ (Instr.kxModeMaintExit .yard long).wf = false ∧
    (Instr.kxModeRecovReq .yard long).wf = false ∧ (Instr.kxResetFw .yard long).wf = false ∧ (Instr.kxResetFull .yard long).wf = false := by
  simp only [Instr.wf, payloadOk, List.length_cons, test_long]; decide
theorem test_wf_tide : (Instr.tideWindow [1, 2, 3, 4]).wf = false := by decide
theorem test_wf_burst : (Instr.dramReadCapture 0 .reserved (List.replicate 17 1) [] []).wf = false ∧
    (Instr.dramReadCapture 0 .reserved [] (List.replicate 17 1) []).wf = false ∧
    (Instr.dramReadCapture 0 .reserved [] [] (List.replicate 17 1)).wf = false := by decide
theorem test_wf_temperature : (Instr.dramTempPoll []).wf = false := by decide
theorem test_wf_eyes : (Instr.gatherEnd (List.replicate 321 (0, 0))).wf = false := by
  simp only [Instr.wf, List.length_replicate]; decide
theorem test_wf_tracking : (Instr.periodicPause 0 [(3, 1), (3, 2)] []).wf = false ∧
    (Instr.periodicPause 0 [] [(5, true, false), (5, false, true)]).wf = false := by decide
theorem test_wf_ca_retraining : (Instr.caRetrainEnd 0 [(1, 2, 3), (1, 2, 3)]).wf = false ∧ (Instr.caRetrainEnd 0 [(1, 4, 3)]).wf = false := by decide
theorem test_wf_retry_level : (Instr.nandOpComplete 0 0 (.okRetry 0 9)).wf = false ∧
    (Instr.nandOpComplete 0 0 (.okRetry 16 9)).wf = false := by decide
theorem test_wf_rom : (Instr.romProgram 0 0 (List.replicate (2 ^ 18 + 1) 0) 0).wf = false ∧
    (Instr.romCrc32c (List.replicate (2 ^ 18 + 1) 0) 0).wf = false := by
  simp only [Instr.wf, List.length_replicate]; decide
theorem test_wf_program : (Instr.chtrProgram (.port .yard) 0 0 0 0 long).wf = false := by
  simp only [Instr.wf, test_long]; decide
theorem test_wf_rails : (Instr.railSample ⟨true, true, true, true⟩ [] (List.replicate 24 0)).wf = false ∧
    (Instr.railSample ⟨true, true, true, true⟩ (List.replicate 24 0) []).wf = false ∧ (Instr.pmStatusPoll []).wf = false := by decide
set_option maxRecDepth 20000 in
theorem test_wf_sideband : (Instr.winAddr true 0 (List.replicate 256 0) none).wf = false ∧
    (Instr.winDataWrite true 0 (List.replicate 256 0) none).wf = false ∧ (Instr.bufPtr true 0 (List.replicate 256 0) none).wf = false ∧
    (Instr.bufDataWrite true 0 (List.replicate 256 0) none).wf = false ∧ (Instr.exec true 0 (List.replicate 256 0) none).wf = false := by decide
theorem test_wf_pm : (Instr.twbTransferDone .ok (List.replicate 33 0)).wf = false := by decide

/-! ### Worked examples and single steps -/

/-- The worked examples of chapter 9: CB is 0x67 for DQ = 1, and 0x32 for the poison mark. -/
theorem test_symbol_code : encodeBeat false 1 = 0x6700000001 ∧ encodeBeat true 0 = 0x3200000000 := by decide
/-- Component 5 returns 0xC in place of 0x0: position 5 with error 0xC. -/
theorem test_symbol_error : classify (0x6700000001 ^^^ 0xC * 2 ^ 20) = .pos 5 0xC := by decide
/-- DPA 0x12_3456_7890 in ORDER 0b10 with HASH 1 and two ranks: ROW 18,641, COL 102, queue 85. -/
theorem test_address_map : dramAddr 0x1A60 0x1234567890 = { sc := 1, rk := 0, bg := 5, ba := 1, col := 102, row := 18641 } ∧
    (dramAddr 0x1A60 0x1234567890).queue = 85 := by decide
set_option maxRecDepth 20000 in
/-- The check value of CRC-32C over "123456789" (Table 13-4). -/
theorem test_crc32c : crc32c [0x31, 0x32, 0x33, 0x34, 0x35, 0x36, 0x37, 0x38, 0x39] = 0xE3069283 := by decide
set_option maxRecDepth 20000 in
/-- The worked examples of chapter 3: the entry of granule 4,772,185 after the host write and after the landing's merge, its place, and
the fields of unit 0x0000_2141. -/
theorem test_map_entry : (leBytes 8 (GEntry.word { GEntry.blank .dirty with gen := 0x0A7, loc := some 0x0031C4E0 }).toNat).take 7 =
      [0x01, 0x70, 0x0A, 0xE0, 0xC4, 0x31, 0x00] ∧
    (leBytes 8 (GEntry.word { GEntry.blank .unrestored with xr := true, gen := 0x0A9, loc := some 0x2141 }).toNat).take 7 =
      [0x0D, 0x90, 0x0A, 0x41, 0x21, 0x00, 0x00] ∧
    granuleOf 0x1234567890 = 4772185 ∧
    [locCh 0x2141, locDie 0x2141, locPlane 0x2141, locBlock 0x2141, locPage 0x2141] = [1, 4, 2, 16, 0] := by decide
set_option maxRecDepth 20000 in
/-- The record of the same example in the crossing index (R76), a taken slot of the poison list (R71), and the sizes of a unit's
metadata and of a journal entry (Table 11-3, R263). -/
theorem test_layouts : IndexRec.word { g := 0x48D159, loc := 0x2141, poison := false } = 0x2141 + 0x48D159 * 2 ^ 32 ∧
    poisonWord (some 5) = 0x80000005 ∧ poisonWord none = 0 ∧ (journalBytes (1, 7)).length = 8 ∧
    (NUnit.metadata { kind := 1, idx := 0x48D159, gen := 0xA9, wseq := 1, epoch := 1, poison := [0, 255], payload := .granule [], next := none
                      mask := 0xFFFF, parity := 0, crossSeq := 0 } 0x2141 false (List.replicate 16 0)).length = 128 := by decide
theorem test_reset_queue : State.reset.pending = [] := by decide
theorem test_no_bits : decodeTableWord 32 0 = none := by decide

/-! ### The states that the premises are met in -/

/-- The device in a mode, with its firmware running and every domain powered. -/
def up (m : Mode) : Dev :=
  { Dev.reset with core := { CoreSt.reset with mode := m, fwState := 2 }, seq := { SeqSt.reset with mainUp := true, linkUp := true } }

/-- The device with bits of CORE_READY set. -/
def ready (ns : List Nat) (d : Dev) : Dev :=
  { d with core := { d.core with ready := ns.foldl (fun r n => r ||| (1#16 <<< n)) 0 } }

def host : Src := .port (.host 0)
def yard : Src := .port .yard
def chassis : Src := .port .chassis
def fw : Src := .firmware 0

/-! ### The machine -/

theorem witness_step : (State.mk (up .service) [.mainGood, .readyFw]).pending = .mainGood :: [.readyFw] ∧ State.reset.pending = [] := by decide
theorem witness_queue : State.QueueWf ⟨up .service, [.mainGood]⟩ ∧ step ⟨up .service, [.mainGood]⟩ = exec .mainGood ⟨up .service, []⟩ :=
  ⟨by intro c hc; simp at hc; subst hc; decide, rfl⟩
theorem witness_symbols : ([1, 0] ++ List.replicate 14 (0 : BitVec 4)).length = 16 ∧ (1 : BitVec 4) ≠ 0 ∧
    (0 : BitVec 4) ∈ [1, 0] ++ List.replicate 14 (0 : BitVec 4) ∧ (up .service).linePoisoned 0 = false ∧
    ({ up .service with poisonLines := [0] } : Dev).linePoisoned 0 = true := by decide
theorem witness_line : Memory.wf dramByte [(3, 1), (64, 2)] = true ∧ ([0, 5] : List Nat).Pairwise (· < ·) ∧ (up .service).lineFailed 0 = false ∧
    ((up .service).setSub 0 { SubCh.reset with st := .failed }).lineFailed 0 = true := by decide
theorem witness_map : dramAddr 0x1A60 64 = dramAddr 0x1A60 127 ∧ dramAddr 0x1A60 64 ≠ dramAddr 0x1A60 128 := by decide
theorem witness_one_rank : ((up .service).setRegN Reg.DCTL_CONFIG 0).regF Reg.DCTL_CONFIG 9 1 = 0 := by decide
theorem witness_dirty : sortedK [(2, { GEntry.blank .dirty with gen := 1 }), (7, GEntry.blank .pinned)] = true ∧
    (∀ p ∈ [(2, { GEntry.blank .dirty with gen := 1 }), (7, GEntry.blank .pinned)], p.1 < 8) ∧
    (GEntry.blank .clean).st ∈ [GState.clean, .unrestored] := by decide

/-! ### Modes and start-up -/

/-- The device in its power-on reset. -/
def booting : Dev := { Dev.reset with core := { CoreSt.reset with trans := some .auxOn } }

theorem witness_start_up : (Dev.reset.core.mode = .unpowered ∧ Dev.reset.core.trans = none) ∧ (up .standby).core.mode = .standby ∧
    (up .save).core.mode = .save ∧ (booting.core.trans = some .auxOn ∧ booting.rdy Rdy.AON = false) ∧
    ((up .standby).modCore (fun c => { c with fwState := 1, ready := 2 })).rdy Rdy.CHARTER = true := by decide
/-- The charter store is READY and holds no charter. -/
def loading : Dev := (ready [Rdy.AON] booting).modChtr (fun c => { c with st := 2 })
set_option maxRecDepth 20000 in
theorem witness_charter : loading.core.trans = some .auxOn ∧ loading.rdy Rdy.AON = true ∧ loading.chtr.st = 2 ∧
    loading.loadCharter.1.core.heldMainGood = false ∧ loading.loadCharter.2 = false := by decide
theorem witness_ready_fw : ((up .standby).modCore (fun c => { c with fwState := 1, ready := 2 })).core.mode = .standby ∧
    ((up .standby).modCore (fun c => { c with fwState := 1, ready := 2 })).core.trans = none ∧
    ((up .standby).modCore (fun c => { c with fwState := 1, ready := 2 })).core.fwState = 1 := by decide
theorem witness_migration : ((up .standby).modChtr (fun c => { c with migrating := some (1, [0]) })).chtr.migrating = some (1, [0]) := by decide
theorem witness_pins : ((up .standby).core.mode = .standby ∧ (up .standby).core.trans = none) ∧ (up .service).core.mode = .service ∧
    ((up .service).modHlnk (fun h => { h with link := .mem })).hlnk.link ≠ .down ∧
    (PinLevels.mk true false false false).pwrFailN = true ∧ (PinLevels.mk true false false false).prsntN = false ∧
    (((up .service).modCore (fun c => { c with hostAbsentArmed := true })).setRegN Reg.CORE_POWER_TIMES 1).regF Reg.CORE_POWER_TIMES 0 16 ≠ 0 := by
  decide
theorem witness_mode_request : (up .service).accepts yard Reg.CORE_MODE_REQ = true ∧
    [0x22, 0x23, 0x24, 0x26].all (fun r => (up .service).srcMay yard r) = true := by decide
theorem witness_lock : (up .service).accepts chassis Reg.CORE_LOCK = true ∧ (up .service).core.locked = false ∧
    (up .service).accepts fw Reg.CORE_WDOG = true ∧ memMapAllows 0 0x80000000 true = false ∧ (up .service).aonUp = true := by decide
/-- The device after a firmware fault of a cause, before it acts on it. -/
def faulted (d : Dev) (cause : Nat) : Dev :=
  (((d.clrReady Rdy.FW).clrReady Rdy.MAILBOX).modCore (fun k => { k with proxy := none, fwCause := cause, fwFaults := k.fwFaults + 1 })).trnFwFault
theorem witness_fw_fault : (up .service).core.mode ∉ [Mode.unpowered, .save, .recovery] ∧ (up .service).core.fwState = 2 ∧
    (up .service).trn.retrain = none ∧ (faulted (up .service) 2).core.mode = .service ∧ (faulted (up .service) 2).core.fwFaults < 3 ∧
    3 ≤ (faulted ((up .service).modCore (fun c => { c with fwFaults := 2 })) 1).core.fwFaults ∧
    (faulted ((up .service).modCore (fun c => { c with fwFaults := 2 })) 1).core.mode = .service := by decide

/-! ### Firmware's NAND access and the registers -/

/-- NAND with one working die, and a raw read of it. -/
def flashed (m : Mode) : Dev := (up m).modFlsh (fun x => { x with st := 2, dies := List.replicate 128 { DieSt.reset with st := .idle } })
theorem witness_fw_nand_read : let d := (flashed .service).setRegF Reg.CORE_FW_NAND_CMD 0 3 1
    (flashed .service).accepts fw Reg.CORE_FW_NAND_CMD = true ∧ (flashed .service).regF Reg.CORE_FW_NAND_CMD 3 1 = 0 ∧ 2 ≤ d.flsh.st ∧
    d.dieWorks (locCh (d.regN Reg.CORE_FW_NAND_LOC)) (locDie (d.regN Reg.CORE_FW_NAND_LOC)) = true := by decide
theorem witness_fw_nand_refused : let d := (flashed .service).setRegF Reg.CORE_FW_NAND_CMD 0 3 2
    ¬(d.core.mode = .maintenance ∧ d.freeSpare (d.regN Reg.CORE_FW_NAND_LOC) = true) := by decide
theorem witness_register_write : (up .service).aonUp = true ∧ (regRow Reg.FERY_QUIET).isSome = true ∧ Reg.FERY_QUIET % 4 = 0 ∧
    Reg.FERY_QUIET / 0x10000 ≠ 8 ∧ Reg.FERY_QUIET / 0x10000 ≠ 0xA ∧ Reg.FERY_QUIET < 2 ^ 20 ∧
    (up .service).accepts host Reg.FERY_QUIET = true ∧ valueRejected Reg.FERY_QUIET 0 = false := by decide
theorem witness_register_refused : (up .service).portMay (rowOf Reg.CORE_WDOG_CFG) (.host 0) = false ∧ (regRow Reg.CORE_WDOG_CFG).isSome = true ∧
    Reg.CORE_WDOG_CFG % 4 = 0 ∧ Reg.CORE_WDOG_CFG / 0x10000 = 0 ∧ Reg.CORE_WDOG_CFG ≠ Reg.CORE_WDOG := by decide
theorem witness_pair : pairLos.contains Reg.HLNK_ERR_ADDR_LO = true ∧ pairLos.contains Reg.HLNK_ERR_ADDR_HI = false ∧
    lookupK 5 [(5, (7 : Word))] = some 7 ∧ (up .service).pairLatch = [] := by decide

/-! ### The host link -/

/-- The device with the link in L0, CXL.mem active, and the memory of the single LD. -/
def linked (m : Mode) : Dev :=
  (ready [Rdy.LINK, Rdy.FW, Rdy.MAILBOX, Rdy.HOSTMEM] (up m)).modHlnk (fun h => { h with
    link := .mem, trained := true, reqGranted := 8, rwdGranted := 8, mode := { h.mode with cxl := true } })
/-- A write of the line at 0x4000. -/
def lineWrite : MemReq := { op := .write, ld := 0, tag := 0, dpa := 0x4000, data := 1, poison := false, seq := 0 }

theorem witness_host_write : (linked .service).rwdCredit = true ∧ ((linked .service).rwdIn false).deviceAddr (.dpa 1 0) = none ∧ ((linked .service).rwdIn false).deviceAddr (.dpa 0 0x4000) = some 0x4000 ∧
    ((linked .service).rwdIn false).hlnk.seq = 0 ∧ (linked .service).hlnk.wait = [] ∧
    (((linked .service).rwdIn false).cacheAccess 1).any (fun e => !(e.fixEntry false 1).mustWait lineWrite) = true := by decide
set_option maxRecDepth 20000 in
theorem witness_partial_write : (0xFF : BitVec 64) ≠ BitVec.allOnes 64 ∧
    (((linked .service).enqueue 0x4000 false 0).readBursts 0x4000 false noErrs).2 = .data 0 := by decide +kernel
/-- Every granule is restored: reads need no entry. -/
def restored : Dev := ready [Rdy.LINK, Rdy.FW, Rdy.MAILBOX, Rdy.HOSTMEM, Rdy.RESTORED] (linked .service)
theorem witness_host_read : (linked .service).deviceAddr (.dpa 0 0x4000) = some 0x4000 ∧
    restored.mapBypass { lineWrite with op := .read } = true ∧ restored.mustWait { lineWrite with op := .read } = false ∧
    (linked .restore).mapBypass { lineWrite with op := .read } = false ∧
    ((linked .restore).cacheAccess 1).any (fun e => !e.mapBypass { lineWrite with op := .read } && !(e.fixEntry false 1).mustWait
      { lineWrite with op := .read }) = true ∧
    (linked .service).reqCredit = true ∧ 0 < (linked .service).hlnk.reqGranted ∧ (linked .service).hlnk.link = .mem ∧
    (linked .service).deviceAddr (.dpa 1 0) = none ∧
    ((linked .service).modHlnk (fun h => { h with link := .io })).hlnk.link = .io := by decide
set_option maxRecDepth 20000 in
theorem witness_poison_read : (({ restored with poisonLines := [0x100] } : Dev).readBursts 0x4000 true noErrs).2 = .poison ∧
    (restored.readBursts 0x4000 true noErrs).2 = .data 0 := by decide +kernel
theorem witness_gpf : (linked .service).linkUp = true ∧ (linked .service).hlnk.gpf = [] ∧
    ((linked .service).modHlnk (fun h => { h with gpf := [(0, 3)] })).hlnk.gpf = (0, 3) :: [] ∧
    ((linked .service).modFery (fun f => { f with eng := .halted })).fery.eng = .halted := by decide
theorem witness_link : ((up .service).modHlnk (fun h => { h with link := .training })).hlnk.link = .training ∧
    (up .service).hlnk.trained = false ∧ (linked .service).hlnk.trained = true ∧
    (({ up .service with pins := ⟨true, false, true, false⟩ } : Dev).pins.perstN = true) ∧ (linked .service).rdy Rdy.LINK = true ∧
    (linked .service).rdy Rdy.FW = true ∧ (linked .service).core.mode = .service := by decide
/-- The link trained with several LDs. -/
def pooled : Dev := (linked .service).modHlnk (fun h => { h with mode := { h.mode with mld := true } })
theorem witness_ld_allocations : pooled.linkUp = true ∧ pooled.hlnk.mode.cxl = true ∧ pooled.hlnk.mode.mld = true ∧
    [1, 2].foldl (· + ·) 0 ≤ pooled.installedGiB - 1 ∧ pooled.hlnk.decoders = [] ∧
    pooled.installedGiB - 1 < [pooled.installedGiB].foldl (· + ·) 0 := by decide
/-- Decoder 0 of LD 0 over its whole memory at host address 0. -/
def decoder : Decoder := { ld := 0, n := 0, base := 0, size := 2 ^ 30, ways := hdmWays 0, gran := hdmGran 0, skip := 0, committed := true }
theorem witness_decoder : (linked .service).decoderOk decoder = true ∧ (linked .service).ldSize 0 ≠ 0 := by decide
theorem witness_mailbox : (linked .service).rdy Rdy.MAILBOX = true ∧ (linked .service).hasLd 0 = true ∧
    (linked .service).core.mode ≠ .recovery := by decide
set_option maxRecDepth 20000 in
theorem witness_get_log : leBytes 16 (leVal celUuid) = celUuid ∧ celUuid.length = 16 ∧ leBytes 16 0 ≠ celUuid ∧ 0 + 4 ≤ celBytes.length := by
  decide
theorem witness_event_logs : (3 : Byte).toNat < 4 ∧ 4 ≤ (4 : Byte).toNat := by decide
theorem witness_poison_list : (linked .service).ldSize 0 < 64 * (2 ^ 60 / 64 + 1) ∧ 64 * (0 / 64 + 1) ≤ (linked .service).ldSize 0 := by decide
theorem witness_interrupt_policy : (List.range 4).any (fun n => decide (1 < bitsOf (0x01010101 : Word).toNat (8 * n) 2)) = false := by decide
/-- An event log with one record, after an overflow. -/
def logged : Dev := (linked .service).modLd 0 (fun l => { l with
  logs := [[{ handle := 7, kind := 0, dpa := 0, ts := 0 }], [], [], []], overflow := [1, 0, 0, 0] })
theorem witness_clear_events : (logged.ld 0).overflow.getD 0 0 ≠ 0 ∧
    (((logged.ld 0).logs.getD 0 []).take [(7 : BitVec 16)].length).map (fun r => r.handle) = [(7 : BitVec 16)].map (fun h => h.toNat) := by decide
theorem witness_alerts : (0x1F : Byte).toNat / 32 = 0 ∧ (100 : Byte).toNat ≤ 100 := by decide
/-- The protected store works. -/
def sealing (m : Mode) : Dev := (ready [Rdy.MAILBOX, Rdy.CIPHER, Rdy.HOSTMEM] (linked m)).modChtr (fun c => { c with st := 2 })
set_option maxRecDepth 20000 in
theorem witness_lsa : (sealing .service).lsaRefusal = none ∧ (linked .service).lsaRefusal = some .notReady ∧
    131072 - 8 + ([1, 2] : Bytes).length ≤ 131072 ∧
    (lsaBlocks 0 8).find? (fun b => (((lsaBlocks 0 8).foldl (fun s b => s.prNoteDamage 1 b) (sealing .service)).prRead 1 b).isNone) = none := by
  decide
theorem witness_poison_commands : 0 < (linked .service).ldSize 0 ∧ (linked .service).rdy Rdy.HOSTMEM = true := by decide

/-! ### KX_ commands -/

/-- A charter with two populated rails, one that a margin may move and one on the PM bus, a one-step timetable, bell role 2, and one pack. -/
def rail0 : RailRec := { RailRec.absent with populated := true, vtrim := true, nomMv := 1000, warn := 50, fault := 100, marginLimit := 600 }
def rail1 : RailRec := { RailRec.absent with populated := true, pm := true, role := 2, pmAddr := 0x50, enReg := 1 }
def pack0 : PackRec :=
  { idMin := 500, idMax := 600, config := 0, rated := 3000, eol := 2000, vCutoff := 3000, vChg := 4200, iChg := 1500, iTaper := 100,
    taperS := 60, iRest := 20, iX := 0, tChgMin := 0, tChgMax := 45, tGuard := 2, socvMargin := 5, ocv := List.replicate 21 3700, rLo := List.replicate 5 50,
    rHi := List.replicate 5 60, qRes := List.replicate 5 100, vAvg := List.replicate 5 3600, gainErr := 10, offsetErr := 10, selfdis := 1 }
def charter : Charter :=
  { raw := [], fwSlot := 0, seq := 1, image := [], profile := Profile.none
    tt := { upEntry := 0, downEntry := 0, bellRole := 2, barrierMs := 10, bellMap := [], steps := [0] }
    rails := [rail0, rail1]
    batt := some { shunt := 0, chgAddr := 0, chgEnReg := 0, chgOn := 0, chgOff := 0, ilimReg := 0, ilimStep := 0, ntcBeta := 0, ntcR25 := 0, recs := [pack0] }
    twb := [{ port := 1, addr := 0x40, self := false, pec := false, fw := true, speed := 0, stretch := 0, regLo := 0, regHi := 255 }], auth := [], lds := [16], pwPr3 := true, pwPr4 := true }
/-- The device with that charter. -/
def chartered (d : Dev) : Dev := { d with charter := some charter }
/-- The sideband ports are IDLE. -/
def sideOn (d : Dev) : Dev := (d.modTwb 0 (fun t => { t with st := 1 })).modTwb 2 (fun t => { t with st := 1 })
def side (m : Mode) : Dev := sideOn (linked m)

/-! ### KX_ commands -/

theorem witness_kx_modes : [(0xC000, ([] : Bytes)), (0xC001, []), (0xC002, [3, 0, 0, 0]), (0xC002, [4, 0, 0, 0]), (0xC002, [5, 0, 0, 0]),
    (0xC003, [2, 0, 0, 0]), (0xC003, [1, 0, 0, 0])].map (fun x => (side .service).kxAccepts .yard x.1 x.2) = List.replicate 7 true ∧
    leAt ([3, 0, 0, 0] : Bytes) 1 3 = 0 := by decide
/-- The input of KX_LOG_READ: from RSEQ 1, 1,024 bytes. -/
def logInput : Bytes := leBytes 8 1 ++ leBytes 4 1024 ++ leBytes 4 0
/-- The logbook is READY. -/
def logging (d : Dev) : Dev := d.modLog (fun l => { l with st := 2 })
theorem witness_kx_reports : (side .service).kxAccepts .yard 0xC010 [] = true ∧ (logging (side .service)).kxAccepts .yard 0xC020 logInput = true ∧
    64 ≤ leAt logInput 8 4 ∧ leAt logInput 8 4 ≤ 65520 ∧ ((logging (side .service)).kxBefore .yard 0xC020 logInput).log.st = 2 ∧
    ((logging (side .service)).kxBefore .yard 0xC020 logInput).chtr.st ≠ 3 ∧ (side .service).kxAccepts .yard 0xC030 [] = true ∧
    (((side .service).modBatt (fun b => { b with st := .active })).kxBefore .yard 0xC030 []).batt.st = .active := by decide
/-- A learned state of pack 0 at cycle 0, and the gauge that takes it. -/
def learnedBytes : Bytes :=
  let body := leBytes 4 0x4C544142 ++ leBytes 2 1 ++ leBytes 2 256 ++ List.replicate 16 0 ++ leBytes 2 550 ++ [0, 0] ++ leBytes 2 2500 ++ leBytes 2 3 ++
    leBytes 4 10 ++ leBytes 4 0 ++ List.replicate 212 0
  body ++ leBytes 4 (crc32c body)
def gauged (m : Mode) : Dev := (chartered (side m)).modBatt (fun b => { b with st := .active, rec_ := some 0, idMv := 550 })
def calibrated (m : Mode) : Dev := (gauged m).modChtr (fun c => { c with cal := List.replicate 96 0, calValid := true })
set_option maxRecDepth 200000 in
theorem witness_learned_state : learnedBytes.length = 256 ∧ (calibrated .service).kxAccepts .yard 0xC031 learnedBytes = true ∧
    (calibrated .service).putRefusal learnedBytes = none ∧ (gauged .service).packRec = some pack0 ∧
    (side .service).putRefusal [] = some .badParam := by decide +kernel
theorem witness_margin : (gauged .maintenance).kxAccepts .yard 0xC050 [0, 0, 100, 0] = true ∧ sint16 (leAt ([0, 0, 100, 0] : Bytes) 2 2) = 100 ∧
    ((gauged .maintenance).railRec 0).populated = true ∧ ((gauged .maintenance).railRec 0).vtrim = true ∧
    (side .maintenance).kxAccepts .yard 0xC051 [1, 0, 0, 0] = true ∧ (side .maintenance).bgRunning = false ∧
    (side .maintenance).trn.gather = none ∧ (side .maintenance).trn.pending = 0 ∧ (side .maintenance).trn.phase = .idle := by decide

/-- A header of one piece of 52 bytes, and that piece: a manifest of one component. -/
def manifest : Bytes := leBytes 4 0x544E464D ++ [1, 1, 0, 0] ++ leBytes 4 48 ++ leBytes 4 0 ++ [1, 1, 0, 0] ++ List.replicate 28 0 ++ leBytes 4 0
def upHeader (salvage : Bool) : Bytes :=
  let body := leBytes 4 0x4450554B ++ [1, if salvage then 1 else 0, 64, 0] ++ leBytes 8 7 ++ leBytes 4 52 ++ leBytes 4 4080 ++ leBytes 4 1 ++
    leBytes 4 (crc32c manifest) ++ leBytes 4 0 ++ List.replicate 24 0
  body ++ leBytes 4 (crc32c body)
def pieceInput : Bytes := leBytes 4 9 ++ leBytes 4 0 ++ leBytes 4 52 ++ leBytes 4 0 ++ manifest
/-- Session 9 is open, and belongs to the yard. -/
def updating (salvage : Bool) (m : Mode) : Dev := (side m).modUpd (fun u => { u with
  st := 1, session := 9, owner := if salvage then 3 else 2, salvage := salvage, header := upHeader salvage })
set_option maxRecDepth 200000 in
theorem witness_update_open : (side .service).kxAccepts .yard 0xC040 (upHeader false) = true ∧ updHeaderOk (upHeader false) false = true ∧
    (side .service).upd.st = 0 ∧ (side .recovery).kxAccepts .yard 0xC060 (upHeader true) = true ∧ updHeaderOk (upHeader true) true = true := by
  decide +kernel
set_option maxRecDepth 200000 in
theorem witness_update_piece : (updating false .service).kxAccepts .yard 0xC041 pieceInput = true ∧
    (updating true .recovery).kxAccepts .yard 0xC061 pieceInput = true ∧ (updating false .service).updMine .yard 9 false = true ∧
    (updating true .recovery).updMine .yard 9 true = true ∧ pieceInput.drop 16 = manifest ∧ 0 < uhPieces (upHeader false) ∧
    manifest.length = pieceLen (upHeader false) 0 ∧ crc32c manifest = leAt (upHeader false) 28 4 ∧ manifestOk (upHeader false) manifest false = true ∧
    manifestOk (upHeader true) manifest true = true ∧ (updating false .service).upd.bufs.length < 2 := by decide +kernel
theorem witness_update_rest : (updating false .service).kxAccepts .yard 0xC042 (leBytes 4 9 ++ leBytes 4 0 ++ leBytes 4 8) = true ∧
    (updating false .service).kxAccepts .yard 0xC044 (leBytes 4 9) = true ∧ (updating false .service).kxAccepts .yard 0xC043 (leBytes 4 9) = true ∧
    (updating true .recovery).kxAccepts .yard 0xC062 (leBytes 4 9) = true ∧ (side .service).updMine .yard 9 false = false := by decide
set_option maxRecDepth 200000 in
theorem witness_update_commit :
    (((updating false .maintenance).modUpd (fun u => { u with held := [0] })).updCommit .yard 9 false false).2 = none := by decide +kernel
theorem witness_kx_refused : (side .service).kxArrives .yard = true ∧ (side .service).kxArrives (.host 0) = true ∧
    kxWrongLd (.host 1) 0xC000 = true ∧ kxWrongLd .yard 0xC000 = false ∧ kxLenOk 0xC000 [1] = false ∧
    ((side .service).kxBefore .yard 0xC050 [0, 0, 0, 0]).kxModeOk 0xC050 = false ∧ (up .service).rdy Rdy.MAILBOX = false := by decide

/-! ### The budget, the map, the ferry engine, the crossing and the landing -/

/-- A NAND profile, and the device with its dies IDLE. -/
def profile : Profile := { Profile.none with diesPerCh := 8, planes := 4, blocks := 1000, tlcPages := 1500, spare := 40, idMatch := [1] }
def geared (m : Mode) : Dev := (linked m).modFlsh (fun x => { x with st := 2, prof := some profile, dies := List.replicate 128 { DieSt.reset with st := .idle } })

/-- The raw program of block 970 of plane 0 of die 0, a free spare. -/
def spareLoc : Word := 970
theorem witness_fw_nand_spare : let d := ((geared .maintenance).setRegN Reg.CORE_FW_NAND_LOC 970).setRegF Reg.CORE_FW_NAND_CMD 0 3 2
    ((geared .maintenance).setRegN Reg.CORE_FW_NAND_LOC 970).accepts fw Reg.CORE_FW_NAND_CMD = true ∧ d.core.mode = .maintenance ∧
    d.freeSpare (d.regN Reg.CORE_FW_NAND_LOC) = true ∧
    d.dieWorks (locCh (d.regN Reg.CORE_FW_NAND_LOC)) (locDie (d.regN Reg.CORE_FW_NAND_LOC)) = true := by decide

/-- Persistence is ready, and the battery holds 100 kJ. -/
def backed (m : Mode) : Dev := (ready [Rdy.LINK, Rdy.FW, Rdy.MAILBOX, Rdy.HOSTMEM, Rdy.PERSIST, Rdy.RESTORED] (geared m)).modBatt (fun b => { b with
  st := .active, elb := 100000 })
/-- Its budget limits as a recompute takes them. -/
def computed : Dev := let s := (backed .service).modFery (fun f => { f with k := 65536 })
  s.modFery (fun f => { f with limEnergy := s.limEnergyOf s.batt.elb (!s.battValid), limHard := s.limHardOf s.batt.elb, limRegion := s.limRegionOf,
                               limCfg := s.limCfgOf, eInput := s.batt.elb, eInvalid := !s.battValid })
set_option maxRecDepth 20000 in
/-- The worked example of chapter 2: e_lb = 31,000 J and k = 3,200 mJ/GiB give lim_energy = 507,412,480 granules, lim_hard 634,388,480. -/
theorem test_energy_limits : let d := (up .service).modFery (fun f => { f with k := 3200 })
    d.limEnergyOf 31000 false = 507412480 * 16384 ∧ d.limHardOf 31000 = 634388480 * 16384 := by decide
set_option maxRecDepth 20000 in
theorem witness_budget : computed.mainUp = true ∧ computed.bForced = false ∧ 0 < min (computed.limEnergyOf computed.batt.elb false) (min computed.limRegionOf computed.limCfgOf) := by
  decide
/-- The engine in RUN. -/
def running (d : Dev) : Dev := d.modFery (fun f => { f with eng := .run, wear := 2 ^ 40 })
theorem witness_wear : (running (backed .service)).fery.eng ≠ .off ∧ (running (backed .service)).fery.creditMs + 1 ≠ 1000 := by decide
/-- The map in a phase, and LIVE. -/
def phased (ph : MapPhase) (d : Dev) : Dev := d.modGmap (fun m => { m with phase := ph })
theorem witness_map_loading : (phased .loading (up .standby)).gmap.phase = .loading ∧ (phased .loading (up .standby)).gmap.normalising = false ∧
    (phased .loading (up .standby)).dirWhole = true ∧ (phased .loading (up .standby)).gmap.source ≠ 1 ∧
    ((phased .loading (up .standby)).modGmap (fun m => { m with source := 1 })).dirWhole = true ∧
    (phased .rollfwd (up .standby)).gmap.normalising = false ∧ (phased .rebuilding (up .standby)).gmap.phase = .rebuilding ∧
    ((up .standby).modGmap (fun m => { m with normalising := true })).gmap.normalising = true := by decide
theorem witness_map_live : (linked .service).accepts host Reg.GMAP_LOOKUP_IDX = true ∧ (linked .service).accepts host Reg.GMAP_CACHE_CTL = true ∧
    ((linked .service).modGmap (fun m => { m with lookupBusy := true })).gmap.lookupBusy = true ∧
    ((linked .service).setRegF Reg.GMAP_CACHE_CTL 1 1 1).regF Reg.GMAP_CACHE_CTL 1 1 = 1 ∧ (phased .live (linked .service)).ckptBusy = false := by decide
/-- A timed sweep pass runs, and it ends in a state where no further one is due. -/
def swept : Dev := (running (linked .service)).modFery (fun f => { f with sweep := some (0, true), summary := [0] })
theorem witness_sweep : (running (linked .service)).fery.sweep = none ∧ swept.fery.sweep = some (0, true) ∧
    ((swept.fery.summary.foldl (fun s l => s.sweepLine true [] l) swept).modFery (fun f => { f with sweep := none })).fery.sweepDue = false := by decide

/-- The engine in RUN over a map that holds granule 5 DIRTY, 6 PINNED and 7 CLEAN in the crossing region. -/
def mapped : Dev := (phased .live (running (backed .service))).modGmap (fun m => { m with entries := [(5, GEntry.blank .dirty), (6, GEntry.blank .pinned),
  (7, { GEntry.blank .clean with xr := true, loc := some 64 })] })
/-- Granule 6 is PINNED and waits for its capture. -/
def pinned6 (due : Bool) : Pinned := { g := 6, captured := none, due := due, first := false, since := 0, lastWrite := 0 }
theorem witness_pinned_capture : let d := mapped.modFery (fun f => { f with pinned := [pinned6 true] })
    (mapped.modFery (fun f => { f with pinned := [pinned6 false] })).fery.pinned.any
      (fun p => decide (p.g = (6 : BitVec 26).toNat) && p.captured.isNone) = true ∧
    d.pickPinned = some (pinned6 true) ∧ d.pickReissue = none ∧ d.hasRoom .thru 1 = true ∧ (d.cacheAccess 6).isSome = true := by decide
theorem witness_map_capture : let d := mapped.modGmap (fun m => { m with mapDirty := [(0, 1)] })
    d.thruReady = false ∧ d.mapReady = true ∧ d.mapNext = some 0 ∧ d.hasRoom .mapGranule 1 = true := by decide
theorem witness_checkpoint : let d := mapped.modGmap (fun m => { m with ckptWanted := true })
    d.thruReady = false ∧ d.mapReady = false ∧ d.ckptGo = true ∧ d.hasRoom .checkpoint d.ckptUnits = true := by decide
/-- Granule 5 is a candidate. -/
def candidate : Dev := mapped.modFery (fun f => { f with cand := [(5, 0)], drainOnce := [5] })
theorem witness_candidate : candidate.thruReady = false ∧ candidate.mapReady = false ∧ candidate.ckptGo = false ∧ candidate.capturing = true ∧
    candidate.bgGate = true ∧ candidate.hasRoom .background 1 = true ∧ (candidate.takeCand 8193).2 = some 5 ∧
    (((candidate.takeCand 8193).1.fixEntry false 5).cacheAccess 5).any (fun e => e.candOk 5) = true := by
  decide
/-- A copy of granule 5 that failed. -/
def copy5 : Copy := { id := 1, cls := .background, idx := 5, g := 0, oldLoc := none, wseq := 1, epoch := 1, poison := [], payload := .granule [],
                          loc := none, next := none, stage := .sealed, refused := false, slot := 0, reissued := false,
                          mapChange := false, last := false }
def copy6 : Copy := { copy5 with cls := .thru, idx := 6 }
set_option maxRecDepth 20000 in
theorem witness_reissue : let d := mapped.modFery (fun f => { f with reissue := [copy5] })
    d.pickReissue = some copy5 ∧ copy5.cls = .background ∧ d.hasRoom .background 1 = true ∧ d.accepts yard Reg.FERY_CTL = true ∧
    ((d.fixEntry false 5).cacheAccess 5).any (fun e => (e.entry 5).st = .dirty && !e.fery.parked.contains 5 &&
      decide (((e.modFery (fun f => { f with reissue := [] })).captureDirty 5).fery.nextCopy ≠ e.fery.nextCopy)) = true := by decide
set_option maxRecDepth 20000 in
theorem witness_reissue_pinned : let d := mapped.modFery (fun f => { f with reissue := [copy6], pinned := [pinned6 false] })
    d.pickReissue = some copy6 ∧ copy6.cls = .thru ∧ d.hasRoom .thru 1 = true ∧
    ((d.fixEntry false 6).cacheAccess 6).any (fun e => (e.entry 6).st = .pinned &&
      e.fery.pinned.any (fun p => decide (p.g = 6) && p.captured.isNone) &&
      decide (((e.modFery (fun f => { f with reissue := [] })).capturePinned 6).fery.nextCopy ≠ e.fery.nextCopy)) = true := by decide
/-- The fold walk starts at granule 0 of the entry table. -/
def folding : Dev := (mapped.setRegF Reg.FERY_CTL 0 1 1).modFery (fun f => { f with fold := .table 0 })
theorem witness_fold : folding.foldsRun = true ∧ folding.aboveFold = false ∧ folding.hasRoom .fold 1 = true ∧ folding.foldNext.2 = some 7 ∧
    folding.refetching 7 = false ∧
    ((folding.foldNext.1.fixEntry false 7).cacheAccess 7).any (fun e => (e.entry 7).xr && decide ((e.entry 7).st = .clean)) = true := by decide
/-- A unit that lost its redundancy: granule 9's copy at LOC 64. -/
def unit9 : NUnit := { kind := 1, idx := 9, gen := 0, wseq := 1, epoch := 1, poison := [], payload := .granule [], next := none, mask := 0, parity := 0, crossSeq := 0 }
def unitM : NUnit := { unit9 with kind := 2, idx := 0, payload := .mapGranule [] }
def exposing (u : NUnit) : Dev := (mapped.modGmap (fun m => { m with
  entries := [(9, { GEntry.blank .clean with loc := some 64 })], dir := [(0, { loc := 64, xr := false })] })).modFlsh
    (fun x => { x with units := [(64, u)], exposed := [64] })
theorem witness_relocation : (exposing unit9).relocRuns = true ∧ (exposing unit9).relocNext = some (64, unit9) ∧
    (exposing unit9).dieWorks (locCh 64) (locDie 64) = true ∧ (exposing unit9).hasRoom .relocGranule 1 = true ∧
    (((exposing unit9).fixEntry false 9).cacheAccess 9).any (fun e => e.relocatable (64, unit9)) = true ∧
    (exposing unitM).relocNext = some (64, unitM) ∧ unitM.kind ≠ 1 := by decide
theorem witness_rebuild : let d := (exposing unit9).modDie (locCh 64) (locDie 64) (fun c => { c with st := .lost })
    d.relocRuns = true ∧ d.relocNext = some (64, unit9) ∧ d.dieWorks (locCh 64) (locDie 64) = false ∧ d.flsh.rebuilt.contains 64 = false := by decide
def group0 : Group := { id := 3, stream := 0, block := 100, row := 0, page := 0, pos := [(0, 0, 0)], copies := [1], closing := false, padded := false, launched := false,
                        left := [], failed := [] }
theorem witness_group : ((geared .service).modFlsh (fun x => { x with groups := [group0] })).flsh.groups.find?
    (fun g => decide (g.stream = 0) && !g.launched && !g.padded && !g.closing && decide (g.copies ≠ [])) = some group0 := by decide
/-- A crossing in a state. -/
def saving (st : XState) : Dev := (phased .saving (up .save)).modXing (fun x => { x with st := st, toCarry := [5] })
theorem witness_crossing : (saving .quiesce).xing.st = .quiesce ∧ (saving .quiesce).xing.quiesced = false ∧ (saving .quiesce).xing.flushed = false ∧
    (saving .carry).xing.toCarry = 5 :: [] ∧ (saving .carry).moversBusy < 64 ∧ (saving .carry).fery.copies.length < 8192 := by decide
/-- A landing that restores, with every granule UNRESTORED. -/
def landing (walk : Nat) : Dev := ((phased .live (linked .restore)).modGmap (fun m => { m with
  dflt := GEntry.blank .unrestored, unrestored := (linked .restore).hostGranules })).modLand (fun l => { l with st := .restoring, walk := walk })
def landRow (zero : Bool) : Restore := { g := 4, slot := 0, attempt := 0, demand := false, start := 0, zero := zero, peers := 0, rebuilding := false }
theorem witness_landing : (landing 1).walkRuns = true ∧ ((linked .restore).modLand (fun l => { l with st := .restoring, walk := 2 })).walkNext = none ∧
    ((linked .restore).modLand (fun l => { l with st := .restoring, walk := 2 })).walkRuns = true ∧
    ((landing 1).modLand (fun l => { l with table := [landRow true] })).restore? (4 : BitVec 26).toNat = some (landRow true) ∧
    (landing 1).accepts yard Reg.XING_RESTORE_PRIO_BASE = true ∧
    (logging ((landing 1).modLand (fun l => { l with sessionAsked := true }))).land.sessionOpen = false := by decide
theorem witness_landing_take : (landing 1).walkNext = some (0, 1) ∧
    ((((landing 1).modLand (fun l => { l with walk := 1, cursor := 1 })).restoreRepair false 0).entry 0).st = .unrestored := by decide

/-! ### The fabric, the DRAM and its training -/

theorem witness_tide : (up .service).mainUp = true ∧ [1, 2, 3, 4, 5].length = 5 ∧ ((up .service).modChtr (fun c => { c with calValid := true })).mainUp = true := by
  decide
/-- The adaptive supply runs: the loop is enabled, TIDE is valid at a speed, the core rail stands at 750 mV. -/
def adapting (speed mv : Nat) : Dev :=
  ((((up .service).modChtr (fun c => { c with calValid := true })).setRegF Reg.FAB_TIDE 0 16 (speed + 2 ^ 15)).setRegF Reg.FAB_AVS 31 1 1).setRegF
    Reg.FAB_AVS_STATUS 0 10 mv
def avsMv (d : Dev) : Nat := d.regF Reg.FAB_AVS_STATUS 0 10
def avsTarget (d : Dev) : Nat := clampN 768 1100 (d.regF Reg.FAB_AVS 0 12)
def avsHyst (d : Dev) : Nat := d.regF Reg.FAB_AVS 12 8
def avsSpeed (d : Dev) : Nat := d.regF Reg.FAB_TIDE 0 12
theorem witness_adaptive : (adapting 700 750).avsMargined = false ∧ (adapting 700 750).regF Reg.FAB_TIDE 15 1 = 1 ∧
    (adapting 700 750).regF Reg.FAB_AVS 31 1 = 1 ∧ (adapting 700 750).chtr.calValid = true ∧
    avsSpeed (adapting 700 750) < avsTarget (adapting 700 750) ∧ avsMv (adapting 700 750) < 800 ∧
    800 ≤ avsMv (adapting 700 800) ∧ avsTarget (adapting 2000 750) + avsHyst (adapting 2000 750) < avsSpeed (adapting 2000 750) ∧
    700 < avsMv (adapting 2000 750) ∧ avsMv (adapting 2000 700) ≤ 700 := by decide
theorem witness_fabric : (up .service).portLive (0 : Fin 16).val = true ∧ (up .service).accepts yard Reg.FAB_TIDE_EXTREMES = true := by decide

/-- A subchannel in a state. -/
def subAt (st : SubSt) (d : Dev) : Dev := d.setSub 0 { SubCh.reset with st := st }
def entry0 : QEntry := { row := 3, col := 5, write := false, who := 0, tick := 0, data := none }
theorem witness_issue : let d := (subAt .ready (up .service)).setBank 0 { Bank.reset with queue := [entry0], opened := some 3 }
    (d.bank (0 : Fin 512).val).queue = entry0 :: [] ∧ d.subServes ((0 : Fin 512).val / 64) = true ∧
    (((d.rfmDue 0).raaManage 0).bank 0).opened = some entry0.row := by
  refine ⟨by decide, by decide, ?_⟩
  rw [Dev.raaManage, if_pos (show (((subAt .ready (up .service)).setBank 0 { Bank.reset with queue := [entry0], opened := some 3 }).rfmDue 0
    |>.bank 0).raa < max 1 Config.raaImt from Nat.lt_of_lt_of_le Nat.zero_lt_one (Nat.le_max_left _ _))]
  decide
theorem witness_row_close : (((subAt .ready (up .service)).rfmDue 0).bank 0).opened = none ∧
    ((((subAt .ready (up .service)).setBank 0 { Bank.reset with opened := some 3 }).rfmDue 0).bank 0).opened = some 3 := by decide
theorem witness_power_down : ((subAt .ready (up .service)).sub (0 : Fin 8).val).st = .ready ∧ (subAt .ready (up .service)).regF Reg.DCTL_PWR 0 8 ≠ 0 ∧
    (subAt .ready (up .service)).rankIdle 0 0 = true ∧ (subAt .ready (up .maintenance)).subIdle 0 = true ∧
    ((subAt .ready (up .maintenance)).setRegF Reg.DCTL_SR_CTL 0 10 5).regF Reg.DCTL_SR_CTL 0 10 ≠ 0 := by decide
theorem witness_refresh : (subAt .ready (up .service)).dctl.subs.all (fun c => decide (c.st = .off)) = false ∧
    ((List.range 8).foldl Dev.refreshTurn (subAt .ready (up .service))).dctl.refreshes + 1 < 8192 ∧
    (let e := { subAt .ready (up .service) with dctl := { (subAt .ready (up .service)).dctl with refreshes := 8191 } }
     ((List.range 8).foldl Dev.refreshTurn e).dctl.refreshes + 1 = 8192) ∧
    [((0 : BitVec 3), true)].any (fun r => r.2) = true ∧ [((0 : BitVec 3), false)].any (fun r => r.2) = false := by decide
/-- Copy 1 of granule 5 awaits its seal. -/
def capturing5 : Dev := mapped.modFery (fun f => { f with copies := [{ copy5 with stage := .waitLane }] })
set_option maxRecDepth 20000 in
theorem witness_captured_errors : capturing5.capturesLine 1 ((16384 * 5 : Nat) / 64 * 64) = true ∧
    (capturing5.readBursts (16384 * 5 / 64 * 64) true [[], [], []]).2 = .data 0 ∧
    16384 * (linked .service).hostGranules ≤ (0xFFD0000000 : Nat) / 64 * 64 ∧ (0xFFD0000000 : Nat) / 64 * 64 < (linked .service).installed := by decide +kernel
def refetch5 : Refetch := { g := 5, lines := [0], running := true, slot := 0, attempt := 1, rebuilding := false, peers := 0, result := some true }
theorem witness_refetch : ({ mapped with dctl := { mapped.dctl with refetches := [refetch5] } } : Dev).refetch? (5 : BitVec 26).toNat = some refetch5 ∧
    refetch5.result = some true := by decide
theorem witness_subchannel : ((subAt .ready (up .service)).sub (0 : Fin 8).val).st = .ready ∧
    (((up .service).setSub 0 { SubCh.reset with st := .replay, retrained := true }).sub 0).retrained = true ∧
    (((subAt .replay (up .service)).setSub 0 { SubCh.reset with st := .replay, alertLow := false }).sub 0) = { SubCh.reset with st := .replay, alertLow := false } ∧
    ((subAt .replay (up .service)).sub 0).alertLow = false ∧
    (((up .service).setSub 0 { SubCh.reset with st := .paused, fromReplay := true }).sub 0).fromReplay = true ∧
    ((subAt .init (up .service)).sub 0).st = .init := by decide
theorem witness_alert_count : let a := fun (n : Nat) => (up .service).setSub 0 { SubCh.reset with st := .replay, alerts := n }
    ((a 1).sub 0).st = .replay ∧ ((a 1).sub 0).retrained = false ∧ ((a 1).sub 0).alerts < 2 ∧ 2 ≤ ((a 2).sub 0).alerts ∧
    ((subAt .training (up .service)).sub 0).st = .training ∧ ((subAt .selfRefresh (up .service)).sub 0).st = .selfRefresh ∧
    ((up .service).sub 0).st = .off := by decide

/-- A GO of OP 4 on subchannel 0. -/
def trnVal : Word := 0x401
def trained : Dev := (subAt .training (up .restore)).putTrnCmd trnVal
theorem witness_training_go : (subAt .training (up .restore)).accepts yard Reg.DCTL_TRN_CMD = true ∧ bitsOf trnVal.toNat 8 4 = 4 ∧
    trained.trainMode = true ∧ trained.trn.gather = none ∧
    ((subsOf (BitVec.ofNat 8 (bitsOf trnVal.toNat 0 8))).filter
      (trained.srExit (BitVec.ofNat 8 (bitsOf trnVal.toNat 0 8))).trainable).foldl (fun a n => a ||| (1#8 <<< n)) 0#8 ≠ 0 ∧ bitsOf (1 : Word).toNat 8 4 = 0 := by decide
theorem witness_training_results : let d : Dev := { subAt .training (up .restore) with trn := { TrnSt.reset with gather := some (1, 4), pending := 1 } }
    d.trn.gather = some (1, 4) ∧ d.accepts yard Reg.DCTL_TRN_CMD = true ∧ (d.putTrnCmd trnVal).trainMode = true ∧
    ((subsOf (BitVec.ofNat 8 (bitsOf trnVal.toNat 0 8) &&& (d.putTrnCmd trnVal).trn.pending)).filter (d.putTrnCmd trnVal).trainable) ≠ [] ∧
    ((up .service).putTrnCmd trnVal).trainMode = false := by decide
theorem witness_tracking : let d := (subAt .ready (up .service)).setRegF Reg.DCTL_TRN_PERIODIC 31 1 1
    let e : Dev := { d with dctl := { d.dctl with afterRef := true } }
    d.core.mode = .service ∧ d.regF Reg.DCTL_TRN_PERIODIC 31 1 = 1 ∧ d.trn.turn = (0 : Fin 8).val ∧ (e.sub 0).st = .ready ∧ e.dctl.afterRef = true ∧
    (List.range 8).any e.tracking = false ∧ ((subAt .selfRefresh d).sub 0).st = .selfRefresh ∧ (subAt .paused d).tracking 0 = true := by decide
/-- The components have speed 3, and a change to it is in a phase. -/
def speeding (ph : FreqPhase) : Dev := let d := (up .maintenance).setRegF Reg.DCTL_CONFIG 4 4 8
  { d with trn := { d.trn with phase := ph, newSpeed := 3, setA := 3 } }
theorem witness_speed : (speeding .idle).accepts yard Reg.DCTL_FREQ_REQ = true ∧ (speeding .idle).core.mode = .maintenance ∧
    3 ≤ (speeding .idle).regF Reg.DCTL_CONFIG 4 4 ∧ bitsOf (3 : Word).toNat 0 4 = 3 ∧ (up .service).accepts yard Reg.DCTL_FREQ_REQ = true ∧
    (speeding .deferred).freqClear = true ∧ ({ speeding .enter with dctl := { DctlSt.reset with subs := List.replicate 8 { SubCh.reset with st := .selfRefresh } } } : Dev).allSubs
      (fun c => decide (c.st = .selfRefresh) || decide (c.st = .failed)) = true ∧
    (speeding .relock).trn.setA = (speeding .relock).trn.newSpeed ∧ (speeding .relock).trn.setB ≠ 4 ∧ (speeding .relock).trn.setA ≠ 4 := by decide

/-! ### NAND dies, the charter store, the cipher engine and the check-value units -/

/-- Die 0 of channel 0 as given, every other die IDLE. -/
def dieAt (f : DieSt → DieSt) : Dev := (geared .service).modDie 0 0 f
def readDesc : Desc := { op := .read 64 false (.refetch 5), prio := 0 }
def eraseDesc : Desc := { op := .erase 64, prio := 6 }
theorem witness_die_check : ((dieAt (fun c => { c with st := .init })).die (0 : Fin 16).val (0 : Fin 8).val).st = .init ∧
    (geared .service).flsh.chLost.contains 0 = false ∧ (geared .service).geo.idMatch = [1] := by decide
theorem witness_die_issue : let d := dieAt (fun c => { c with queue := [readDesc] })
    (d.die (0 : Fin 16).val (0 : Fin 8).val).queue.find? (d.shareFree (0 : Fin 16).val) = some readDesc ∧ (d.die 0 0).st = .idle := by decide
theorem witness_die_complete : ((dieAt (fun c => { c with st := .busy, cur := some readDesc })).die (0 : Fin 16).val (0 : Fin 8).val).cur = some readDesc ∧
    (geared .service).mayEnd (.ok 0) = true ∧ ((dieAt (fun c => { c with st := .busy, cur := some readDesc })).die 0 0).st ≠ .init := by decide
theorem witness_die_suspend : let d := dieAt (fun c => { c with st := .busy, cur := some eraseDesc, queue := [readDesc] })
    (d.die (0 : Fin 16).val (0 : Fin 8).val).st = .busy ∧ (d.die 0 0).cur = some eraseDesc ∧ (d.die 0 0).queue = readDesc :: [] ∧
    readDesc.demand = true ∧ eraseDesc.op = .erase 64 ∧ readDesc.op = .read 64 false (.refetch 5) := by decide
theorem witness_nand_ready : let d := (geared .standby).modFlsh (fun x => { x with st := 1 })
    d.flsh.st = 1 ∧ d.flsh.dies.any (fun c => decide (c.st = .init)) = false ∧ d.flshFailed = false ∧ d.flsh.rows = [] ∧ d.flsh.cut = [] := by decide

/-- The store in DISCOVER, and READY with a part of 128 MiB. -/
def storeAt (n : Nat) (m : Mode) : Dev := (chartered (up m)).modChtr (fun c => { c with st := n, density := 1, partReady := true })
theorem witness_store_start : (storeAt 1 .standby).chtr.st = 1 ∧ (storeAt 1 .standby).chtr.partReady = true ∧ (1 : Fin 4).val ≠ 0 ∧
    (storeAt 2 .standby).chtr.st = 2 := by decide
/-- Firmware programs, erases and reads the scratch region; a port reads it. -/
theorem witness_store_submit : [(fw, 1), (fw, 2), (fw, 6), (yard, 1)].map (fun x =>
      let d := (storeAt 2 .service).chLoaded x.1 x.2 7 15 0x2810000 0xFFFFFFFF []
      ((storeAt 2 .service).accepts x.1 Reg.CHTR_SUBMIT,
       decide (d.chPort (chIdx x.1) = { (storeAt 2 .service).chPort (chIdx x.1) with
         d0 := BitVec.ofNat 32 (x.2 + fieldAt 8 8 7 + fieldAt 16 16 15), d1 := 0x2810000, d2 := 0xFFFFFFFF }),
       decide (chBuf x.1 x.2 0xFFFFFFFF (chLen x.2 16) = some none), d.chTakes x.1 x.2 0x2810000 16)) = List.replicate 4 (true, true, true, true) := by decide
theorem witness_store_erase : [4, 5].map (fun op =>
      let d := (storeAt 2 .service).chLoaded fw op 7 0 0x2810000 0xFFFFFFFF []
      (decide (d.chPort 0 = { (storeAt 2 .service).chPort 0 with
         d0 := BitVec.ofNat 32 (op + fieldAt 8 8 7 + fieldAt 16 16 0), d1 := 0x2810000, d2 := 0xFFFFFFFF }),
       decide (chBuf fw op 0xFFFFFFFF (chLen op 1) = some none), d.chTakes fw op 0x2810000 1)) = List.replicate 2 (true, true, true) := by decide
def chDesc0 (q : ChReq) : ChDesc := { op := 1, addr := 0x2810000, len := 16, data := [], req := q, what := if q = .logbook then .logSlot else .native 7, buf := none }
def storing (q : ChReq) : Dev := (storeAt 2 .service).modChtr (fun c => { c with cur := some (chDesc0 q) })
theorem witness_store_complete : (storing .firmware).chtr.cur = some (chDesc0 .firmware) ∧ (chDesc0 .firmware).req ≠ .logbook ∧
    (storeAt 2 .service).accepts yard Reg.CHTR_CMPL_ACK = true := by decide

/-- A protected region's block is named, the cipher is ready. -/
def protecting : Dev := (ready [Rdy.CIPHER, Rdy.FW] (storeAt 2 .service)).setRegN Reg.CHTR_PR_ADDR (3 + 256 * 5)
theorem witness_protected : protecting.accepts chassis Reg.CHTR_PR_CMD = true ∧ protecting.regF Reg.CHTR_PR_ADDR 0 3 = 3 ∧
    protecting.regF Reg.CHTR_PR_ADDR 8 10 = 5 ∧ protecting.actsFor chassis = some .chassis ∧ ownRegion .chassis = 3 ∧ protecting.chtr.prBusy = false ∧
    protecting.prRefusal 3 5 = none ∧ (protecting.setRegN Reg.CHTR_PR_ADDR 0).prRefusal 0 0 = some .badParam := by decide
theorem witness_password_set : protecting.accepts chassis Reg.CHTR_PW_CMD = true ∧ protecting.rdy Rdy.CIPHER = true ∧
    (protecting.writeStatus chassis .ok).pwAllowed 3 = true ∧ (protecting.writeStatus chassis .ok).prLocked 3 = false ∧
    protecting.accepts yard Reg.CHTR_PW_CMD = true := by decide
/-- A password is set: its verifier is of the password registers, which are 0, or of another. -/
def guarded (v : BitVec 128) : Dev := protecting.modPw 3 (fun r => { r with verifier := some v })
theorem witness_password_unlock (v : BitVec 128) : ((guarded v).pwOf 3).lockout = none ∧ ((guarded v).pwOf 3).verifier = some v ∧
    (guarded v).accepts chassis Reg.CHTR_PW_CMD = true := ⟨rfl, rfl, by rfl⟩
theorem witness_verifier : ∃ v w : BitVec 128, v = pwVerifier 3 (guarded v).password ∧ w ≠ pwVerifier 3 (guarded w).password :=
  ⟨pwVerifier 3 protecting.password, ~~~(pwVerifier 3 protecting.password), rfl, fun h => by
    have := congrArg (fun x : BitVec 128 => x.getLsbD 0) (show ~~~(pwVerifier 3 protecting.password) = pwVerifier 3 protecting.password from h)
    simp at this⟩
/-- The services of the Slipway ROM. -/
theorem witness_rom : (storeAt 2 .service).core.fwState = 2 ∧ [1, 2, 4, 5, 6].map (fun op =>
      let d := (storeAt 2 .service).modChtr (fun c => { c with romA := none })
      (decide (chBuf fw op 0x20000000 (chLen op 16) = some (if op = 4 ∨ op = 5 then none else some 0)), d.chTakes fw op 0x2810000 16)) =
    List.replicate 5 (true, true) := by decide

/-- The cipher engine with epochs left. -/
def ciphered (f : CiphSt → CiphSt) : Dev := (up .service).modCiph (fun c => f { c with st := .active, epoch := 3, limit := 20 })
def seal1 : Msg := { who := .copy 1, isSeal := true, epoch := 0, resumed := false }
def open5 (w : MsgFor) : Msg := { who := w, isSeal := false, epoch := 2, resumed := false }
theorem witness_message_start : let d := ciphered (fun c => { c with waiting := [seal1] })
    let e := ciphered (fun c => { c with waiting := [open5 (.refetch 5)] })
    d.sealsExhausted = false ∧ d.freeLane = some 0 ∧ d.ciph.waiting.find? (fun m => d.msgDemand m && d.msgMay m) = none ∧ d.ciph.suspended = [] ∧
    d.ciph.waiting.find? d.msgMay = some seal1 ∧
    e.ciph.waiting.find? (fun m => e.msgDemand m && e.msgMay m) = some (open5 (.refetch 5)) := by decide
theorem witness_message_done : [seal1, open5 (.restore 5), open5 (.refetch 5)].all (fun m =>
      decide ((ciphered (fun c => { c with lanes := (some m) :: List.replicate 15 none })).ciph.lanes.getD (0 : Fin 16).val none = some m)) = true ∧
    (capturing5.copy? 1).any (fun c => c.cls.stream.isSome) = true := by decide
theorem witness_epochs : (ciphered id).accepts yard Reg.CIPH_CTL = true ∧ (ciphered id).ciph.epoch < (ciphered id).ciph.limit ∧
    (ciphered (fun c => { c with limit := 3 })).ciph.limit ≤ (ciphered (fun c => { c with limit := 3 })).ciph.epoch ∧
    (let d := ciphered (fun c => { c with st := .reserve, reserving := some 36 })
     d.ciph.reserving = some 36 ∧ d.ciph.st = .reserve ∧
     (((d.modCiph (fun c => { c with reserving := none })).putEpochBlock 2 36 1).putEpochBlock 3 36 1).ciph.st = .reserve) ∧
    (ciphered (fun c => { c with retry := true })).ciph.reserving = none := by decide
theorem witness_check_units : [Reg.CHK_CTL_0, Reg.CHK_VALUE_0, Reg.CHK_FEED8_0, Reg.CHK_FEED16_0, Reg.CHK_FEED32_0, Reg.CHK_EXPECT_0].all
    (fun off => (up .service).accepts yard (off + 0x20 * (7 : Fin 8).val)) = true := by decide

/-! ### The rails, the bell and the battery -/

/-- The sequencer in a state, with the charter of these steps. -/
def sequenced (steps : List Nat) (f : SeqSt → SeqSt) : Dev :=
  { up .maintenance with charter := some { charter with tt := { charter.tt with steps := steps } } }.modSeq f
theorem witness_rails : (up .maintenance).aonUp = true ∧ ((chartered (up .maintenance)).railRec 0).populated = true ∧
    (((up .maintenance).modRail 0 (fun r => { r with st := .ramp })).rail (0 : Fin 24).val).st = .ramp ∧
    [({ rails := [0], ramping := true } : Restarting)].any (fun r => r.ramping && decide (r.rails.head? = some (0 : Fin 24).val)) = true ∧
    (((up .maintenance).modRail 0 (fun r => { r with st := .disch })).rail 0).st = .disch := by decide
/-- A margin of 100 mV on rail 0. -/
def marginVal : Word := 100 * 65536
theorem witness_margin_write : (chartered (up .maintenance)).accepts yard Reg.SEQ_MARGIN = true ∧ sint16 (bitsOf marginVal.toNat 16 16) = 100 ∧
    bitsOf marginVal.toNat 0 8 = 0 ∧ (((chartered (up .maintenance)).storeReg Reg.SEQ_MARGIN marginVal).railRec 0).vtrim = true ∧
    ((chartered (up .maintenance)).storeReg Reg.SEQ_MARGIN marginVal).core.mode = .maintenance := by decide
theorem witness_timetable : (sequenced [0] (fun q => { q with run := 1, wait := .ticks })).seq.run ≠ 0 ∧
    [0x05000000, 0xFF000100, 0xFF000000].map (fun w =>
      let d := sequenced [w] (fun q => { q with run := 1, wait := .check })
      (decide (d.steps.getD d.seq.step 5 = w), decide ((d.latch Reg.SEQ_ERR 0).seq.run = 1), decide (stepTarget w = 0xFF),
        ((d.latch Reg.SEQ_ERR 0).railRec (stepRail w)).critical)) =
    [(true, true, false, false), (true, true, true, true), (true, true, true, false)] := by decide

/-- A device of bell role 2, with the line in a phase. -/
def belled (ph : Nat) : Dev := (((chartered (up .service)).setRegF Reg.SEQ_BELL_CTL 0 2 2).modSeq (fun q => { q with bellPhase := ph }))
theorem witness_bell : (belled 0).accepts yard Reg.SEQ_BELL_TX = true ∧ (belled 0).bellRole = 2 ∧ (belled 0).seq.bellPhase = 0 ∧
    (belled 1).seq.bellPhase ≠ 0 ∧ (belled 0).aonUp = true ∧ (belled 0).seq.bellPhase ≠ 2 ∧ (belled 0).seq.bellFailed = false ∧
    bellEv (0 : Fin 64).val = some .offReq ∧ bellEv (9 : Fin 64).val = none ∧ (belled 2).seq.bellClaimed = false := by decide

/-- A sample of a pack on its idle current, and of no pack. -/
def sampled (d : Dev) (idMv : Nat) : Dev := (d.takeSample (some 1000) (some 3800) (some 2500) (some idMv)).meter
theorem witness_sample : (gauged .service).aonUp = true ∧ packThere 550 2500 = true ∧
    3 ≤ (sampled ((gauged .service).modBatt (fun b => { b with goneRun := 3 })) 5000).batt.goneRun ∧ (gauged .service).batt.st ≠ .absent ∧
    (sampled (up .service) 550).batt.goneRun < 3 ∧ (sampled (up .service) 550).packRec = none ∧ (sampled (up .service) 550).batt.convRun < 3 ∧
    (sampled (gauged .service) 550).packRec = some pack0 ∧ (sampled (gauged .service) 550).batt.st = .active ∧
    (sampled (gauged .service) 550).batt.convRun < 3 ∧ 2000 * pack0.cells ≤ (sampled (gauged .service) 550).batt.volt ∧
    (sampled (gauged .service) 550).batt.volt ≤ 4500 * pack0.cells ∧
    pack0.cells * pack0.vCutoff ≤ ((sampled (gauged .service) 550).countCharge pack0).batt.volt := by decide
theorem witness_presence : ((up .service).modBatt (fun b => { b with present := true })).batt.st = .absent := by decide
/-- The gauge at a voltage and a current. -/
def metered (mv : Nat) (ua : Int) : Dev := (gauged .service).modBatt (fun b => { b with volt := mv, cur := ua, charging := true })
theorem witness_gauge : (gauged .service).packRec = some pack0 ∧ ((gauged .service).modBatt (fun b => { b with st := .settling })).packRec = some pack0 ∧
    pack0.cells * (pack0.vChg - 30) ≤ (metered 4190 (-50000)).batt.volt ∧ (metered 4190 (-50000)).batt.cur ≤ -1000 ∧
    -(1000 * (pack0.iTaper : Int)) ≤ (metered 4190 (-50000)).batt.cur ∧ (metered 4190 (-50000)).core.mode ≠ .save ∧
    (metered 4190 (-50000)).batt.charging = true ∧
    1000 ≤ (metered 3050 50000).batt.cur ∧ (metered 3050 50000).batt.cur ≤ 1000 * (pack0.iTaper : Int) ∧
    (metered 3050 50000).batt.volt ≤ pack0.cells * (pack0.vCutoff + 100) ∧
    -(1000 * (pack0.iRest : Int)) < (metered 3700 0).batt.cur ∧ (metered 3700 0).batt.cur < 1000 * (pack0.iRest : Int) := by decide
theorem witness_rest : (((metered 3700 0).calibrate pack0 3 ((metered 3700 0).socOf pack0 (((metered 3700 0).batt.volt : Rat) / (pack0.cells : Rat)) / 100)
    pack0.margin).drew).batt.st = .active := by rfl
theorem witness_energy : (up .service).aonUp = true ∧ (up .service).batt.st ≠ .active ∧
    ((gauged .service).modBatt (fun b => { b with chgFailed := true })).batt.chgFailed = true ∧ (up .service).accepts yard Reg.BATT_CTL = true := by decide

/-! ### The sideband ports, the logbook and the update manager -/

/-- PEC of a Block Write of four zeros to a register code. -/
def pecOf (code : Byte) : Byte :=
  BitVec.ofNat 8 (crc8 ([BitVec.ofNat 8 (2 * ((side .service).port (sbPort false)).addr), code, 4] ++ List.replicate 4 0))
set_option maxRecDepth 20000 in
theorem witness_window : (side .service).sbLive false = true ∧ (side .service).sbLive true = true ∧
    [0x01, 0x02, 0x10, 0x11].all (fun c => (side .service).sbGood false c 4 (List.replicate 4 0) none) = true ∧
    (side .service).sbGood false 0x01 4 (List.replicate 4 0) (some (pecOf 0x01)) = true ∧
    (side .service).sbGood false 0x01 2 [0, 0] none = true ∧ leAt (leBytes 4 0x100000) 0 4 = 0x100000 ∧ leAt (leBytes 4 2) 0 4 % 4 ≠ 0 ∧
    pecOf 0x01 ≠ pecOf 0x01 + 1 := by decide
/-- EXEC of KX_GET_STATUS. -/
def execData : Bytes := leBytes 4 0xC010 ++ leBytes 4 0
theorem witness_exec : (side .service).sbGood false 0x12 8 execData none = true ∧ leAt execData 4 4 = 0 ∧
    ((side .service).port (sbPort false)).execSt ≠ 1 := by decide
/-- A write of register 3 of the device at 0x40, and of the enable register of a rail. -/
def xferVal (addr code : Nat) : Word := BitVec.ofNat 32 (addr + 256 * code + 65536)
theorem witness_transfer : let w := xferVal 0x40 3 ||| 0x80000000
    let d := ((chartered (up .service)).storeReg Reg.TWB_XFER_CTL w).writeStatus fw .ok
    (chartered (up .service)).accepts fw Reg.TWB_XFER_CTL = true ∧ (chartered (up .service)).twb.xferGo = false ∧
    d.bh03 (bitsOf w.toNat 0 7) (bitsOf w.toNat 8 8) = false ∧ d.bh07Ok (bitsOf w.toNat 0 7) (bitsOf w.toNat 8 8) = true ∧
    d.core.mode = .service ∧ bitsOf w.toNat 16 6 ≤ 32 ∧ bitsOf (xferVal 0x50 1 ||| 0x80000000).toNat 7 1 = 0 ∧
    ((chartered (up .service)).storeReg Reg.TWB_XFER_CTL (xferVal 0x50 1 ||| 0x80000000)).bh03 0x50 1 = true := by decide
/-- The PM controller runs a transfer, and one waits for its retry. -/
def transferring : Dev := ((up .service).modTwb 1 (fun t => { t with st := 2 })).modTwbSt (fun t => { t with pm := [.firmware], pmRetry := [.firmware] })
theorem witness_pm : (transferring.port 1).st = 2 ∧ transferring.twb.pm = .firmware :: [] ∧ transferring.twb.pmRetry = .firmware :: [] := by decide
theorem witness_ports : ((side .service).port (2 : Fin 3).val).st = 1 ∧ (((side .service).modTwb 0 (fun t => { t with st := 5 })).port (0 : Fin 3).val).st = 5 ∧
    ((side .service).modTwbSt (fun t => { t with svLive := true })).twb.svLive = true ∧
    (let d := (side .service).modTwbSt (fun t => { t with notifyPend := 1 })
     d.twb.notifyPend ≠ 0 ∧ (d.port 0).st = 1 ∧ d.twb.notifyWait = false) ∧
    (((side .service).modTwb 1 (fun t => { t with st := 1 })).port 1).st = 1 := by decide

def event0 : LogEv := { ty := 1, payload := [], count := 1, opS := 0, early := false, issued := false }
theorem witness_logbook : ((up .standby).modLog (fun l => { l with st := 1 })).log.st = 1 ∧ (up .standby).log.queue.length < 32 ∧
    (let d := logging ((up .service).modLog (fun l => { l with queue := [event0] }))
     d.log.st = 2 ∧ d.log.busy = 0 ∧ d.logJudge.log.carry = [] ∧ d.log.toErase = none ∧ d.log.queue.find? (fun e => !e.issued) = some event0 ∧ d.log.pending = 0) ∧
    (logging ((up .service).modLog (fun l => { l with carry := [[1]] }))).logJudge.log.carry = [1] :: [] ∧
    (storing .logbook).chtr.cur = some (chDesc0 .logbook) ∧ (chDesc0 .logbook).req = .logbook ∧
    0 < (logging ((up .service).modLog (fun l => { l with pending := 1 }))).log.pending := by decide
/-- Piece 1 of a session is buffered. -/
def buffered : Dev := (updating false .service).modUpd (fun u => { u with bufs := [(1, manifest)] })
theorem witness_piece_written : buffered.upd.bufs = (1, manifest) :: [] ∧ buffered.core.mode ≠ .save ∧ buffered.upd.st = 1 := ⟨rfl, by decide, rfl⟩
theorem witness_piece_store : (((buffered.modChtr (fun c => { c with st := 2 })).modUpd (fun u => { u with bufs := [] })).stagErase 0 4096).chtr.st = 2 := by rfl
/-- Piece 1 of a session 9 with ten bytes in it, as its slot holds it; and a slot that holds nothing. -/
def slot1 : Bytes := List.replicate 10 7 ++ List.replicate 4070 0xFF ++ leBytes 4 9 ++ leBytes 4 1 ++ leBytes 4 (crc32c (List.replicate 10 7)) ++ leBytes 4 0
def twoPieces : Bytes := List.replicate 16 0 ++ leBytes 4 4090 ++ leBytes 4 4080 ++ leBytes 4 2
def written1 (bs : Bytes) : Dev := (((updating false .service).modUpd (fun u => { u with header := twoPieces })).modChtr
  (fun c => { c with st := 2 })).stagWrite (slotOff twoPieces 1) bs
set_option maxRecDepth 200000 in
theorem witness_slot : (written1 slot1).slotHolds (written1 slot1).upd.session ((written1 slot1).upd.held.contains 0) 1 = true ∧
    (written1 []).slotHolds (written1 []).upd.session ((written1 []).upd.held.contains 0) 1 = false := by decide +kernel
theorem witness_trial : let d := ready [Rdy.FW] ((up .service).modUpd (fun u => { u with st := 4 }))
    d.upd.st = 4 ∧ d.rdy Rdy.FW = true := by decide
theorem witness_update_control : (up .maintenance).accepts yard Reg.UPD_CTL = true ∧ (up .service).core.mode ≠ .maintenance ∧ (up .service).upd.st ≠ 4 ∧
    (up .service).accepts yard Reg.UPD_CTL = true := by decide


/-! ### A charter and a firmware slot -/

/-- The smallest charter: no register image, no rails, waits that mark the checkpoints, the three ports' own entries. -/
def sections : List Section :=
  [{ ty := 1, sver := 1, payload := [] },
   { ty := 2, sver := 1, payload :=
      (let p := leBytes 2 1 ++ [0, 12, 8, 4] ++ leBytes 2 1000 ++ leBytes 2 1500 ++ leBytes 2 18000 ++ [40, 5, 0, 0] ++ leBytes 2 40 ++ leBytes 2 160 ++
         leBytes 2 1900 ++ leBytes 2 1000 ++ [20, 0] ++ leBytes 2 1000 ++ leBytes 2 10000 ++ [0, 0] ++ List.replicate 28 0
       p ++ leBytes 4 (crc32c p)) },
   { ty := 3, sver := 1, payload := leBytes 2 8 ++ [0, 4, 0, 0] ++ leBytes 2 1000 ++ List.replicate 64 0xFF ++
      [0x32, 0x22, 0x12, 0x05, 0x12, 0x22, 0x32, 0x05].flatMap (fun w => leBytes 8 w) },
   { ty := 4, sver := 1, payload := [24, 1, 0, 0] ++ (List.range 24).flatMap (fun k => BitVec.ofNat 8 k :: List.replicate 31 0) },
   { ty := 6, sver := 1, payload := [3, 1, 0, 0] ++ [0, 0x20, 1, 0, 0, 0, 0, 0] ++ [1, 0x21, 1, 0, 0, 0, 0, 0] ++ [2, 0x22, 1, 0, 0, 0, 0, 0] }]
/-- Firmware of 64 bytes of code. -/
def image : Bytes :=
  let code := List.replicate 64 (0 : Byte)
  let h := leBytes 4 0x5746584B ++ leBytes 2 1 ++ leBytes 2 64 ++ leBytes 4 0 ++ leBytes 4 128 ++ leBytes 4 64 ++ leBytes 4 0x10000000 ++
    List.replicate 32 0 ++ leBytes 4 (crc32c code)
  h ++ leBytes 4 (crc32c h) ++ code
set_option maxRecDepth 200000 in
/-- The smallest charter passes full verification: LD 0 takes the host-visible capacity (R291). -/
theorem test_charter : (verifyCharter (charterBytes 0 7 (List.replicate 8 0) sections)).map (fun c => (c.2.seq, c.2.fwSlot, c.2.lds)) =
    some (7, 0, 1023 :: List.replicate 15 0) := by decide +kernel
set_option maxRecDepth 200000 in
theorem test_firmware_slot : fwOk image = true := by decide +kernel
end Sys2Proof.Tests
end

section
/-!
PROOFS. The statements of the scope: a step of the queue, register writes and reads, and the host's configuration of the link.
-/
namespace Sys2Proof.Laws
open Sys2Proof Sys2Proof.Machine

/-! ### A step -/

theorem step_of_cons {s : State} {c : Instr} {rest : List Instr} (h : s.pending = c :: rest) :
    step s = exec c { s with pending := rest } := by
  unfold step; rw [h]

theorem step_of_nil {s : State} (h : s.pending = []) : step s = .next (s.put { s.dev with ticks := s.dev.ticks + 1 }) := by
  cases s; cases h; rfl

/-! ### What the commands run -/

theorem exec_registerWrite (src : Src) (off : BitVec 20) (val : Word) (s : State) :
    exec (.registerWrite src off val) s = .next (s.put (regWrite src off.toNat val s.dev).settle) := rfl
theorem exec_pairLoRead (src : Src) (off : BitVec 20) (s : State) :
    exec (.pairLoRead src off) s = .next (s.put (pairLoRead src off.toNat s.dev)) := rfl
theorem exec_flr (ld : Fin 16) (s : State) : exec (.flr ld) s = .next (s.put (flr ld s.dev)) := rfl
theorem exec_cxlReset (ld : Fin 16) (s : State) : exec (.cxlReset ld) s = .next (s.put (cxlReset ld s.dev)) := rfl
theorem exec_setLdAllocations (sizes : List Nat) (s : State) :
    exec (.setLdAllocations sizes) s = .next (s.put (setLdAllocations sizes s.dev).settle) := rfl
theorem exec_hdmDecoderCommit (ld : Fin 16) (n : Fin 2) (commit : Bool) (base : BitVec 52) (size : Nat) (ways : Fin 8) (gran : Fin 7)
    (skip : Nat) (s : State) :
    exec (.hdmDecoderCommit ld n commit base size ways gran skip) s =
      .next (s.put (hdmDecoderCommit ld n commit base size ways gran skip s.dev)) := rfl
theorem exec_msixUnmask (ld : Fin 16) (v : Fin 4) (s : State) : exec (.msixUnmask ld v) s = .next (s.put (msixUnmask ld v s.dev)) := rfl
theorem exec_doeCdatRequest (ld : Fin 16) (s : State) : exec (.doeCdatRequest ld) s = .next (s.put (doeCdatRequest ld s.dev)) := rfl
theorem exec_bar2BadAccess (off : BitVec 20) (write : Bool) (s : State) :
    exec (.bar2BadAccess off write) s = .next (s.put (bar2BadAccess off write s.dev)) := rfl

/-! ### Guarded writes -/

theorem aonUp_of_accepts {s : Dev} {src : Src} {off : Nat} (h : s.accepts src off = true) : s.aonUp = true := by
  simp only [Dev.accepts, Bool.and_eq_true] at h
  exact h.1.1

/-- A write that the table refuses to a port is recorded, and its action is not run (R394, R398). -/
theorem guarded_of_refused {s : Dev} {p : Port} {off : Nat} (act : Dev → Dev) (hup : s.aonUp = true)
    (hno : s.portMay (rowOf off) p = false) : s.guarded (.port p) off act = s.refuseWrite p (rowOf off) off := by
  simp [Dev.guarded, hup, hno]

/-! ### Register writes (R394) -/

/-- The registers outside the charter store and the check units whose write does more than store its fields. -/
def actingRegs : List Nat :=
  [Reg.CORE_MODE_REQ, Reg.CORE_LOCK, Reg.CORE_WDOG, Reg.CORE_FW_NAND_CMD, Reg.HLNK_LINK_CTL, Reg.FAB_TIDE_EXTREMES,
   Reg.DCTL_TRN_CMD, Reg.DCTL_FREQ_REQ, Reg.GMAP_CACHE_CTL, Reg.GMAP_LOOKUP_IDX, Reg.FERY_CTL, Reg.XING_RESTORE_PRIO_BASE,
   Reg.XING_RESTORE_PRIO_LIMIT, Reg.CIPH_CTL, Reg.SEQ_MARGIN, Reg.SEQ_BELL_TX, Reg.BATT_CTL, Reg.TWB_XFER_CTL, Reg.UPD_CTL]

/-- An aligned write of a register acts as the register does. -/
theorem regWrite_of_register {s : Dev} (src : Src) {off : Nat} (val : Word) (hup : s.aonUp = true) (hal : off % 4 = 0)
    (hreg : (regRow off).isSome = true) : regWrite src off val s = regWriteAt src off val s := by
  have hrow : (regRow off).isNone = false := by simpa using hreg
  simp [regWrite, hup, hal, hrow]

/-- A register that is none of the acting ones, and in neither block with writes of its own, only stores. -/
theorem regWriteAt_eq_plainWrite (src : Src) {off : Nat} (val : Word) (s : Dev) (hact : off ∉ actingRegs)
    (hchtr : off / 0x10000 ≠ 8) (hchk : off / 0x10000 ≠ 0xA) : regWriteAt src off val s = plainWrite src off val s := by
  simp only [actingRegs, List.mem_cons, List.not_mem_nil, or_false, not_or] at hact
  simp only [regWriteAt, hact, hchtr, hchk, if_false]

theorem plainWrite_of_accepts {s : Dev} {src : Src} {off : Nat} {val : Word} (hacc : s.accepts src off = true)
    (hval : valueRejected off val.toNat = false) : plainWrite src off val s = (s.storeReg off val).writeStatus src .ok := by
  unfold plainWrite
  rw [guarded_of_accepts _ hacc, hval]
  simp

theorem plainWrite_of_refused {s : Dev} {p : Port} {off : Nat} (val : Word) (hup : s.aonUp = true)
    (hno : s.portMay (rowOf off) p = false) : plainWrite (.port p) off val s = s.refuseWrite p (rowOf off) off :=
  guarded_of_refused _ hup hno

/-! ### Reads of a pair (R5) -/

/-- A read returns its value to the reader, with what the read does to the latches. -/
theorem pairLoRead_of_aonUp {s : Dev} (src : Src) (off : Nat) (hup : s.aonUp = true) :
    pairLoRead src off s = (s.readBy src off).1.emit (.mmioRead off (s.readBy src off).2) := by
  simp [pairLoRead, hup]

theorem readBy_of_lo (s : Dev) (src : Src) {off : Nat} (hlo : pairLos.contains off = true) :
    s.readBy src off = (({ s with pairLatch := insertK (0x100000 * chIdx src + off + 4) (s.readReg (chIdx src) (off + 4)) s.pairLatch } : Dev).drew,
      s.readReg (chIdx src) off) := by
  unfold Dev.readBy; rw [if_pos hlo]

theorem readBy_of_latched {s : Dev} {src : Src} {off : Nat} {v : Word} (hlo : pairLos.contains off = false)
    (hv : lookupK (0x100000 * chIdx src + off) s.pairLatch = some v) :
    s.readBy src off = ({ s with pairLatch := eraseK (0x100000 * chIdx src + off) s.pairLatch }, v) := by
  unfold Dev.readBy; rw [if_neg (ne_true_of_eq_false hlo)]; simp only [hv]

theorem readBy_of_unlatched {s : Dev} {src : Src} {off : Nat} (hlo : pairLos.contains off = false)
    (hv : lookupK (0x100000 * chIdx src + off) s.pairLatch = none) :
    s.readBy src off = (s.drew, s.readReg (chIdx src) off) := by
  unfold Dev.readBy; rw [if_neg (ne_true_of_eq_false hlo)]; simp only [hv]

/-! ### The link is up: resets, LDs, decoders, interrupts, CDAT and BAR2 (R149, R151, R152, R165, R166) -/

section
variable {s : Dev}

theorem flr_of_linkUp (ld : Fin 16) (hup : s.linkUp = true) : flr ld s = s.ldReset ld := if_pos hup

theorem cxlReset_of_linkUp (ld : Fin 16) (hup : s.linkUp = true) :
    cxlReset ld s = (s.ldReset ld).modHlnk (fun h => { h with decoders := h.decoders.filter (fun d => d.ld ≠ ld.val) }) := if_pos hup

/-- Without a committed decoder no LD is held in place: an allocation within the capacity is taken whole. -/
theorem setLdAllocations_taken {sizes : List Nat} (hup : s.linkUp = true) (hcxl : s.hlnk.mode.cxl = true)
    (hmld : s.hlnk.mode.mld = true) (hlen : sizes.length ≤ 16) (hsum : sizes.foldl (· + ·) 0 ≤ s.installedGiB - 1)
    (hfree : ∀ d ∈ s.hlnk.decoders, d.committed = false) :
    setLdAllocations sizes s = (s.modHlnk (fun h => { h with allocs := sizes })).postSt (.host 0) 0x5402 .ok [] := by
  have hkept : ∀ moved : Decoder → Bool, s.hlnk.decoders.any (fun d => d.committed && moved d) = false := by
    intro moved
    rw [List.any_eq_false]
    intro d hd
    simp [hfree d hd]
  have hlen' : ¬ 16 < sizes.length := by omega
  have hsum' : ¬ s.installedGiB - 1 < sizes.foldl (· + ·) 0 := by omega
  simp only [setLdAllocations, hup, hcxl, hmld, hkept, hlen', hsum']
  rfl

/-- An allocation above the host-visible capacity is refused whole. -/
theorem setLdAllocations_refused {sizes : List Nat} (hup : s.linkUp = true)
    (hsum : s.installedGiB - 1 < sizes.foldl (· + ·) 0) :
    setLdAllocations sizes s = s.refuse (.host 0) 0x5402 2 .badParam := by
  simp [setLdAllocations, hup, hsum, St.ret]

/-- The decoders that a write of an LD's decoder n leaves. -/
def otherDecoders (s : Dev) (ld : Fin 16) (n : Fin 2) : List Decoder :=
  s.hlnk.decoders.filter (fun d => !(decide (d.ld = ld.val) && decide (d.n = n.val)))

/-- The decoder that a write asks for. -/
def askedDecoder (ld : Fin 16) (n : Fin 2) (base : BitVec 52) (size : Nat) (ways : Fin 8) (gran : Fin 7) (skip : Nat) : Decoder :=
  { ld := ld.val, n := n.val, base := base.toNat, size := size, ways := hdmWays ways, gran := hdmGran gran, skip := skip, committed := true }

theorem hdmDecoderCommit_uncommits (ld : Fin 16) (n : Fin 2) (base : BitVec 52) (size : Nat) (ways : Fin 8) (gran : Fin 7) (skip : Nat)
    (hup : s.linkUp = true) : hdmDecoderCommit ld n false base size ways gran skip s =
      s.modHlnk (fun h => { h with decoders := otherDecoders s ld n }) := by
  simp only [hdmDecoderCommit, hup]; rfl

theorem hdmDecoderCommit_commits {ld : Fin 16} {n : Fin 2} {base : BitVec 52} {size : Nat} {ways : Fin 8} {gran : Fin 7} {skip : Nat}
    (hup : s.linkUp = true)
    (hok : (s.modHlnk (fun h => { h with decoders := otherDecoders s ld n })).decoderOk (askedDecoder ld n base size ways gran skip) = true) :
    hdmDecoderCommit ld n true base size ways gran skip s =
      s.modHlnk (fun h => { h with decoders := otherDecoders s ld n ++ [askedDecoder ld n base size ways gran skip] }) := by
  simp only [hdmDecoderCommit, hup]
  exact if_pos hok

theorem msixUnmask_of_linkUp (ld : Fin 16) (v : Fin 4) {d : Dev} (hup : s.linkUp = true)
    (hd : d = s.modLd ld (fun l => { l with
      msixMask := l.msixMask &&& ~~~(1#4 <<< v.val), msixPend := l.msixPend &&& ~~~(1#4 <<< v.val) })) :
    msixUnmask ld v s = if (s.ld ld).msixMask.getLsbD v.val && (s.ld ld).msixPend.getLsbD v.val then d.emit (.msix ld v.val) else d := by
  subst hd; simp only [msixUnmask, hup]; rfl

theorem doeCdatRequest_of_ld {ld : Fin 16} (hup : s.linkUp = true) (hld : s.ldSize ld ≠ 0) :
    doeCdatRequest ld s = s.emit (.doe ld (s.cdat ld)) := by
  simp [doeCdatRequest, hup, hld]

theorem bar2BadAccess_of_linkUp (off : BitVec 20) (write : Bool) {d : Dev} (hup : s.linkUp = true)
    (hd : d = (((s.latch Reg.HLNK_ERR 0).setRegN Reg.HLNK_ERR_ADDR_LO off.toNat).setRegN Reg.HLNK_ERR_ADDR_HI 0).logLink
      LT.MMIO_BAD_ACCESS off.toNat) :
    bar2BadAccess off write s = if write then d else d.emit (.mmioRead off.toNat 0) := by
  subst hd; simp only [bar2BadAccess, hup]; rfl

end

/-! ### The obligations -/

/-- Settles O1: by the two forms of the queue. -/
theorem stepRunsTheFrontCommand : Obligations.step_runs_the_front_command :=
  ⟨fun _ _ _ h => step_of_cons h, fun _ h => step_of_nil h⟩

/-- Settles O16: past the checks of the window the write is the register's own; a plain one is guarded, and the guard lets it
store or records its refusal. -/
theorem registerWritesStoreOrAreRecorded : Obligations.register_writes_store_or_are_recorded := by
  refine ⟨?acts, ?stores, ?recorded⟩
  case acts =>
    intro src off val s hup hal hreg
    rw [exec_registerWrite, regWrite_of_register src val hup hal hreg]
  case stores =>
    intro src off val s hal hreg hact hchtr hchk hacc hval
    rw [exec_registerWrite, regWrite_of_register src val (aonUp_of_accepts hacc) hal hreg,
      regWriteAt_eq_plainWrite src val s.dev hact hchtr hchk, plainWrite_of_accepts hacc hval]
  case recorded =>
    intro p off val s hup hal hreg hact hchtr hchk hno
    rw [exec_registerWrite, regWrite_of_register (.port p) val hup hal hreg,
      regWriteAt_eq_plainWrite (.port p) val s.dev hact hchtr hchk, plainWrite_of_refused val hup hno]

/-- Settles O17: a read is of a _LO register, of a latched value, or of neither. -/
theorem aPairIsReadAsOneValue : Obligations.a_pair_is_read_as_one_value := by
  refine ⟨?lo, ?latched, ?unlatched⟩
  case lo =>
    intro src off s hup hlo
    rw [exec_pairLoRead, pairLoRead_of_aonUp src off.toNat hup, readBy_of_lo s.dev src hlo]
  case latched =>
    intro src off v s hup hlo hv
    rw [exec_pairLoRead, pairLoRead_of_aonUp src off.toNat hup, readBy_of_latched hlo hv]
  case unlatched =>
    intro src off s hup hlo hv
    rw [exec_pairLoRead, pairLoRead_of_aonUp src off.toNat hup, readBy_of_unlatched hlo hv]

/-- Settles O22: each command's effect on a device whose link is up. -/
theorem theHostConfiguresTheLink : Obligations.the_host_configures_the_link := by
  intro s hup
  refine ⟨?flr, ?cxlReset, ?taken, ?refused, ?decoder, ?unmask, ?cdat, ?badAccess⟩
  case flr =>
    intro ld
    rw [exec_flr, flr_of_linkUp ld hup]
  case cxlReset =>
    intro ld
    rw [exec_cxlReset, cxlReset_of_linkUp ld hup]
  case taken =>
    intro sizes hcxl hmld hlen hsum hfree
    rw [exec_setLdAllocations, setLdAllocations_taken hup hcxl hmld hlen hsum hfree]
  case refused =>
    intro sizes hsum
    rw [exec_setLdAllocations, setLdAllocations_refused hup hsum]
  case decoder =>
    rintro ld n commit base size ways gran skip others d rfl rfl
    refine ⟨?_, ?_⟩
    · rintro rfl
      rw [exec_hdmDecoderCommit, hdmDecoderCommit_uncommits ld n base size ways gran skip hup, otherDecoders]
    · rintro rfl hok
      rw [exec_hdmDecoderCommit, hdmDecoderCommit_commits hup hok, otherDecoders, askedDecoder]
  case unmask =>
    intro ld v d hd
    rw [exec_msixUnmask, msixUnmask_of_linkUp ld v hup hd]
  case cdat =>
    intro ld hld
    rw [exec_doeCdatRequest, doeCdatRequest_of_ld hup hld, Dev.cdat]
  case badAccess =>
    intro off write d hd
    rw [exec_bar2BadAccess, bar2BadAccess_of_linkUp off write hup hd]

end Sys2Proof.Laws
end

section
/-!
PROOFS. The statements of chapter 1: the queue under every command, reset, the start-up, the pins, mode requests, the charter lock and
firmware faults, and the host link's states.
-/
namespace Sys2Proof.Laws
open Sys2Proof Sys2Proof.Machine

/-! ### Every command -/

/-- A command answers a next state that differs in the device alone: each arm of exec is a change of the device. -/
theorem exec_eq_put (c : Instr) (s : State) : ∃ d : Dev, exec c s = .next (s.put d) := by
  cases c <;> exact ⟨_, rfl⟩

/-- A step takes the front command off the queue and leaves the others as they are. -/
theorem step_drops_front (s : State) : ∃ t : State, step s = .next t ∧ t.pending = s.pending.drop 1 := by
  cases hq : s.pending with
  | nil => exact ⟨_, step_of_nil hq, hq⟩
  | cons c rest =>
    obtain ⟨d, hd⟩ := exec_eq_put c { s with pending := rest }
    exact ⟨_, (step_of_cons hq).trans hd, rfl⟩


/-! ### Reset -/

@[simp] theorem reset_reg (off : Nat) : Dev.reset.reg off = regReset off := rfl
@[simp] theorem reset_bank (q : Nat) : Dev.reset.bank q = Bank.reset := rfl

/-! ### What the commands run -/

theorem exec_auxOn (pins : PinLevels) (s : State) : exec (.auxOn pins) s = .next (s.put (auxOn pins s.dev).settle) := rfl
theorem exec_auxOff (pins : PinLevels) (s : State) : exec (.auxOff pins) s = .next (s.put (auxOff pins s.dev).settle) := rfl
theorem exec_readyAon (s : State) : exec .readyAon s = .next (s.put (readyAon s.dev).settle) := rfl
theorem exec_readyCharter (s : State) : exec .readyCharter s = .next (s.put (readyCharter s.dev).settle) := rfl
theorem exec_readyFw (s : State) : exec .readyFw s = .next (s.put (readyFw s.dev).settle) := rfl
theorem exec_charterMigrated (s : State) : exec .charterMigrated s = .next (s.put (charterMigrated s.dev).settle) := rfl
theorem exec_charterMigrateFail (timeout : Bool) (s : State) :
    exec (.charterMigrateFail timeout) s = .next (s.put (charterMigrateFail timeout s.dev).settle) := rfl
theorem exec_mainGood (s : State) : exec .mainGood s = .next (s.put (mainGood s.dev).settle) := rfl
theorem exec_inputFail (s : State) : exec .inputFail s = .next (s.put (inputFail s.dev).settle) := rfl
theorem exec_removal (s : State) : exec .removal s = .next (s.put (removal s.dev).settle) := rfl
theorem exec_perstOn (pins : PinLevels) (s : State) : exec (.perstOn pins) s = .next (s.put (perstOn pins s.dev).settle) := rfl
theorem exec_perstOff (pins : PinLevels) (s : State) : exec (.perstOff pins) s = .next (s.put (perstOff pins s.dev).settle) := rfl
theorem exec_hostAbsent (s : State) : exec .hostAbsent s = .next (s.put s.dev.evHostAbsent.settle) := rfl
theorem exec_coreLockWrite (src : Src) (s : State) : exec (.coreLockWrite src) s = .next (s.put (lockWrite src s.dev)) := rfl
theorem exec_watchdogKick (src : Src) (s : State) : exec (.watchdogKick src) s = .next (s.put (wdogWrite src 0xA5C3 s.dev)) := rfl
theorem exec_watchdogForceExpire (src : Src) (s : State) :
    exec (.watchdogForceExpire src) s = .next (s.put (wdogForce src s.dev).settle) := rfl
theorem exec_watchdogExpiry (s : State) : exec .watchdogExpiry s = .next (s.put (wdogExpiry s.dev).settle) := rfl
theorem exec_lockstepMismatch (s : State) : exec .lockstepMismatch s = .next (s.put (s.dev.fwFault 1).settle) := rfl
theorem exec_fwAccessFault (kind : Fin 3) (addr pc : Word) (aligned32 : Bool) (s : State) :
    exec (.fwAccessFault kind addr pc aligned32) s = .next (s.put (fwAccessFault kind.val addr pc aligned32 s.dev)) := rfl
theorem exec_fwFaultWindowExpiry (s : State) : exec .fwFaultWindowExpiry s = .next (s.put (fwFaultWindow s.dev)) := rfl
theorem exec_linkL0 (m : LinkMode) (s : State) : exec (.linkL0 m) s = .next (s.put (linkL0 m s.dev).settle) := rfl
theorem exec_linkDown (s : State) : exec .linkDown s = .next (s.put (linkDown s.dev).settle) := rfl
theorem exec_readyMailbox (s : State) : exec .readyMailbox s = .next (s.put (readyMailbox s.dev).settle) := rfl

section
variable {s : Dev}

theorem aonUp_of_mode {m : Mode} (h : s.core.mode = m) (hm : m ≠ .unpowered := by decide) : s.aonUp = true := by simp [Dev.aonUp, h, hm]

/-- With no transition in progress there is none to displace (R12). -/
theorem displace_of_none (h : s.core.trans = none) : s.displace = s := by simp [Dev.displace, h]

/-! ### The start-up (R16, R19 to R21, Table 1-3) -/

theorem auxOn_of_unpowered (pins : PinLevels) (hmode : s.core.mode = .unpowered) (htrans : s.core.trans = none) :
    auxOn pins s = ({ s with
      pins := pins, log := { s.log with auxTick := s.ticks }
      core := { CoreSt.reset with trans := some .auxOn, auxGood := true } } : Dev).twbSample pins.yardEn := by
  simp only [auxOn, hmode, htrans]; rfl

theorem auxOff_of_standby (pins : PinLevels) (hmode : s.core.mode = .standby) :
    auxOff pins s = ({ s with pins := pins, core := { s.core with auxGood := false } } : Dev).powerLost := by
  simp [auxOff, aonUp_of_mode hmode, Dev.modCore, hmode]

theorem auxOff_of_kept_mode (pins : PinLevels)
    (hmode : s.core.mode = .restore ∨ s.core.mode = .service ∨ s.core.mode = .save ∨ s.core.mode = .maintenance) :
    auxOff pins s = { s with pins := pins, core := { s.core with auxGood := false } } := by
  rcases hmode with hmode | hmode | hmode | hmode <;>
    simp [auxOff, aonUp_of_mode hmode, Dev.modCore, hmode]

theorem readyAon_of_booting (htrans : s.core.trans = some .auxOn) (haon : s.rdy Rdy.AON = false) :
    readyAon s = (((s.setReady Rdy.AON).modCore (fun c => { c with fwState := 1 })).modChtr
      (fun c => { c with st := 1 })).twbStart.bellReady := by
  simp [readyAon, htrans, haon]

/-- The charter load of the power-on reset, without a MAIN_GOOD held in it: STANDBY, or RECOVERY where it finds no valid charter
or no valid firmware. -/
theorem readyCharter_of_booting {d e : Dev} {ok : Bool} (htrans : s.core.trans = some .auxOn) (haon : s.rdy Rdy.AON = true)
    (hstore : s.chtr.st = 2) (hload : s.loadCharter = (d, ok)) (hheld : d.core.heldMainGood = false)
    (he : e = d.modCore (fun c => { c with trans := none, heldMainGood := false, fwState := 1 })) :
    readyCharter s = if ok then e.setMode .standby .auxOn
      else (e.logStd LT.BOOT_FAIL (d.core.mode.code + 256 * Mode.recovery.code + 65536 * Ev.auxOn.code) 0).setMode .recovery .auxOn := by
  subst he
  simp [readyCharter, htrans, haon, hstore, hload, hheld]

theorem readyFw_of_standby (hmode : s.core.mode = .standby) (htrans : s.core.trans = none) (hcores : s.core.fwState = 1)
    (hcharter : s.rdy Rdy.CHARTER = true) :
    readyFw s = ((s.modCore (fun c => { c with fwState := 2 })).setReady Rdy.FW).updFwReady := by
  simp [readyFw, hmode, htrans, hcores, hcharter]

theorem charterMigrated_of_migrating {slot : Nat} {bs : Bytes} (hmig : s.chtr.migrating = some (slot, bs)) :
    charterMigrated s = ({ s with
      nor := Memory.writeBytes norByte (Memory.clear s.nor (charterBase (decide (slot = 1))) 0x100000) (charterBase (decide (slot = 1))) bs
      chtr := { s.chtr with migrating := none } } : Dev).logStd LT.CHARTER_MIGRATED (s.core.charterVer + 256 * 4) 0 := by
  simp only [charterMigrated, hmig]; rfl

theorem charterMigrateFail_of_migrating (timeout : Bool) (hmig : s.chtr.migrating.isSome = true) :
    charterMigrateFail timeout s = (s.migCut.modCore (fun c => { c with migWriteFail := true })).logStd LT.CHARTER_MIGRATE_FAIL
      (s.core.charterVer + 256 * 4) (if timeout then St.storeTimeout else St.verifyFail).code := by
  have hsome : s.chtr.migrating.isNone = false := by simpa using hmig
  simp [charterMigrateFail, hsome]

/-! ### The input pins (R9, R14, Table 1-3) -/

/-- MAIN_GOOD in STANDBY with nothing to displace: a cold landing. -/
theorem evMainGood_of_standby (hmode : s.core.mode = .standby) (htrans : s.core.trans = none) :
    s.evMainGood = (s.modCore (fun c => { c with inputGood := true, landAttempts := 0 })).coldLanding .mainGood s.ticks := by
  simp [Dev.evMainGood, hmode, htrans, displace_of_none]

theorem mainGood_of_standby (hmode : s.core.mode = .standby) (htrans : s.core.trans = none) :
    mainGood s = Dev.coldLanding { s with
      pins := { s.pins with pwrFailN := true, prsntN := false }
      core := { s.core with inputGood := true, landAttempts := 0 } } .mainGood s.ticks := by
  simp only [mainGood, aonUp_of_mode hmode]
  exact evMainGood_of_standby hmode htrans

/-- The input is lost in SERVICE: a crossing starts, fed by the pack. -/
theorem evInputLost_of_service (e : Ev) (cause : Nat) (hmode : s.core.mode = .service) :
    s.evInputLost e cause =
      (s.modCore (fun c => { c with inputGood := false, heldMainGood := false })).cross cause e false false true := by
  simp [Dev.evInputLost, Dev.holdsData, hmode]

theorem inputFail_of_service (hmode : s.core.mode = .service) :
    inputFail s = Dev.cross { s with
      pins := { s.pins with pwrFailN := false }
      core := { s.core with inputGood := false, heldMainGood := false } } 1 .inputFail false false true := by
  simp only [inputFail, aonUp_of_mode hmode]
  exact evInputLost_of_service _ _ hmode

theorem removal_of_service (hmode : s.core.mode = .service) :
    removal s = Dev.cross { s with
      pins := { s.pins with prsntN := true }
      core := { s.core with inputGood := false, heldMainGood := false } } 2 .removal false false true := by
  simp only [removal, aonUp_of_mode hmode]
  exact evInputLost_of_service _ _ hmode

theorem perstOn_of_service (pins : PinLevels) (hmode : s.core.mode = .service) (hlink : s.hlnk.link ≠ .down) :
    perstOn pins s = ({ s with pins := { pins with perstN := false } } : Dev).linkLost .down := by
  simp [perstOn, aonUp_of_mode hmode, Dev.evPerstOn, hlink]

/-- PERST_N rises in STANDBY with good input and nothing to displace: a cold landing. -/
theorem evPerstOff_of_standby (hmode : s.core.mode = .standby) (htrans : s.core.trans = none) (hpins : s.pinsGood = true) :
    s.evPerstOff = s.coldLanding .perstOff s.ticks := by
  simp [Dev.evPerstOff, Dev.startFrom, hmode, hpins, displace_of_none htrans]

theorem perstOff_of_standby {pins : PinLevels} (hmode : s.core.mode = .standby) (htrans : s.core.trans = none)
    (hfail : pins.pwrFailN = true) (hprsnt : pins.prsntN = false) :
    perstOff pins s = Dev.coldLanding { s with pins := { pins with perstN := true } } .perstOff s.ticks := by
  simp only [perstOff, aonUp_of_mode hmode]
  exact evPerstOff_of_standby hmode htrans (by simp [Dev.pinsGood, hfail, hprsnt])

theorem evHostAbsent_of_armed (harm : s.core.hostAbsentArmed = true) (htime : s.regF Reg.CORE_POWER_TIMES 0 16 ≠ 0) :
    s.evHostAbsent = s.cross 5 .hostAbsent false false false := by
  simp [Dev.evHostAbsent, harm, htime]

/-! ### CORE_MODE_REQ (R26, R395) -/

/-- A request that its row allows posts the result of its event, then takes the event. -/
theorem modeRequest_of_allowed {src : Src} {req row : Nat} {e : Ev} (hreq : modeReq req = some (row, e))
    (hacc : s.accepts src Reg.CORE_MODE_REQ = true) (hmay : s.srcMay src row = true) :
    modeRequest src req s =
      (((s.modCore (fun k => { k with modeResult := (s.modeEvent e).2 })).writeStatus src (s.modeEvent e).2).modeEvent e).1 := by
  rw [modeRequest, guarded_of_accepts _ hacc]
  simp [hreq, hmay]

/-! ### The charter lock and the watchdog (R22, R403) -/

theorem lockWrite_of_unlocked {src : Src} (hacc : s.accepts src Reg.CORE_LOCK = true) (hfree : s.core.locked = false) :
    lockWrite src s = (({ s with core := { s.core with locked := true, lockEarly := true } } : Dev).setRegF Reg.CORE_LOCK 1 1 1).writeStatus
      src .ok := by
  rw [lockWrite, guarded_of_accepts _ hacc]
  simp [hfree, Dev.modCore]

theorem wdogWrite_key {src : Src} (hacc : s.accepts src Reg.CORE_WDOG = true) :
    wdogWrite src 0xA5C3 s = { s with core := { s.core with wdogAt := s.ticks } } := by
  rw [wdogWrite, guarded_of_accepts _ hacc]
  exact if_pos (by decide)

theorem wdogForce_of_accepts {src : Src} (hacc : s.accepts src Reg.CORE_WDOG = true) : wdogForce src s = s.fwFault 2 :=
  guarded_of_accepts _ hacc

theorem wdogExpiry_outside_save (hmode : s.core.mode ≠ .save) : wdogExpiry s = s.fwFault 2 := if_neg hmode

/-! ### Firmware faults (R26, R401 to R403) -/

@[simp] theorem evalAgain_trn : s.evalAgain.trn = s.trn := by
  unfold Dev.evalAgain; split <;> simp

@[simp] theorem putReady_trn (n : Nat) (v : Bool) : (s.putReady n v).trn = s.trn := by
  unfold Dev.putReady; dsimp only; (repeat' split) <;> simp

theorem trnDiscard_retrain : s.trnDiscard.trn.retrain = s.trn.retrain := by
  unfold Dev.trnDiscard Dev.trnDiscardOf; split <;> simp [Dev.trnDrop]

/-- The device once a firmware fault has ended what firmware was doing, before the cores restart. -/
def afterFault (s : Dev) (cause : Nat) : Dev :=
  (((s.clrReady Rdy.FW).clrReady Rdy.MAILBOX).modCore (fun k => { k with
    proxy := none, fwCause := cause, fwFaults := k.fwFaults + 1 })).trnDiscard.trnFwFault

/-- A fault of running cores, with no retraining to cut and in a mode that restarts them: RECOV_REQ from the third in the window. -/
theorem fwFault_of_running {cause : Nat} (hmode : s.core.mode ≠ .unpowered) (hcores : s.core.fwState = 1 ∨ s.core.fwState = 2)
    (hretrain : s.trn.retrain = none) (hsave : (afterFault s cause).core.mode ≠ .save)
    (hrecov : (afterFault s cause).core.mode ≠ .recovery) :
    s.fwFault cause = (if 3 ≤ (afterFault s cause).core.fwFaults
      then ((afterFault s cause).modCore (fun k => { k with fwState := 1 })).evRecovReq else (afterFault s cause).fwRestart).updFwFault := by
  have hrun : ¬ (s.core.mode = .unpowered || s.core.fwState = 0 || s.core.fwState = 3) = true := by
    rcases hcores with h | h <;> simp [hmode, h]
  have hkept : (((s.clrReady Rdy.FW).clrReady Rdy.MAILBOX).modCore (fun k => { k with
      proxy := none, fwCause := cause, fwFaults := k.fwFaults + 1 })).trnDiscard.trn.retrain = none := by
    simp [trnDiscard_retrain, Dev.clrReady, hretrain]
  unfold Dev.fwFault
  rw [if_neg hrun]
  simp only [hkept, Option.isSome_none, Bool.false_eq_true, if_false]
  split
  · next h => exact absurd h hsave
  · next h => exact absurd h hrecov
  · rfl

/-- The commands that are firmware faults, with their causes. -/
theorem exec_of_fault_command {src : Src} {c : Instr} {cause : Nat} {s : State}
    (hc : (c, cause) ∈ [(Instr.watchdogForceExpire src, 2), (.watchdogExpiry, 2), (.lockstepMismatch, 1)])
    (hacc : s.dev.accepts src Reg.CORE_WDOG = true) (hsave : s.dev.core.mode ≠ .save) :
    exec c s = .next (s.put (s.dev.fwFault cause).settle) := by
  simp only [List.mem_cons, Prod.mk.injEq, List.not_mem_nil, or_false] at hc
  rcases hc with ⟨rfl, rfl⟩ | ⟨rfl, rfl⟩ | ⟨rfl, rfl⟩
  · rw [exec_watchdogForceExpire, wdogForce_of_accepts hacc]
  · rw [exec_watchdogExpiry, wdogExpiry_outside_save hsave]
  · exact exec_lockstepMismatch s

theorem fwAccessFault_of_disallowed {kind : Nat} {addr : Word} (pc : Word) {aligned32 : Bool} (hup : s.aonUp = true)
    (hcores : s.core.fwState = 1 ∨ s.core.fwState = 2) (hno : memMapAllows kind addr.toNat aligned32 = false) :
    fwAccessFault kind addr pc aligned32 s = s.bulkhead 5 2 .bulkhead addr.toNat pc := by
  have hrun : s.coresRun = true := by simpa [Dev.coresRun] using hcores
  simp [fwAccessFault, hup, hrun, hno]

/-! ### The host link (Table 7-2, R150, R160) -/

theorem linkUp_of_training (h : s.hlnk.link = .training) : s.linkUp = false := by simp [Dev.linkUp, h]

theorem linkL0_with_cxl {m : LinkMode} (hlink : s.hlnk.link = .training) (htrained : s.hlnk.trained = false) (hcxl : m.cxl = true) :
    linkL0 m s = (((s.setRegF Reg.HLNK_LINK_CTL 6 1 0).modHlnk (fun h => { h with
      mode := s.negotiated m, trained := true, noCxl := false, link := .io })).setReady Rdy.LINK).evalAgain := by
  simp only [linkL0, linkUp_of_training hlink, hlink, htrained, hcxl]; rfl

theorem linkL0_without_cxl {m : LinkMode} (hlink : s.hlnk.link = .training) (htrained : s.hlnk.trained = false)
    (hcxl : m.cxl = false) :
    linkL0 m s = (((s.setRegF Reg.HLNK_LINK_CTL 6 1 0).modHlnk (fun h => { h with
      mode := s.negotiated m, trained := true, noCxl := true })).latch Reg.HLNK_ERR 5).logLink LT.LINK_NO_CXL 0 := by
  simp only [linkL0, linkUp_of_training hlink, hlink, htrained, hcxl]; rfl

theorem linkDown_of_trained (htrained : s.hlnk.trained = true) (hperst : s.pins.perstN = true) :
    linkDown s = (((s.linkLost .training).latch Reg.HLNK_ERR 4).logLink LT.LINK_DOWN 0).emit .aerLinkDown := by
  simp [linkDown, htrained, hperst]

theorem readyMailbox_by_firmware (hlink : s.rdy Rdy.LINK = true) (hfw : s.rdy Rdy.FW = true)
    (hmode : s.core.mode = .restore ∨ s.core.mode = .service ∨ s.core.mode = .maintenance) :
    readyMailbox s = s.setReady Rdy.MAILBOX := by
  rcases hmode with h | h | h <;> simp [readyMailbox, hlink, hfw, h]

end

/-- The commands that write CORE_MODE_REQ, with the row and the event of each REQ. -/
theorem exec_of_mode_command {src : Src} {c : Instr} {row : Nat} {e : Ev}
    (hc : (c, row, e) ∈ [(Instr.modeReqOff src, 0x22, Ev.offReq), (.modeReqOn src, 0x22, .onReq),
      (.modeReqMaintEnter src, 0x23, .maintEnter), (.modeReqMaintExit src, 0x23, .maintExit),
      (.modeReqRecov src, 0x24, .recovReq), (.modeReqResetFull src, 0x26, .resetFull)]) :
    ∃ req : Nat, modeReq req = some (row, e) ∧ ∀ s : State, exec c s = .next (s.put (modeRequest src req s.dev).settle) := by
  simp only [List.mem_cons, Prod.mk.injEq, List.not_mem_nil, or_false] at hc
  rcases hc with ⟨rfl, rfl, rfl⟩ | ⟨rfl, rfl, rfl⟩ | ⟨rfl, rfl, rfl⟩ | ⟨rfl, rfl, rfl⟩ | ⟨rfl, rfl, rfl⟩ | ⟨rfl, rfl, rfl⟩
  · exact ⟨1, rfl, fun _ => rfl⟩
  · exact ⟨2, rfl, fun _ => rfl⟩
  · exact ⟨3, rfl, fun _ => rfl⟩
  · exact ⟨4, rfl, fun _ => rfl⟩
  · exact ⟨5, rfl, fun _ => rfl⟩
  · exact ⟨6, rfl, fun _ => rfl⟩

/-! ### The obligations -/

/-- Settles O3: the queue after a step is a tail of the queue before it. -/
theorem theQueueStaysWellFormed : Obligations.the_queue_stays_well_formed := by
  intro s t hwf hstep c hc
  obtain ⟨t', hstep', hpending⟩ := step_drops_front s
  obtain rfl : t = t' := by simpa [hstep] using hstep'
  rw [hpending] at hc
  exact hwf c (List.mem_of_mem_drop hc)

/-- Settles O2: a command changes the device alone, and a step drops the front command alone. -/
theorem everyCommandCompletesAndKeepsTheQueue : Obligations.every_command_completes_and_keeps_the_queue :=
  ⟨exec_eq_put, step_drops_front⟩

/-- Settles O4: by the values that State.reset gives. -/
theorem resetHoldsTheResetValues : Obligations.reset_holds_the_reset_values := by
  refine ⟨rfl, ?queue, rfl, rfl, rfl, rfl, rfl, rfl, rfl, rfl, rfl, rfl, rfl, rfl, reset_reg, reset_bank, fun _ _ => rfl, rfl, rfl, rfl,
    fun _ => rfl⟩
  case queue =>
    intro c hc
    exact absurd hc List.not_mem_nil

/-- Settles O11: each start-up command on a device that waits for it. -/
theorem startUpReachesStandbyOrRecovery : Obligations.start_up_reaches_standby_or_recovery := by
  refine ⟨?auxOn, ?auxOffStandby, ?auxOffKept, ?aon, ?charter, ?fw, ?migrated, ?migrateFail⟩
  case auxOn =>
    intro pins s hmode htrans
    rw [exec_auxOn, auxOn_of_unpowered pins hmode htrans]
  case auxOffStandby =>
    intro pins s hmode
    rw [exec_auxOff, auxOff_of_standby pins hmode]
  case auxOffKept =>
    intro pins s hmode
    rw [exec_auxOff, auxOff_of_kept_mode pins hmode]
  case aon =>
    intro s htrans haon
    rw [exec_readyAon, readyAon_of_booting htrans haon]
  case charter =>
    intro s d e ok htrans haon hstore hload hheld he
    rw [exec_readyCharter, readyCharter_of_booting htrans haon hstore hload hheld he]
  case fw =>
    intro s hmode htrans hcores hcharter
    rw [exec_readyFw, readyFw_of_standby hmode htrans hcores hcharter]
  case migrated =>
    intro s slot bs hmig
    rw [exec_charterMigrated, charterMigrated_of_migrating hmig]
  case migrateFail =>
    intro s timeout hmig
    rw [exec_charterMigrateFail, charterMigrateFail_of_migrating timeout hmig]

/-- Settles O12: each pin's event in the mode that it moves. -/
theorem pinsMoveTheModeMachine : Obligations.pins_move_the_mode_machine := by
  refine ⟨?mainGood, ?inputFail, ?removal, ?perstOn, ?perstOff, ?hostAbsent⟩
  case mainGood =>
    intro s hmode htrans
    rw [exec_mainGood, mainGood_of_standby hmode htrans]
  case inputFail =>
    intro s hmode
    rw [exec_inputFail, inputFail_of_service hmode]
  case removal =>
    intro s hmode
    rw [exec_removal, removal_of_service hmode]
  case perstOn =>
    intro pins s hmode hlink
    rw [exec_perstOn, perstOn_of_service pins hmode hlink]
  case perstOff =>
    intro pins s hmode htrans hfail hprsnt
    rw [exec_perstOff, perstOff_of_standby hmode htrans hfail hprsnt]
  case hostAbsent =>
    intro s harm htime
    rw [exec_hostAbsent, evHostAbsent_of_armed harm htime]

/-- Settles O13: each of the six commands is a write of a REQ value, which the guard and its row let through. -/
theorem modeRequestsTakeTheirEvent : Obligations.mode_requests_take_their_event := by
  intro src s hacc c row e hc hmay
  obtain ⟨req, hreq, hexec⟩ := exec_of_mode_command hc
  rw [hexec, modeRequest_of_allowed hreq hacc hmay]

/-- Settles O14: the two register writes by the guard, and the three faults by what a fault of running cores does. -/
theorem lockWatchdogAndCoreFaults : Obligations.lock_watchdog_and_core_faults := by
  refine ⟨?lock, ?kick, ?fault, ?access, exec_fwFaultWindowExpiry⟩
  case lock =>
    intro src s hacc hfree
    rw [exec_coreLockWrite, lockWrite_of_unlocked hacc hfree]
  case kick =>
    intro src s hacc
    rw [exec_watchdogKick, wdogWrite_key hacc]
  case fault =>
    intro src c cause s d hc hacc hmode hcores hretrain hd hkept
    obtain rfl : d = afterFault s.dev cause := hd
    simp only [List.mem_cons, List.not_mem_nil, or_false, not_or] at hmode
    obtain ⟨hunpowered, hsave, hrecov⟩ := hmode
    rw [exec_of_fault_command hc hacc hsave,
      fwFault_of_running hunpowered hcores hretrain (by rwa [hkept]) (by rwa [hkept])]
    refine ⟨fun hfew => ?_, fun hthird => ?_⟩
    · rw [if_neg (by omega)]
    · rw [if_pos hthird]
  case access =>
    intro kind addr pc aligned32 s hup hcores hno
    rw [exec_fwAccessFault, fwAccessFault_of_disallowed pc hup hcores hno]

/-- Settles O21: each change of the link in the state that it starts from. -/
theorem theLinkComesUpAndDown : Obligations.the_link_comes_up_and_down := by
  refine ⟨?cxl, ?noCxl, ?down, ?mailbox⟩
  case cxl =>
    intro m s hlink htrained hcxl
    rw [exec_linkL0, linkL0_with_cxl hlink htrained hcxl]
  case noCxl =>
    intro m s hlink htrained hcxl
    rw [exec_linkL0, linkL0_without_cxl hlink htrained hcxl]
  case down =>
    intro s htrained hperst
    rw [exec_linkDown, linkDown_of_trained htrained hperst, Dev.linkLost]
  case mailbox =>
    intro s hlink hfw hmode
    rw [exec_readyMailbox, readyMailbox_by_firmware hlink hfw hmode]

end Sys2Proof.Laws
end

section
/-!
PROOFS. The statements of chapter 2: lines of DRAM, the dirty count, host writes, reads, hints and flushes, the budget and the wear
balance, and the ferry engine's captures.
-/
namespace Sys2Proof.Laws
open Sys2Proof Sys2Proof.Machine

/-! ### Strictly rising lists of numbers -/

theorem mem_insertN (k x : Nat) (l : List Nat) : x ∈ insertN k l ↔ x = k ∨ x ∈ l := by
  induction l with
  | nil => simp [insertN]
  | cons a t ih =>
    simp only [insertN]
    split
    · simp
    · split
      · next hk => simp [hk]
      · simp only [List.mem_cons, ih]
        exact or_left_comm

theorem pairwise_insertN (k : Nat) (l : List Nat) (h : l.Pairwise (· < ·)) : (insertN k l).Pairwise (· < ·) := by
  induction l with
  | nil => simp [insertN]
  | cons a t ih =>
    obtain ⟨ha, ht⟩ := List.pairwise_cons.mp h
    simp only [insertN]
    split
    · next hlt =>
      refine List.pairwise_cons.mpr ⟨fun x hx => ?_, h⟩
      rcases List.mem_cons.mp hx with rfl | hx
      · exact hlt
      · exact hlt.trans (ha x hx)
    · split
      · exact h
      · refine List.pairwise_cons.mpr ⟨fun x hx => ?_, ih ht⟩
        rcases (mem_insertN k x t).mp hx with rfl | hx
        · omega
        · exact ha x hx

/-! ### Lines of DRAM (R29 to R31, R156) -/

/-- The 64 bytes of a line spell the line. -/
theorem line_of_leBytes (d : Line) : BitVec.ofNat 512 (leVal (leBytes 64 d.toNat)) = d := by
  have hlt : d.toNat < 256 ^ 64 := by
    rw [show 256 = 2 ^ 8 from rfl, ← Nat.pow_mul, show 8 * 64 = 512 from rfl]
    exact d.isLt
  rw [leVal_leBytes, Nat.mod_eq_of_lt hlt, BitVec.ofNat_toNat, BitVec.setWidth_eq]

section
variable {s : Dev}

@[simp] theorem readLine_markLine (a b : Nat) (on : Bool) : (s.markLine a on).readLine b = s.readLine b := by
  simp [Dev.readLine]

@[simp] theorem linePoisoned_writeLine (a b : Nat) (d : Line) : (s.writeLine a d).linePoisoned b = s.linePoisoned b := by
  simp [Dev.linePoisoned]

theorem writeLine_dram {a : Nat} (d : Line) (hok : s.lineFailed a = false) :
    (s.writeLine a d).dram = Memory.writeBytes dramByte s.dram (a / 64 * 64) (leBytes 64 d.toNat) := by
  simp [Dev.writeLine, hok]

theorem markLine_poisonLines {a : Nat} (on : Bool) (hok : s.lineFailed a = false) :
    (s.markLine a on).poisonLines = if on then insertN (a / 64) s.poisonLines else s.poisonLines.erase (a / 64) := by
  simp [Dev.markLine, hok]

/-- A line that is written reads back, and every other line stays. -/
theorem readLine_writeLine {a : Nat} (b : Nat) (d : Line) (hwf : Memory.wf dramByte s.dram = true) (hok : s.lineFailed a = false) :
    (s.writeLine a d).readLine b = if b / 64 = a / 64 then d else s.readLine b := by
  unfold Dev.readLine
  rw [writeLine_dram d hok]
  split
  · next hline =>
    have hread := memory_readBytes_writeBytes dramByte (leBytes 64 d.toNat) s.dram (a / 64 * 64) hwf
    rw [leBytes_length] at hread
    rw [hline, hread, line_of_leBytes]
  · next hline =>
    rw [memory_readBytes_other dramByte _ _ _ _ _ hwf (by rw [leBytes_length]; omega)]

/-- A byte outside the line that is written stays. -/
theorem read_writeLine_other {a x : Nat} (d : Line) (hwf : Memory.wf dramByte s.dram = true) (hok : s.lineFailed a = false)
    (hx : x / 64 ≠ a / 64) : Memory.read dramByte (s.writeLine a d).dram x = Memory.read dramByte s.dram x := by
  rw [writeLine_dram d hok, memory_read_writeBytes dramByte _ _ _ _ hwf, leBytes_length, if_neg (by omega)]

theorem linePoisoned_markLine {a : Nat} (b : Nat) (on : Bool) (hrise : s.poisonLines.Pairwise (· < ·)) (hok : s.lineFailed a = false) :
    (s.markLine a on).linePoisoned b = if b / 64 = a / 64 then on else s.linePoisoned b := by
  have hnodup : s.poisonLines.Nodup := hrise.imp Nat.ne_of_lt
  rw [Dev.linePoisoned, markLine_poisonLines on hok, Dev.linePoisoned, Bool.eq_iff_iff]
  cases on with
  | true => by_cases hline : b / 64 = a / 64 <;> simp [mem_insertN, hline]
  | false => by_cases hline : b / 64 = a / 64 <;> simp [hnodup.mem_erase_iff, hline]

theorem markLine_pairwise {a : Nat} (on : Bool) (hrise : s.poisonLines.Pairwise (· < ·)) (hok : s.lineFailed a = false) :
    (s.markLine a on).poisonLines.Pairwise (· < ·) := by
  rw [markLine_poisonLines on hok]
  split
  · exact pairwise_insertN _ _ hrise
  · exact hrise.sublist List.erase_sublist

/-- A subchannel that works takes the line and its poison mark. -/
theorem putLine_of_working {a : Nat} (d : Line) (poison : Bool) (hok : s.lineFailed a = false) :
    s.putLine a d poison = (s.writeLine a (if poison then 0 else d)).markLine a poison :=
  if_neg (ne_true_of_eq_false hok)

theorem putLine_of_failed {a : Nat} (d : Line) (poison : Bool) (hfailed : s.lineFailed a = true) : s.putLine a d poison = s :=
  if_pos hfailed

end

/-! ### The dirty count (R37) -/

theorem counted_eq (st : GState) : st.counted = (decide (st = .dirty) || decide (st = .ferrying) || decide (st = .redirty)) := by
  cases st <;> rfl

/-- A key below all others of the list is read from the front. -/
theorem getD_cons {α : Type} (d v : α) (k j : Nat) (t : List (Nat × α)) (h : Above k t) :
    getD d j ((k, v) :: t) = if j = k then v else getD d j t := by
  unfold getD
  simp only [lookupK]
  split
  · rfl
  · split
    · next hlt => rw [lookupK_above (fun p hp => hlt.trans (h p hp))]
    · rfl

/-- A predicate whose value is changed at one number, where it failed, counts that number anew. -/
theorem countP_range_ite (f : Nat → Bool) (b : Bool) (k n : Nat) (hf : f k = false) :
    (List.range n).countP (fun g => if g = k then b else f g) = (List.range n).countP f + if k < n ∧ b = true then 1 else 0 := by
  induction n with
  | zero => simp
  | succ n ih =>
    simp only [List.range_succ, List.countP_append, List.countP_singleton, ih]
    rcases Nat.lt_trichotomy k n with hlt | rfl | hgt
    · simp only [hlt, if_neg (Nat.ne_of_gt hlt), Nat.lt_succ_of_lt hlt]
      omega
    · simp [hf]
    · simp only [if_neg (Nat.ne_of_lt hgt), show ¬ k < n by omega, show ¬ k < n + 1 by omega]
      omega

/-- Over the numbers below a bound on the keys, as many values satisfy a predicate as are listed, where an unlisted one does not. -/
theorem countP_getD_range {α : Type} (d : α) (c : α → Bool) (n : Nat) (l : List (Nat × α)) (hd : c d = false) (hs : sortedK l = true)
    (hn : ∀ p ∈ l, p.1 < n) : (List.range n).countP (fun g => c (getD d g l)) = l.countP (fun p => c p.2) := by
  induction l with
  | nil => simp [getD, lookupK, hd]
  | cons p t ih =>
    obtain ⟨k, v⟩ := p
    obtain ⟨habove, ht⟩ := (sortedK_cons k v t).mp hs
    have hk : k < n := hn (k, v) List.mem_cons_self
    have hfront : c (getD d k t) = false := by
      have hnone : lookupK k t = none := lookupK_above habove
      simp [getD, hnone, hd]
    simp only [getD_cons d v k _ t habove, apply_ite c]
    rw [countP_range_ite (fun g => c (getD d g t)) (c v) k n hfront, ih ht (fun p hp => hn p (List.mem_cons_of_mem _ hp)),
      List.countP_cons]
    simp [hk]

/-- A key that is set reads back. -/
theorem getD_putD_same {α : Type} [DecidableEq α] (d v : α) (k : Nat) (l : List (Nat × α)) (h : sortedK l = true) :
    getD d k (putD d k v l) = v := by
  unfold putD getD
  split
  · next hv => rw [lookupK_eraseK _ _ _ h]; simp [hv]
  · rw [lookupK_insertK _ _ _ _ h]; simp

theorem sortedK_putD {α : Type} [DecidableEq α] (d v : α) (k : Nat) (l : List (Nat × α)) (h : sortedK l = true) :
    sortedK (putD d k v l) = true := by
  unfold putD
  split
  · exact sortedK_eraseK _ _ h
  · exact sortedK_insertK _ _ _ h

theorem mem_putD {α : Type} [DecidableEq α] (d v : α) (k : Nat) (l : List (Nat × α)) (p : Nat × α) (hp : p ∈ putD d k v l) :
    p = (k, v) ∨ p ∈ l := by
  unfold putD at hp
  split at hp
  · exact .inr (mem_eraseK _ _ _ hp)
  · exact mem_insertK _ _ _ _ hp

/-! ### What the commands run -/

theorem exec_memSpecRd (addr : HostAddr) (taken : Bool) (tag : BitVec 16) (s : State) :
    exec (.memSpecRd addr taken tag) s = .next (s.put (hostSpecRead addr taken s.dev).settle) := rfl
theorem exec_gpfPhase1 (s : State) : exec .gpfPhase1 s = .next (s.put (gpfPhase1 s.dev)) := rfl
theorem exec_gpfPhase2 (s : State) : exec .gpfPhase2 s = .next (s.put (gpfPhase2 s.dev).settle) := rfl
theorem exec_gpfPartial (s : State) : exec .gpfPartial s = .next (s.put (gpfPartial s.dev).settle) := rfl
theorem exec_budgetRecompute (s : State) : exec .budgetRecompute s = .next (s.put s.dev.recompute.settle) := rfl
theorem exec_wearCredit (s : State) : exec .wearCredit s = .next (s.put (wearCredit s.dev).settle) := rfl
theorem exec_thruFerryCapture (g : BitVec 26) (damaged : Bool) (s : State) :
    exec (.thruFerryCapture g damaged) s = .next (s.put (thruFerryCapture g damaged s.dev).settle) := rfl
theorem exec_ferryCapture (damaged : Bool) (s : State) :
    exec (.ferryCapture damaged) s = .next (s.put (ferryCapture damaged s.dev).settle) := rfl
theorem exec_ferryReissue (damaged : Bool) (s : State) :
    exec (.ferryReissue damaged) s = .next (s.put (ferryReissue damaged s.dev).settle) := rfl
theorem exec_ferryParkExpiry (g : BitVec 26) (s : State) :
    exec (.ferryParkExpiry g) s = .next (s.put (ferryParkExpiry g s.dev).settle) := rfl
theorem exec_ferryDrainOnce (src : Src) (s : State) :
    exec (.ferryDrainOnce src) s = .next (s.put (ferryDrainOnce src s.dev).settle) := rfl
theorem exec_foldCapture (damaged : Bool) (s : State) :
    exec (.foldCapture damaged) s = .next (s.put (foldCapture damaged s.dev).settle) := rfl
theorem exec_relocationCapture (damaged : Bool) (s : State) :
    exec (.relocationCapture damaged) s = .next (s.put (relocationCapture damaged s.dev).settle) := rfl
theorem exec_groupCloseTimeout (damaged : List (BitVec 26)) (s : State) :
    exec (.groupCloseTimeout damaged) s = .next (s.put (groupCloseTimeout damaged s.dev).settle) := rfl

/-- Both commands that write a line for the host are an RwD with its operation. -/
theorem exec_of_write_command {addr : HostAddr} {data : Line} {poison damaged : Bool} {tag : BitVec 16} {be : BitVec 64} {c : Instr}
    {op : MemOp} (hc : (c, op) ∈ [(Instr.memWr addr data poison damaged tag, MemOp.write),
      (.memWrPtl addr data be poison damaged tag, .writePtl be)]) :
    (op = .write ∨ op = .writePtl be) ∧
      ∀ s : State, exec c s = .next (s.put (hostWrite op addr data poison damaged tag noErrs s.dev).settle) := by
  simp only [List.mem_cons, Prod.mk.injEq, List.not_mem_nil, or_false] at hc
  rcases hc with ⟨rfl, rfl⟩ | ⟨rfl, rfl⟩
  · exact ⟨.inl rfl, fun _ => rfl⟩
  · exact ⟨.inr rfl, fun _ => rfl⟩

/-- Both commands that read a line for the host are the same request. -/
theorem exec_of_read_command {addr : HostAddr} {damaged : Bool} {tag : BitVec 16} {c : Instr}
    (hc : c ∈ [Instr.memRd addr damaged tag, .memRdData addr damaged tag]) (s : State) :
    exec c s = .next (s.put (hostRead addr damaged tag noErrs s.dev).settle) := by
  simp only [List.mem_cons, List.not_mem_nil, or_false] at hc
  rcases hc with rfl | rfl <;> rfl

/-- Both invalidations are the same request. -/
theorem exec_of_invalidate_command {addr : HostAddr} {tag : BitVec 16} {c : Instr}
    (hc : c ∈ [Instr.memInv addr tag, .memInvNt addr tag]) (s : State) :
    exec c s = .next (s.put (hostInvalidate addr tag s.dev)) := by
  simp only [List.mem_cons, List.not_mem_nil, or_false] at hc
  rcases hc with rfl | rfl <;> rfl

/-! ### A request that nothing makes wait (R70, R136, R155) -/

section
variable {s : Dev} {r : MemReq}

/-- A request with no earlier one of its granule waiting, that is done at once. -/
theorem memArrive_of_done {errs : List (List (BitVec 40))} {damaged : Bool} {r' : MemReq} {d x : Dev}
    (hr : r' = { r with seq := s.hlnk.seq }) (hd : d = s.modHlnk (fun h => { h with seq := h.seq + 1 }))
    (hfree : d.hlnk.wait.any (fun w => decide (granuleOf w.dpa = granuleOf r'.dpa)) = false)
    (hdone : d.memTry r' errs true damaged = (x, true)) : s.memArrive r errs damaged = x := by
  subst hr hd
  unfold Dev.memArrive
  dsimp only
  rw [if_neg (ne_true_of_eq_false hfree), hdone]

theorem mapBypass_of_isWrite (hw : r.isWrite = true) : s.mapBypass r = false := by simp [Dev.mapBypass, hw]

/-- A write whose entry the map cache gives, and which need not wait, is performed. -/
theorem memTry_of_write {errs : List (List (BitVec 40))} {damaged : Bool} {e f : Dev} (hw : r.isWrite = true)
    (haccess : s.cacheAccess (granuleOf r.dpa) = some e) (hf : f = e.fixEntry damaged (granuleOf r.dpa)) (hgo : f.mustWait r = false) :
    s.memTry r errs true damaged = f.memWrite r errs := by
  subst hf
  simp [Dev.memTry, mapBypass_of_isWrite, hw, haccess, hgo]

/-- A read that does not consult the map, or whose entry the map cache gives, and which need not wait, is performed. -/
theorem memTry_of_read {errs : List (List (BitVec 40))} {damaged : Bool} {e f : Dev} (hr : r.isWrite = false)
    (hentry : s.mapBypass r = true ∧ f = s ∨
      s.mapBypass r = false ∧ s.cacheAccess (granuleOf r.dpa) = some e ∧ e.mapBypass r = false ∧ f = e.fixEntry damaged (granuleOf r.dpa))
    (hgo : f.mustWait r = false) : s.memTry r errs true damaged = f.memRead r errs := by
  rcases hentry with ⟨hbypass, rfl⟩ | ⟨hmap, haccess, hmap', rfl⟩
  · simp [Dev.memTry, hr, hbypass, hgo]
  · simp [Dev.memTry, hr, hmap, haccess, hmap', hgo]

/-- A whole line, or poison, is written as it comes. -/
theorem memWrite_of_whole {errs : List (List (BitVec 40))} (hwhole : (r.full || r.poison) = true) :
    s.memWrite r errs =
      (((s.putLine r.dpa.toNat r.data r.poison).enqueue r.dpa.toNat true r.ld.val).writeDone r, true) := by
  simp only [Dev.memWrite, hwhole]
  cases r.op <;> rfl

/-- A partial write merges its bytes over the line as read. -/
theorem memWrite_of_partial {errs : List (List (BitVec 40))} {be : BitVec 64} {h : Dev} {old : Line} (hop : r.op = .writePtl be)
    (hbe : be ≠ BitVec.allOnes 64) (hclean : r.poison = false)
    (hread : (s.enqueue r.dpa.toNat false r.ld.val).readBursts r.dpa.toNat false errs = (h, .data old)) :
    s.memWrite r errs =
      (((h.putLine r.dpa.toNat (mergeLine old r.data be) false).enqueue r.dpa.toNat true r.ld.val).writeDone r, true) := by
  have hpart : (r.full || r.poison) = false := by
    simp only [MemReq.full, hop, hclean, decide_eq_false hbe, Bool.or_false]
  simp only [Dev.memWrite, hpart]
  rw [hop]
  simp only [hread]

theorem memRead_of_data {errs : List (List (BitVec 40))} {h : Dev} {line : Line}
    (hread : (s.enqueue r.dpa.toNat false r.ld.val).readBursts r.dpa.toNat true errs = (h, .data line)) :
    s.memRead r errs = (h.answerRead r line false, true) := by
  simp only [Dev.memRead, hread]

theorem memRead_of_poison {errs : List (List (BitVec 40))} {h : Dev}
    (hread : (s.enqueue r.dpa.toNat false r.ld.val).readBursts r.dpa.toNat true errs = (h, .poison)) :
    s.memRead r errs = (h.answerRead r 0 true, true) := by
  simp only [Dev.memRead, hread]

end

/-! ### Requests on the link (R153, R154, R156, R158) -/

section
variable {s : Dev} {addr : HostAddr}

/-- A write on a credit arrives at its line. -/
theorem hostWrite_of_address {op : MemOp} {data : Line} {poison damaged : Bool} {tag : BitVec 16} {errs : List (List (BitVec 40))}
    {a : Nat} (hcredit : s.rwdCredit = true) (haddr : (s.rwdIn poison).deviceAddr addr = some a) :
    hostWrite op addr data poison damaged tag errs s = (s.rwdIn poison).memArrive
      { op := op, ld := hostLd addr, tag := tag, dpa := BitVec.ofNat 40 (a / 64 * 64), data := data, poison := poison, seq := 0 }
      errs damaged := by
  simp [hostWrite, hcredit, haddr]

/-- A write outside its LD is recorded and acknowledged. -/
theorem hostWrite_outside {op : MemOp} {data : Line} {poison damaged : Bool} {tag : BitVec 16} {errs : List (List (BitVec 40))}
    (hcredit : s.rwdCredit = true) (haddr : (s.rwdIn poison).deviceAddr addr = none) :
    hostWrite op addr data poison damaged tag errs s = ((s.rwdIn poison).dpaRange addr).ackWrite
      { op := op, ld := hostLd addr, tag := tag, dpa := 0, data := data, poison := poison, seq := 0 } := by
  simp [hostWrite, hcredit, haddr]

theorem reqCredit_of_mem (hlink : s.hlnk.link = .mem) (hgranted : 0 < s.hlnk.reqGranted) : s.reqCredit = true := by
  simp [Dev.reqCredit, hlink, hgranted]

theorem reqCredit_of_io (hlink : s.hlnk.link = .io) : s.reqCredit = true := by simp [Dev.reqCredit, hlink]

/-- A read in MEM takes its credit and arrives at its line. -/
theorem hostRead_of_mem {damaged : Bool} {tag : BitVec 16} {errs : List (List (BitVec 40))} {a : Nat} (hlink : s.hlnk.link = .mem)
    (hgranted : 0 < s.hlnk.reqGranted) (haddr : s.deviceAddr addr = some a) :
    hostRead addr damaged tag errs s =
      (s.modHlnk (fun h => { h with reqGranted := h.reqGranted - 1, reqOut := h.reqOut + 1 })).memArrive
        { op := .read, ld := hostLd addr, tag := tag, dpa := BitVec.ofNat 40 (a / 64 * 64), data := 0, poison := false, seq := 0 }
        errs damaged := by
  simp [hostRead, reqCredit_of_mem hlink hgranted, haddr, hlink]

theorem hostRead_outside {damaged : Bool} {tag : BitVec 16} {errs : List (List (BitVec 40))} (hcredit : s.reqCredit = true)
    (haddr : s.deviceAddr addr = none) :
    hostRead addr damaged tag errs s = (s.dpaRange addr).sendDrs (hostLd addr) tag 0 true := by
  simp [hostRead, hcredit, haddr]

theorem hostRead_of_io {damaged : Bool} {tag : BitVec 16} {errs : List (List (BitVec 40))} {a : Nat} (hlink : s.hlnk.link = .io)
    (haddr : s.deviceAddr addr = some a) :
    hostRead addr damaged tag errs s =
      (s.hostErr (hostLd addr) ((s.hostDpa addr).getD 0) 3).sendDrs (hostLd addr) tag 0 true := by
  simp [hostRead, reqCredit_of_io hlink, haddr, hlink]

theorem hostSpecRead_taken {a : Nat} (hlink : s.hlnk.link = .mem) (hgranted : 0 < s.hlnk.reqGranted)
    (haddr : s.deviceAddr addr = some a) : hostSpecRead addr true s = s.enqueue a false (hostLd addr).val := by
  simp [hostSpecRead, haddr, hlink, reqCredit_of_mem hlink hgranted]

/-- A hint that is not taken changes nothing, wherever it points. -/
theorem hostSpecRead_dropped (addr : HostAddr) (s : Dev) : hostSpecRead addr false s = s := by
  unfold hostSpecRead
  split <;> rfl

theorem hostInvalidate_of_address {tag : BitVec 16} {a : Nat} (hcredit : s.reqCredit = true) (haddr : s.deviceAddr addr = some a) :
    hostInvalidate addr tag s = s.emit (.ndr (hostLd addr) tag s.devload) := by
  simp [hostInvalidate, hcredit, haddr]

/-! ### The Global Persistent Flush (R32) -/

theorem gpfPhase1_of_linkUp (hup : s.linkUp = true) : gpfPhase1 s = s.emit .gpfPhase1Done := if_pos hup

theorem gpfPhase2_of_linkUp (hup : s.linkUp = true) :
    gpfPhase2 s = ((s.wrapReg Reg.HLNK_GPF 16 16 1).modHlnk (fun h => { h with gpf := h.gpf ++ [(s.ticks, h.seq)] })).gpfCheck := by
  simp [gpfPhase2, hup]

theorem gpfPartial_of_halted {t n : Nat} {rest : List (Nat × Nat)} {d : Dev} (hgpf : s.hlnk.gpf = (t, n) :: rest)
    (hhalted : s.fery.eng = .halted) (hd : d = (s.gpfDone t true).latch Reg.HLNK_ERR 8) :
    gpfPartial s = d.logStd LT.GPF_PARTIAL (s.gpfHeld n) (d.regN Reg.HLNK_GPF) := by
  subst hd
  simp [gpfPartial, hgpf, hhalted]

end

/-! ### The budget and the wear balance (R38, R39, R51, R89) -/

section
variable {s : Dev}

/-- The state with the limits of a recompute. -/
def withLimits (s : Dev) : Dev :=
  s.modFery (fun f => { f with
    limEnergy := s.limEnergyOf s.batt.elb (!s.battValid), limHard := s.limHardOf s.batt.elb, limRegion := s.limRegionOf
    limCfg := s.limCfgOf, eInput := s.batt.elb, eInvalid := !s.battValid })

/-- A recompute in a mode that sets B anew, with B neither forced to 0 nor 0 by a limit: B is the least of the limits. -/
theorem recompute_of_budget {le lr lc : Nat} (hmode : s.core.mode = .restore ∨ s.core.mode = .service ∨ s.core.mode = .maintenance)
    (hup : s.mainUp = true) (hle : le = s.limEnergyOf s.batt.elb (!s.battValid)) (hlr : lr = s.limRegionOf) (hlc : lc = s.limCfgOf)
    (hfree : (withLimits s).bForced = false) (hpos : 0 < min le (min lr lc)) :
    s.recompute = ((withLimits s).modFery (fun f => { f with
      b := min le (min lr lc), bArm := min le (min lr lc)
      bind := if le = min le (min lr lc) then 0 else if lr = min le (min lr lc) then 1 else 2 })).restage := by
  subst hle hlr hlc
  have hruns : (!s.mainUp || s.core.mode ≠ .restore && s.core.mode ≠ .service && s.core.mode ≠ .maintenance &&
      s.core.mode ≠ .save) = false := by
    rcases hmode with h | h | h <;> simp [hup, h]
  have hsave : s.core.mode ≠ .save := by rcases hmode with h | h | h <;> simp [h]
  unfold Dev.recompute
  rw [if_neg (ne_true_of_eq_false hruns)]
  simp only [withLimits] at hfree ⊢
  simp only [modFery_fields, if_neg hsave, hfree, Bool.false_eq_true, if_false, Nat.ne_of_gt hpos, decide_false, Bool.false_and]

/-- A change of the engine's state counts by what it makes of the present one. -/
theorem modFery_congr {f g : FerySt → FerySt} (h : f s.fery = g s.fery) : s.modFery f = s.modFery g := by
  unfold Dev.modFery
  rw [h]

/-- The state after a millisecond's credit, with W's floor noted. -/
def credited (s : Dev) : Dev :=
  (s.modFery (fun f => { f with
    wear := min (s.dailyBytes : Int) (f.wear + (((s.dailyBytes + s.fery.wearRem) / 86400000 : Nat) : Int))
    wearRem := (s.dailyBytes + s.fery.wearRem) % 86400000, creditMs := (f.creditMs + 1) % 1000 })).wearMark

/-- A credit within a second, where FERY_RATE is not due. -/
theorem wearCredit_within_second (hon : s.fery.eng ≠ .off) (hms : (credited s).fery.creditMs ≠ 0) : wearCredit s = credited s := by
  unfold wearCredit
  rw [if_neg hon]
  exact if_neg hms

end

/-! ### The engine's captures (R47, R82, R86, R92, R94, R103, R254, R268) -/

section
variable {s : Dev}

/-- The PINNED granule that comes first is captured, and the next ones in turn. -/
theorem thruGo_of_pinned {n : Nat} {p : Pinned} {e : Dev} (hpick : s.pickPinned = some p) (hreissue : s.pickReissue = none)
    (hroom : s.hasRoom .thru 1 = true) (haccess : s.cacheAccess p.g = some e) :
    s.thruGo (n + 1) = Dev.thruGo n (e.capturePinned p.g) := by
  simp [Dev.thruGo, hpick, hreissue, hroom, haccess]

/-- The end of a PINNED granule's window makes its capture due. -/
theorem thruFerryCapture_of_pinned {g : BitVec 26} {damaged : Bool}
    (hpinned : s.fery.pinned.any (fun p => decide (p.g = g.toNat) && p.captured.isNone) = true) :
    thruFerryCapture g damaged s = ((s.fixEntry damaged g.toNat).modFery (fun f => { f with
      pinned := f.pinned.map (fun p => if p.g = g.toNat && p.captured.isNone then { p with due := true } else p) })).thruGo 1024 := by
  simp only [thruFerryCapture, hpinned]
  rfl

theorem ferryCapture_map {damaged : Bool} {m : Nat} (hthru : s.thruReady = false) (hmap : s.mapReady = true) (hnext : s.mapNext = some m)
    (hroom : s.hasRoom .mapGranule 1 = true) : ferryCapture damaged s = (s.mapCopy .mapGranule m).placeAll := by
  simp [ferryCapture, hthru, hmap, hnext, hroom]

theorem ferryCapture_checkpoint {damaged : Bool} (hthru : s.thruReady = false) (hmap : s.mapReady = false) (hckpt : s.ckptGo = true)
    (hroom : s.hasRoom .checkpoint s.ckptUnits = true) : ferryCapture damaged s = s.captureCkpt := by
  simp [ferryCapture, hthru, hmap, hckpt, hroom]

theorem ferryCapture_candidate {damaged : Bool} {g : Nat} {d e : Dev} (hthru : s.thruReady = false) (hmap : s.mapReady = false)
    (hckpt : s.ckptGo = false) (hrun : s.capturing = true) (hgate : s.bgGate = true) (hroom : s.hasRoom .background 1 = true)
    (htake : s.takeCand 8193 = (d, some g)) (haccess : (d.fixEntry damaged g).cacheAccess g = some e) (hok : e.candOk g = true) :
    ferryCapture damaged s = (e.captureDirty g).untimedPass := by
  simp [ferryCapture, hthru, hmap, hckpt, hrun, hgate, hroom, htake, haccess, hok]

/-- A failed copy whose granule is captured again: the new copy has the rank of a reissue. -/
theorem ferryReissue_of_recapture {damaged : Bool} {c : Copy} {e x : Dev} (hpick : s.pickReissue = some c) (hroom : s.hasRoom c.cls 1 = true)
    (haccess : (s.fixEntry damaged c.idx).cacheAccess c.idx = some e)
    (hx : (e.modFery (fun f => { f with reissue := f.reissue.erase c })).recapture c = x) (hnew : x.fery.nextCopy ≠ e.fery.nextCopy) :
    ferryReissue damaged s = x.modCopy (e.fery.nextCopy + 1) (fun x => { x with reissued := true }) := by
  subst hx
  simp [ferryReissue, hpick, hroom, haccess, hnew]

theorem recapture_background {c : Copy} (hcls : c.cls = .background) (hdirty : (s.entry c.idx).st = .dirty)
    (hparked : s.fery.parked.contains c.idx = false) : s.recapture c = s.captureDirty c.idx := by
  simp only [Dev.recapture, hcls, hdirty, hparked]
  rfl

theorem recapture_thru {c : Copy} (hcls : c.cls = .thru) (hst : (s.entry c.idx).st = .pinned)
    (hpinned : s.fery.pinned.any (fun p => decide (p.g = c.idx) && p.captured.isNone) = true) :
    s.recapture c = s.capturePinned c.idx := by
  simp only [Dev.recapture, hcls, hst, hpinned]
  rfl

theorem ferryDrainOnce_of_accepts {src : Src} (hacc : s.accepts src Reg.FERY_CTL = true) :
    ferryDrainOnce src s = (s.modFery (fun f => { f with
      drainOnce := (s.gmap.entries.filter (fun p => p.2.st = .dirty)).map (fun p => p.1) })).writeStatus src .ok :=
  guarded_of_accepts _ hacc

theorem foldCapture_of_clean {damaged : Bool} {g : Nat} {d e : Dev} (hruns : s.foldsRun = true) (habove : s.aboveFold = false)
    (hroom : s.hasRoom .fold 1 = true) (hnext : s.foldNext = (d, some g)) (hfetch : s.refetching g = false)
    (haccess : (d.fixEntry damaged g).cacheAccess g = some e) (hxr : (e.entry g).xr = true) (hclean : (e.entry g).st = .clean) :
    foldCapture damaged s = e.captureClean .fold g := by
  simp [foldCapture, hruns, habove, hroom, hnext, hfetch, haccess, hxr, hclean]

/-! ### Relocation (R261, R267, R268) -/

/-- A unit on a working die, or rebuilt from its stripe already, is copied as it stands. -/
theorem needs_no_rebuild {u : Nat × NUnit} (hread : s.dieWorks (locCh u.1) (locDie u.1) = true ∨ s.flsh.rebuilt.contains u.1 = true) :
    (!s.dieWorks (locCh u.1) (locDie u.1) && !s.flsh.rebuilt.contains u.1) = false := by
  rcases hread with h | h <;> simp only [h, Bool.not_true, Bool.false_and, Bool.and_false]

section
variable {damaged : Bool} {u : Nat × NUnit} (hruns : s.relocRuns = true) (hnext : s.relocNext = some u)
include hruns hnext

/-- A unit on a lost die that is not rebuilt yet is read from its stripe first. -/
theorem relocationCapture_rebuilds (hdie : s.dieWorks (locCh u.1) (locDie u.1) = false) (hlost : s.flsh.rebuilt.contains u.1 = false) :
    relocationCapture damaged s = s.rebuildStart u := by
  simp only [relocationCapture, hruns, hnext, hdie, hlost]
  rfl

variable (hread : s.dieWorks (locCh u.1) (locDie u.1) = true ∨ s.flsh.rebuilt.contains u.1 = true)
  (hroom : s.hasRoom .relocGranule 1 = true)
include hread hroom

theorem relocationCapture_granule {e : Dev} (hkind : u.2.kind = 1)
    (haccess : (s.fixEntry damaged u.2.idx).cacheAccess u.2.idx = some e) (hok : e.relocatable u = true) :
    relocationCapture damaged s = e.captureClean .relocGranule u.2.idx := by
  simp only [relocationCapture, hruns, hnext, needs_no_rebuild hread, hroom, hkind, haccess, hok]
  rfl

theorem relocationCapture_map (hkind : u.2.kind ≠ 1) : relocationCapture damaged s = (s.mapCopy .relocMap u.2.idx).placeAll := by
  simp only [relocationCapture, hruns, hnext, needs_no_rebuild hread, hroom, if_neg hkind]
  rfl

end

/-- An image group held open past its time closes, and is filled. -/
theorem groupCloseTimeout_of_open {damaged : List (BitVec 26)} {g : Group}
    (hfind : s.flsh.groups.find? (fun g => decide (g.stream = 0) && !g.launched && !g.padded && !g.closing && decide (g.copies ≠ [])) = some g) :
    groupCloseTimeout damaged s = (s.modFlsh (fun x => { x with
      groups := x.groups.map (fun y => if y.id = g.id then { y with closing := true } else y) })).fillClosing damaged := by
  simp only [groupCloseTimeout, hfind]

end

/-! ### The obligations -/

/-- Settles O6: the line is written, then its mark set or cleared; neither reaches another line. -/
theorem aLineWrittenIsReadBack : Obligations.a_line_written_is_read_back := by
  intro s a d poison hwf hrise
  refine ⟨fun hok => ?_, putLine_of_failed d poison⟩
  have hmark : ∀ x : Line, (s.writeLine a x).lineFailed a = false := fun x => (writeLine_failed s a a x).trans hok
  have hrise' : ∀ x : Line, (s.writeLine a x).poisonLines.Pairwise (· < ·) := fun x => by rwa [writeLine_poisonLines]
  rw [putLine_of_working d poison hok]
  refine ⟨fun b => ⟨?line, ?poisoned⟩, fun x hx => ?other, ?wf, markLine_pairwise poison (hrise' _) (hmark _)⟩
  case line => rw [readLine_markLine, readLine_writeLine b _ hwf hok]
  case poisoned => rw [linePoisoned_markLine b poison (hrise' _) (hmark _), linePoisoned_writeLine]
  case other => rw [markLine_dram, read_writeLine_other _ hwf hok hx]
  case wf => rw [markLine_dram, writeLine_dram _ hok]; exact memory_writeBytes_wf _ _ _ _ hwf

/-- Settles O9: an unlisted granule is not counted, so the listed ones are all that D counts. -/
theorem theDirtyCountCountsThreeStates : Obligations.the_dirty_count_counts_three_states := by
  intro s n hsorted hbelow hdflt
  have hunlisted : s.gmap.dflt.st.counted = false := by
    simp only [List.mem_cons, List.not_mem_nil, or_false] at hdflt
    rcases hdflt with h | h <;> rw [h] <;> rfl
  refine ⟨?count, fun g e hg => ⟨?sorted, ?below, setEntry_dflt s g e, ?readBack⟩⟩
  case count =>
    simp only [← counted_eq]
    exact congrArg (16384 * ·)
      (countP_getD_range s.gmap.dflt (fun e => e.st.counted) n s.gmap.entries hunlisted hsorted hbelow).symm
  case sorted => rw [setEntry_entries]; exact sortedK_putD _ _ _ _ hsorted
  case below =>
    intro p hp
    rw [setEntry_entries] at hp
    rcases mem_putD _ _ _ _ _ hp with rfl | hp
    · exact hg
    · exact hbelow p hp
  case readBack => rw [Dev.entry, setEntry_entries, setEntry_dflt, getD_putD_same _ _ _ _ hsorted]

/-- Settles O18: a write that nothing makes wait is performed where it arrives, whole or merged. -/
theorem hostWritesReachDram : Obligations.host_writes_reach_dram := by
  intro addr data poison damaged tag be c op s b hc hcredit hb
  obtain ⟨hop, hexec⟩ := exec_of_write_command hc
  subst hb
  refine ⟨fun haddr => by rw [hexec, hostWrite_outside hcredit haddr], ?_⟩
  intro a r d e f haddr hr hd hfree haccess hf hgo
  have hwrite : r.isWrite = true := by rcases hop with rfl | rfl <;> simp [hr, MemReq.isWrite]
  have harrive : ∀ x, f.memWrite r noErrs = (x, true) →
      hostWrite op addr data poison damaged tag noErrs s.dev = x := fun x hx => by
    rw [hostWrite_of_address hcredit haddr]
    exact memArrive_of_done hr hd hfree ((memTry_of_write hwrite haccess hf hgo).trans hx)
  refine ⟨fun hcase => ?whole, fun h old hptl hbe hpoison hread => ?merged⟩
  case whole =>
    have hwhole : (r.full || r.poison) = true := by
      rcases hcase with rfl | rfl | rfl
      · simp [hr, MemReq.full]
      · rcases hop with rfl | rfl <;> simp [hr, MemReq.full]
      · simp [hr]
    rw [hexec, harrive _ (memWrite_of_whole hwhole), hr]
  case merged =>
    rw [hexec, harrive _ (memWrite_of_partial (by rw [hr, hptl]) hbe (by rw [hr, hpoison]) hread), hr]

/-- Settles O19: a read that nothing makes wait is performed where it arrives; one in IO or outside its LD does not arrive. -/
theorem hostReadsAreAnswered : Obligations.host_reads_are_answered := by
  intro addr damaged tag c s hc
  refine ⟨?inMem, ?outside, ?inIo⟩
  case inMem =>
    intro a r d e f h x hlink hgranted haddr hr hd hfree hentry hgo hread
    have harrive : ∀ y, f.memRead r noErrs = (y, true) → hostRead addr damaged tag noErrs s.dev = y := fun y hy => by
      rw [hostRead_of_mem hlink hgranted haddr]
      exact memArrive_of_done hr hd hfree ((memTry_of_read (by rw [hr]; rfl) hentry hgo).trans hy)
    refine ⟨?data, ?poison⟩
    case data =>
      rintro line rfl
      rw [exec_of_read_command hc, harrive _ (memRead_of_data hread)]
    case poison =>
      rintro rfl
      rw [exec_of_read_command hc, harrive _ (memRead_of_poison hread)]
  case outside =>
    intro hcredit haddr
    rw [exec_of_read_command hc, hostRead_outside hcredit haddr]
  case inIo =>
    intro a hlink haddr
    rw [exec_of_read_command hc, hostRead_of_io hlink haddr]

/-- Settles O20: each hint, invalidation and phase on a link that carries it. -/
theorem hintsAndFlushesComplete : Obligations.hints_and_flushes_complete := by
  refine ⟨?taken, ?dropped, ?invalidate, ?phase1, ?phase2, ?halted⟩
  case taken =>
    intro addr tag a s hlink hgranted haddr
    rw [exec_memSpecRd, hostSpecRead_taken hlink hgranted haddr]
  case dropped =>
    intro addr tag s
    rw [exec_memSpecRd, hostSpecRead_dropped]
  case invalidate =>
    intro addr tag a c s hc hcredit haddr
    rw [exec_of_invalidate_command hc, hostInvalidate_of_address hcredit haddr]
  case phase1 =>
    intro s hup
    rw [exec_gpfPhase1, gpfPhase1_of_linkUp hup]
  case phase2 =>
    intro s hup
    rw [exec_gpfPhase2, gpfPhase2_of_linkUp hup]
  case halted =>
    intro t n rest d s hgpf hhalted hd
    rw [exec_gpfPartial, gpfPartial_of_halted hgpf hhalted hd]

/-- Settles O30: B by a recompute that the limits decide, W by a credit within a second. -/
theorem budgetAndWearAreComputed : Obligations.budget_and_wear_are_computed := by
  refine ⟨?budget, ?wear⟩
  case budget =>
    intro s le lr lc d hmode hup hle hlr hlc hd hfree hpos
    obtain rfl : d = withLimits s.dev := by rw [hd, hle, hlr, hlc, withLimits]
    rw [exec_budgetRecompute, recompute_of_budget hmode hup hle hlr hlc hfree hpos]
  case wear =>
    intro s d hon hd hms
    obtain rfl : d = credited s.dev := hd.trans (congrArg Dev.wearMark (modFery_congr rfl))
    rw [exec_wearCredit, wearCredit_within_second hon hms]

/-- Settles O34: each class of Table 4-1 where no class above it has work. -/
theorem theEngineCaptures : Obligations.the_engine_captures := by
  refine ⟨?pinned, ?mapGranule, ?checkpoint, ?candidate, ?reissue, exec_ferryParkExpiry, ?drainOnce, ?fold, ?relocation, ?group⟩
  case pinned =>
    intro g damaged p s d e hpinned hd hpick hreissue hroom haccess
    rw [exec_thruFerryCapture, thruFerryCapture_of_pinned hpinned, ← hd, thruGo_of_pinned hpick hreissue hroom haccess]
  case mapGranule =>
    intro damaged m s hthru hmap hnext hroom
    rw [exec_ferryCapture, ferryCapture_map hthru hmap hnext hroom]
  case checkpoint =>
    intro damaged s hthru hmap hckpt hroom
    rw [exec_ferryCapture, ferryCapture_checkpoint hthru hmap hckpt hroom]
  case candidate =>
    intro damaged g s d e hthru hmap hckpt hrun hgate hroom htake haccess hok
    rw [exec_ferryCapture, ferryCapture_candidate hthru hmap hckpt hrun hgate hroom htake haccess hok]
  case reissue =>
    intro damaged c s e f hpick hroom haccess hf
    refine ⟨fun hcls hst hparked hnew => ?_, fun hcls hst hpinned hnew => ?_⟩
    · rw [exec_ferryReissue,
        ferryReissue_of_recapture hpick hroom haccess (hf ▸ recapture_background hcls hst hparked) hnew]
    · rw [exec_ferryReissue, ferryReissue_of_recapture hpick hroom haccess (hf ▸ recapture_thru hcls hst hpinned) hnew]
  case drainOnce =>
    intro src s hacc
    rw [exec_ferryDrainOnce, ferryDrainOnce_of_accepts hacc]
  case fold =>
    intro damaged g s d e hruns habove hroom hnext hfetch haccess hxr hclean
    rw [exec_foldCapture, foldCapture_of_clean hruns habove hroom hnext hfetch haccess hxr hclean]
  case relocation =>
    intro damaged u s hruns hnext
    refine ⟨fun hdie hlost => ?_, fun hread hroom => ⟨fun e hkind haccess hok => ?_, fun hkind => ?_⟩⟩
    · rw [exec_relocationCapture, relocationCapture_rebuilds hruns hnext hdie hlost]
    · rw [exec_relocationCapture, relocationCapture_granule hruns hnext hread hroom hkind haccess hok]
    · rw [exec_relocationCapture, relocationCapture_map hruns hnext hread hroom hkind]
  case group =>
    intro g damaged s hfind
    rw [exec_groupCloseTimeout, groupCloseTimeout_of_open hfind]

end Sys2Proof.Laws
end

section
/-!
PROOFS. The statements of chapter 3: the loading of the granule map, and its lookup, cache flush and checkpoint interval in service.
-/
namespace Sys2Proof.Laws
open Sys2Proof Sys2Proof.Machine

/-! ### What the commands run -/

theorem exec_mapGranulesLoaded (failed recon : Bool) (damaged : List (BitVec 26)) (s : State) :
    exec (.mapGranulesLoaded failed recon damaged) s = .next (s.put (mapGranulesLoaded failed recon damaged s.dev).settle) := rfl
theorem exec_mapRollfwdEnd (s : State) : exec .mapRollfwdEnd s = .next (s.put (mapRollfwdEnd s.dev).settle) := rfl
theorem exec_mapRebuildEnd (s : State) : exec .mapRebuildEnd s = .next (s.put (mapRebuildEnd s.dev).settle) := rfl
theorem exec_mapNormalisationEnd (s : State) :
    exec .mapNormalisationEnd s = .next (s.put (mapNormalisationEnd s.dev).settle) := rfl
theorem exec_gmapLookup (src : Src) (val : Word) (s : State) :
    exec (.gmapLookup src val) s = .next (s.put (gmapLookup src val s.dev)) := rfl
theorem exec_gmapLookupDone (damaged : Bool) (s : State) :
    exec (.gmapLookupDone damaged) s = .next (s.put (gmapLookupDone damaged s.dev).settle) := rfl
theorem exec_gmapCacheFlush (src : Src) (s : State) : exec (.gmapCacheFlush src) s = .next (s.put (gmapCacheFlush src s.dev)) := rfl
theorem exec_gmapCacheFlushDone (s : State) :
    exec .gmapCacheFlushDone s = .next (s.put (gmapCacheFlushDone s.dev).settle) := rfl
theorem exec_checkpointInterval (s : State) :
    exec .checkpointInterval s = .next (s.put (checkpointInterval s.dev).settle) := rfl

section
variable {s : Dev}

/-! ### The end of a load (R75, R79, Table 3-6) -/

/-- A report of a phase's end in that phase, before the normalisation, is not out of place. -/
theorem phase_end_in_place {ph : MapPhase} (hphase : s.gmap.phase = ph) (hnorm : s.gmap.normalising = false) :
    ¬ (s.gmap.phase ≠ ph || s.gmap.normalising) = true := by
  simp [hphase, hnorm]

/-- The table with every entry that the directory's map granules hold. -/
def withDirEntries (s : Dev) : Dev :=
  s.modGmap (fun m => { m with dflt := GEntry.blank .clean, entries := s.dirEntries })

/-- The end of the load, with the reconstruction of a map granule noted: a rebuild, the merge of a crossing's index, or the
roll-forward, each of the last two with the damaged entries repaired. -/
theorem mapGranulesLoaded_of_loading {failed recon : Bool} {damaged : List (BitVec 26)} {d : Dev} (hphase : s.gmap.phase = .loading)
    (hnorm : s.gmap.normalising = false) (hd : d = if recon then s.latch Reg.GMAP_ERR 1 else s) :
    mapGranulesLoaded failed recon damaged s =
      if failed || !d.dirWhole then d.mapRebuild
      else if d.gmap.source = 1 then
        (damaged.foldl (fun s g => s.fixLoaded g.toNat)
          (((withDirEntries d).indexOf ((withDirEntries d).land.lastComplete.getD 0)).foldl Dev.mergeRec (withDirEntries d))).modGmap
            (fun m => { m with normalising := true })
      else (damaged.foldl (fun s g => s.fixLoaded g.toNat) (withDirEntries d)).modGmap (fun m => { m with phase := .rollfwd }) := by
  subst hd
  unfold mapGranulesLoaded
  rw [if_neg (phase_end_in_place hphase hnorm)]
  dsimp only
  generalize (if recon then s.latch Reg.GMAP_ERR 1 else s) = d
  by_cases hsource : d.gmap.source = 1
  · simp only [hsource, decide_true, if_true]
    rfl
  · simp only [hsource, decide_false, Bool.false_eq_true, if_false]
    rfl

/-! ### The scans and the normalisation (R75, R77) -/

theorem mapRollfwdEnd_of_rollfwd (hphase : s.gmap.phase = .rollfwd) (hnorm : s.gmap.normalising = false) :
    mapRollfwdEnd s = ((s.flsh.units.filter (fun p => p.1 < 2 ^ 32 && p.2.kind = 1 &&
      s.ckptFront.contains (groupOf p.1))).foldl Dev.applyCopy s).modGmap (fun m => { m with normalising := true }) :=
  if_neg (phase_end_in_place hphase hnorm)

theorem mapRebuildEnd_of_rebuilding {d : Dev} (hphase : s.gmap.phase = .rebuilding) (hnorm : s.gmap.normalising = false)
    (hd : d = (s.flsh.units.filter (fun p => p.2.kind = 1 && (decide (p.1 < 2 ^ 32) || s.committedSeq p.2.crossSeq))).foldl Dev.applyCopy
      (s.modGmap (fun m => { m with dflt := GEntry.blank .clean, entries := [] }))) :
    mapRebuildEnd s = ((d.flsh.units.filter (fun p => p.2.kind = 2)).foldl (fun s p => s.supersede p.1 (2 ^ 20 + p.2.idx)) d).modGmap
      (fun m => { m with normalising := true }) := by
  subst hd
  exact if_neg (phase_end_in_place hphase hnorm)

/-- The map that the normalisation leaves: LIVE, with every host granule UNRESTORED. -/
def normalised (m : GmapSt) (hostGranules : Nat) : GmapSt :=
  { m with
    phase := .live, normalising := false, dflt := GEntry.blank .unrestored, unrestored := hostGranules, cache := []
    entries := (m.entries.map (fun p => (p.1, { p.2 with st := .unrestored, age := 0 }))).filter
      (fun p => decide (p.2 ≠ GEntry.blank .unrestored)) }

theorem mapNormalisationEnd_of_normalising {d : Dev} (hnorm : s.gmap.normalising = true)
    (hd : d = (s.modFlsh (fun x => { x with reclaim := [] })).sortOrphans.poisonLoad) :
    mapNormalisationEnd s =
      (((((d.modGmap (fun m => normalised m d.hostGranules)).modLand (fun l => { l with bitmap := [] })).modFery
        (fun f => { f with fold := (if d.gmap.source = 1 then FoldWalk.index (d.indexOf (d.land.lastComplete.getD 0)) else FoldWalk.table 0)
                           foldTableDone := false, summary := [] })).firstFront.setReady Rdy.MAP).sessionStart.journalStep).evalAgain := by
  unfold mapNormalisationEnd
  rw [if_neg (by simp [hnorm])]
  dsimp only
  rw [← hd]
  rfl

/-! ### The map in service (R74, R81) -/

theorem gmapLookup_of_accepts {src : Src} (val : Word) (hacc : s.accepts src Reg.GMAP_LOOKUP_IDX = true) :
    gmapLookup src val s = ((s.setRegN Reg.GMAP_LOOKUP_IDX (val.toNat % 2 ^ 26)).modGmap
      (fun m => { m with lookupBusy := true, lookupDone := false })).writeStatus src .ok :=
  guarded_of_accepts _ hacc

/-- The end of a lookup: the entry is repaired where the read found it damaged, and its word given. -/
theorem gmapLookupDone_of_busy {damaged : Bool} {g : Nat} {d : Dev} (hbusy : s.gmap.lookupBusy = true)
    (hg : g = s.regF Reg.GMAP_LOOKUP_IDX 0 26)
    (hd : d = s.fixEntry (damaged && (s.gmap.phase = .live || s.gmap.phase = .saving || s.gmap.phase = .saved) &&
      decide (g < s.hostGranules)) g) :
    gmapLookupDone damaged s = d.modGmap (fun m => { m with lookupBusy := false, lookupDone := true, lookup := d.lookupWord g }) := by
  subst hg hd
  exact if_neg (by simp [hbusy])

theorem gmapCacheFlush_of_accepts {src : Src} (hacc : s.accepts src Reg.GMAP_CACHE_CTL = true) :
    gmapCacheFlush src s = (s.setRegF Reg.GMAP_CACHE_CTL 1 1 1).writeStatus src .ok :=
  guarded_of_accepts _ hacc

theorem gmapCacheFlushDone_of_flushing (hflush : s.regF Reg.GMAP_CACHE_CTL 1 1 = 1) :
    gmapCacheFlushDone s = s.cacheFlush.setRegF Reg.GMAP_CACHE_CTL 1 1 0 := if_pos hflush

theorem checkpointInterval_of_live (hphase : s.gmap.phase = .live) (hcommitted : s.gmap.mapCommitted = true)
    (hbusy : s.ckptBusy = false) : checkpointInterval s = s.wantCkpt false :=
  if_pos (by simp [hphase, hcommitted, hbusy])

end

/-! ### The obligations -/

/-- Settles O31: each of the four ends in every state of its phase. -/
theorem theMapIsLoaded : Obligations.the_map_is_loaded := by
  refine ⟨?loaded, ?rollfwd, ?rebuild, ?normalisation⟩
  case loaded =>
    intro s failed recon damaged d e hphase hnorm hd he
    obtain rfl : e = withDirEntries d := he
    rw [exec_mapGranulesLoaded, mapGranulesLoaded_of_loading hphase hnorm hd]
    refine ⟨fun hbad => ?_, fun hok hwhole hsource => ?_, fun hok hwhole hsource => ?_⟩
    · rw [if_pos (by simpa using hbad)]
    · rw [if_neg (by simp [hok, hwhole]), if_neg hsource]
    · rw [if_neg (by simp [hok, hwhole]), if_pos hsource]
  case rollfwd =>
    intro s hphase hnorm
    rw [exec_mapRollfwdEnd, mapRollfwdEnd_of_rollfwd hphase hnorm]
  case rebuild =>
    intro s d hphase hnorm hd
    rw [exec_mapRebuildEnd, mapRebuildEnd_of_rebuilding hphase hnorm hd]
  case normalisation =>
    intro s d hnorm hd
    rw [exec_mapNormalisationEnd, mapNormalisationEnd_of_normalising hnorm hd]
    simp only [normalised]

/-- Settles O32: each command by the guard of its write, or in the state that it ends. -/
theorem theMapIsLookedUpFlushedAndCheckpointed : Obligations.the_map_is_looked_up_flushed_and_checkpointed := by
  refine ⟨?lookup, ?lookupDone, ?flush, ?flushDone, ?checkpoint⟩
  case lookup =>
    intro src val s hacc
    rw [exec_gmapLookup, gmapLookup_of_accepts val hacc]
  case lookupDone =>
    intro damaged s g d hbusy hg hd
    rw [exec_gmapLookupDone, gmapLookupDone_of_busy hbusy hg hd]
  case flush =>
    intro src s hacc
    rw [exec_gmapCacheFlush, gmapCacheFlush_of_accepts hacc]
  case flushDone =>
    intro s hflush
    rw [exec_gmapCacheFlushDone, gmapCacheFlushDone_of_flushing hflush]
  case checkpoint =>
    intro s hphase hcommitted hbusy
    rw [exec_checkpointInterval, checkpointInterval_of_live hphase hcommitted hbusy]

end Sys2Proof.Laws
end

section
/-!
PROOFS. The statement of chapter 4 on the dirty sweep.
-/
namespace Sys2Proof.Laws
open Sys2Proof Sys2Proof.Machine

/-! ### What the commands run -/

theorem exec_sweepPassStart (s : State) : exec .sweepPassStart s = .next (s.put (sweepPassStart s.dev).settle) := rfl
theorem exec_sweepPassEnd (damaged : List (BitVec 26)) (s : State) :
    exec (.sweepPassEnd damaged) s = .next (s.put (sweepPassEnd damaged s.dev).settle) := rfl

section
variable {s : Dev}

/-! ### The sweep period expires (R85) -/

/-- With no pass that runs, a timed pass starts now. -/
theorem sweepPassStart_of_idle (hoff : s.fery.eng ≠ .off) (hlent : s.fery.eng ≠ .lent) (hidle : s.fery.sweep = none) :
    sweepPassStart s = s.modFery (fun f => { f with sweep := some (s.ticks, true) }) := by
  simp [sweepPassStart, hoff, hlent, hidle]

/-- A pass that still runs makes the next one wait for its end, and a timed one is late. -/
theorem sweepPassStart_of_running {start : Nat} {timed : Bool} (hoff : s.fery.eng ≠ .off) (hlent : s.fery.eng ≠ .lent)
    (hruns : s.fery.sweep = some (start, timed)) :
    sweepPassStart s =
      if timed then (s.modFery (fun f => { f with sweepDue := true })).latch Reg.FERY_ERR 5
      else s.modFery (fun f => { f with sweepDue := true }) := by
  simp [sweepPassStart, hoff, hlent, hruns]

/-! ### The end of a timed pass (R85, R86) -/

/-- A timed pass that started at `start` is over: it is counted, and FERY_SWEEP_STATUS holds its duration. -/
def timedPassCounted (start : Nat) (s : Dev) : Dev :=
  ((s.modFery (fun f => { f with sweep := none })).modFery (fun f => { f with sweepPasses := (f.sweepPasses + 1) % 65536 })).setRegF
    Reg.FERY_SWEEP_STATUS 0 16 (min 65535 (ceilDiv (s.ticks - start) 25000))

/-- The lines of a timed pass are judged and the pass is counted; then the pass that is due starts, or an untimed one may. -/
theorem sweepPassEnd_of_timed {start : Nat} {damaged : List (BitVec 26)} {d e : Dev} (hruns : s.fery.sweep = some (start, true))
    (hd : d = s.fery.summary.foldl (fun s l => s.sweepLine true damaged l) s) (he : e = timedPassCounted start d) :
    sweepPassEnd damaged s =
      if e.fery.sweepDue then e.modFery (fun f => { f with sweepDue := false, sweep := some (e.ticks, true) })
      else e.untimedPass := by
  subst hd he
  simp only [sweepPassEnd, hruns]
  rfl

end

/-! ### The obligation -/

/-- Settles O33: the expiry of the period without and with a pass that runs, and the end of a timed pass that no other waits for. -/
theorem theSweepPasses : Obligations.the_sweep_passes := by
  refine ⟨fun s hoff hlent => ⟨fun hidle => ?starts, fun start timed hruns => ?waits⟩, fun start damaged s d e hruns hd he hdue => ?ends⟩
  case starts => rw [exec_sweepPassStart, sweepPassStart_of_idle hoff hlent hidle]
  case waits => rw [exec_sweepPassStart, sweepPassStart_of_running hoff hlent hruns]
  case ends =>
    have hnext : ¬ e.fery.sweepDue = true := by simp [hdue]
    rw [exec_sweepPassEnd, sweepPassEnd_of_timed hruns hd he, if_neg hnext]

end Sys2Proof.Laws
end

section
/-!
PROOFS. The statement of chapter 5 on the crossing.
-/
namespace Sys2Proof.Laws
open Sys2Proof Sys2Proof.Machine

/-! ### What the commands run -/

theorem exec_hostQuiesced (s : State) : exec .hostQuiesced s = .next (s.put (hostQuiesced s.dev).settle) := rfl
theorem exec_crossingMapFlushed (s : State) : exec .crossingMapFlushed s = .next (s.put (crossingMapFlushed s.dev).settle) := rfl
theorem exec_carryCapture (damaged : List (BitVec 26)) (s : State) :
    exec (.carryCapture damaged) s = .next (s.put (carryCapture damaged s.dev).settle) := rfl

section
variable {s : Dev}

/-! ### The host is quiesced (R108, R110 step 2) -/

/-- In QUIESCE the first report of the quiesced host sets XING_QUIESCE_T and takes the checkpoint's number, then queues the opening
record of the state so made. -/
theorem hostQuiesced_of_quiesce {t : Nat} {d : Dev} (hst : s.xing.st = .quiesce) (hfirst : s.xing.quiesced = false)
    (ht : t = min 65535 (s.ticks - s.xing.t0))
    (hd : d = (s.setRegN Reg.XING_QUIESCE_T (t + fieldAt 16 16 t)).modXing
      (fun x => { x with quiesced := true, ckptSeq := s.gmap.ckptSeq })) :
    hostQuiesced s = d.queueRecord .opening (.opening d.openingBytes) := by
  subst ht hd
  have hin_place : ¬ (s.xing.st = .disarmed || s.xing.st = .armed || s.xing.st = .committed || s.xing.st = .abandoned ||
      s.xing.quiesced) = true := by simp [hst, hfirst]
  unfold hostQuiesced
  rw [if_neg hin_place]
  rfl

/-! ### The map cache is flushed (R65, R110 step 3) -/

/-- In QUIESCE the end of the first flush opens the save with every changed map granule to capture, in ascending order. -/
theorem crossingMapFlushed_of_quiesce {ms : List Nat} (hst : s.xing.st = .quiesce) (hfirst : s.xing.flushed = false)
    (hms : ms = (s.cacheFlush.gmap.mapDirty.map (fun p => p.1)).foldl (fun l m => insertN m l) []) :
    crossingMapFlushed s =
      (s.cacheFlush.modXing (fun x => { x with flushed := true, st := .opened, toMap := ms, mapWritten := ms.length })).crossStep := by
  subst hms
  have hin_place : ¬ (s.xing.st ≠ .quiesce || s.xing.flushed) = true := by simp [hst, hfirst]
  unfold crossingMapFlushed
  rw [if_neg hin_place]

/-! ### A granule is carried (R110 step 4, R111) -/

/-- In CARRY, with a mover and a staging slot free, the next granule of the carry set, which the granules with a repaired entry have
joined, is copied and debited, and the save goes on. -/
theorem carryCapture_of_carry {g : Nat} {rest : List Nat} {damaged : List (BitVec 26)} {c d : Dev} (hst : s.xing.st = .carry)
    (hmover : s.moversBusy < 64) (hslot : s.fery.copies.length < 8192)
    (hc : c = damaged.foldl (fun s g => s.carryRepair g.toNat) s) (hnext : c.xing.toCarry = g :: rest)
    (hd : d = (c.granuleCopy .xGranule g).debit) :
    carryCapture damaged s = (d.modXing (fun x => { x with
      toCarry := rest, walk := g + 1
      wseqFirst := if x.wseqFirst = 0 then d.fery.wseq else x.wseqFirst, wseqLast := d.fery.wseq })).crossStep := by
  subst hc hd
  have hruns : ¬ (s.xing.st ≠ .carry || 64 ≤ s.moversBusy || 8192 ≤ s.fery.copies.length) = true := by
    simp [hst, hmover, hslot]
  unfold carryCapture
  rw [if_neg hruns]
  simp only [hnext]

end

/-! ### The obligation -/

/-- Settles O35: each action by the phase of the crossing that it takes place in. -/
theorem theCrossingCarries : Obligations.the_crossing_carries := by
  refine ⟨?quiesced, ?flushed, ?carried⟩
  case quiesced =>
    intro s t d hst hfirst ht hd
    rw [exec_hostQuiesced, hostQuiesced_of_quiesce hst hfirst ht hd]
  case flushed =>
    intro s ms hst hfirst hms
    rw [exec_crossingMapFlushed, crossingMapFlushed_of_quiesce hst hfirst hms]
  case carried =>
    intro g rest damaged s c d hst hmover hslot hc hnext hd
    rw [exec_carryCapture, carryCapture_of_carry hst hmover hslot hc hnext hd]

end Sys2Proof.Laws
end

section
/-!
PROOFS. The statement of chapter 6 on the landing.
-/
namespace Sys2Proof.Laws
open Sys2Proof Sys2Proof.Machine

/-! ### What the commands run -/

theorem exec_restoreTake (damaged : Bool) (s : State) :
    exec (.restoreTake damaged) s = .next (s.put (restoreTake damaged s.dev).settle) := rfl
theorem exec_restoreZeroFillDone (g : BitVec 26) (s : State) :
    exec (.restoreZeroFillDone g) s = .next (s.put (restoreZeroFillDone g.toNat s.dev).settle) := rfl
theorem exec_restorePrioWrite (src : Src) (limit : Bool) (val : Word) (s : State) :
    exec (.restorePrioWrite src limit val) s = .next (s.put (restorePrioWrite src limit val s.dev).settle) := rfl
theorem exec_sessionOpenWritten (s : State) :
    exec .sessionOpenWritten s = .next (s.put (sessionOpenWritten s.dev).settle) := rfl

section
variable {s : Dev}

/-! ### The walk (R131, R134) -/

/-- The walk steps past the granule that it comes to and takes it, where it is UNRESTORED after the repair of a damaged entry. -/
theorem restoreTake_of_walkNext {damaged : Bool} {g w : Nat} {d : Dev} (hruns : s.walkRuns = true) (hnext : s.walkNext = some (g, w))
    (hd : d = (s.modLand (fun l => { l with walk := w, cursor := g + 1 })).restoreRepair damaged g)
    (hst : (d.entry g).st = .unrestored) : restoreTake damaged s = d.restoreTake g false d.ticks := by
  subst hd
  simp [restoreTake, hruns, hnext, hst]

/-- A walk that finds no UNRESTORED granule is over. -/
theorem restoreTake_of_walk_over {damaged : Bool} (hruns : s.walkRuns = true) (hover : s.walkNext = none) :
    restoreTake damaged s = s.modLand (fun l => { l with walk := 3 }) := by
  simp [restoreTake, hruns, hover]

/-- The end of the fill of a granule that has no copy: its lines are zeros and it is CLEAN (Table 6-1). -/
theorem restoreZeroFillDone_of_zero {g : Nat} {r : Restore} (hheld : s.restore? g = some r) (hzero : r.zero = true) :
    restoreZeroFillDone g s = ((s.restorePut r [] []).setSt g .clean).leaveFetching r := by
  simp [restoreZeroFillDone, hheld, hzero]

/-! ### The priority range (R134, log 57) -/

/-- In RESTORING the write moves the walk to the start of the range it makes, if that range still holds an UNRESTORED granule. -/
theorem restorePrioWrite_of_accepts {src : Src} {limit : Bool} (val : Word) {off : Nat} {d : Dev}
    (hoff : off = if limit then Reg.XING_RESTORE_PRIO_LIMIT else Reg.XING_RESTORE_PRIO_BASE) (hacc : s.accepts src off = true)
    (hd : d = (s.setRegN off (val.toNat % 2 ^ 26)).writeStatus src .ok) :
    restorePrioWrite src limit val s =
      if d.land.st = .restoring ∧ d.prioBase < d.prioLimit ∧ (d.unrestoredIn d.prioBase d.prioLimit).isSome = true then
        d.modLand (fun l => { l with walk := 0, cursor := d.prioBase })
      else d := by
  subst hoff hd
  unfold restorePrioWrite
  dsimp only
  rw [guarded_of_accepts _ hacc]
  simp only [Bool.and_eq_true, decide_eq_true_eq, and_assoc]

/-! ### The session record (R143) -/

/-- With the record asked for and no event of it in the queue, the store is searched for it: found, the session is open and the old
crossing's metadata is reclaimed; lost, it is written again. -/
theorem sessionOpenWritten_of_drained (hasked : s.land.sessionAsked = true) (hclosed : s.land.sessionOpen = false)
    (hready : s.log.st = 2) (hdrained : ∀ e ∈ s.log.queue, e.ty ≠ LT.SESSION_OPEN) :
    sessionOpenWritten s =
      if s.sessionHeld then (((s.modLand (fun l => { l with sessionOpen := true })).reclaim
        (s.modLand (fun l => { l with sessionOpen := true })).oldXMeta).journalStep).evalAgain
      else s.sessionRecord := by
  have hsearch : ¬ (!s.land.sessionAsked || s.land.sessionOpen || s.log.st ≠ 2 ||
      s.log.queue.any (fun e => e.ty = LT.SESSION_OPEN)) = true := by
    simpa [hasked, hclosed, hready] using hdrained
  unfold sessionOpenWritten
  rw [if_neg hsearch]
  cases hheld : s.sessionHeld
  case true => rfl
  case false => rfl

end

/-! ### The obligation -/

/-- Settles O36: the walk with and without a granule left, the end of a zero fill, and the two conditions that start the walk anew and
open the session. -/
theorem theLandingRestores : Obligations.the_landing_restores := by
  refine ⟨?takes, ?walkOver, ?zeroFill, ?priority, ?session⟩
  case takes =>
    intro damaged g w s d hruns hnext hd hst
    rw [exec_restoreTake, restoreTake_of_walkNext hruns hnext hd hst]
  case walkOver =>
    intro damaged s hruns hover
    rw [exec_restoreTake, restoreTake_of_walk_over hruns hover]
  case zeroFill =>
    intro g r s hheld hzero
    rw [exec_restoreZeroFillDone, restoreZeroFillDone_of_zero hheld hzero]
  case priority =>
    intro src limit val off s d hoff hacc hd
    rw [exec_restorePrioWrite, restorePrioWrite_of_accepts val hoff hacc hd]
  case session =>
    intro s hasked hclosed hready hdrained
    rw [exec_sessionOpenWritten, sessionOpenWritten_of_drained hasked hclosed hready hdrained]

end Sys2Proof.Laws
end

section
/-!
PROOFS. The statements of chapter 7: the standard mailbox commands that report and that change the device, and the KX_ commands on
modes, reports, the battery, margins and retraining.
-/
namespace Sys2Proof.Laws
open Sys2Proof Sys2Proof.Machine

/-! ### What the commands run -/

theorem exec_getLog (ld : Fin 16) (uuid : BitVec 128) (off len : BitVec 32) (s : State) :
    exec (.getLog ld uuid off len) s = .next (s.put (getLog ld uuid off len s.dev)) := rfl
theorem exec_getEventRecords (ld : Fin 16) (log : Byte) (s : State) :
    exec (.getEventRecords ld log) s = .next (s.put (getEventRecords ld log s.dev)) := rfl
theorem exec_getHealthInfo (ld : Fin 16) (temp : BitVec 16) (s : State) :
    exec (.getHealthInfo ld temp) s = .next (s.put (getHealthInfo ld temp s.dev)) := rfl
theorem exec_getPoisonList (ld : Fin 16) (dpa len : BitVec 64) (s : State) :
    exec (.getPoisonList ld dpa len) s = .next (s.put (getPoisonList ld dpa len s.dev)) := rfl
theorem exec_setTimestamp (ld : Fin 16) (t : BitVec 64) (s : State) :
    exec (.setTimestamp ld t) s = .next (s.put (setTimestamp ld t s.dev)) := rfl
theorem exec_setEventInterruptPolicy (ld : Fin 16) (val : Word) (s : State) :
    exec (.setEventInterruptPolicy ld val) s = .next (s.put (setEventInterruptPolicy ld val s.dev)) := rfl
theorem exec_clearEventRecords (ld : Fin 16) (log : Byte) (all : Bool) (handles : List (BitVec 16)) (s : State) :
    exec (.clearEventRecords ld log all handles) s = .next (s.put (clearEventRecords ld log all handles s.dev)) := rfl
theorem exec_setAlertConfig (ld : Fin 16) (valid enable life : Byte) (hi lo vol pers : BitVec 16) (s : State) :
    exec (.setAlertConfig ld valid enable life hi lo vol pers) s =
      .next (s.put (setAlertConfig ld valid enable life hi lo vol pers s.dev).settle) := rfl
theorem exec_setShutdownState (ld : Fin 16) (dirty : Bool) (s : State) :
    exec (.setShutdownState ld dirty) s = .next (s.put (setShutdownState ld dirty s.dev).settle) := rfl
theorem exec_setLsa (ld : Fin 16) (off : BitVec 32) (data : Bytes) (s : State) :
    exec (.setLsa ld off data) s = .next (s.put (setLsa ld off data s.dev).settle) := rfl
theorem exec_getLsa (ld : Fin 16) (off len : BitVec 32) (s : State) :
    exec (.getLsa ld off len) s = .next (s.put (getLsa ld off len s.dev).settle) := rfl
theorem exec_injectPoison (ld : Fin 16) (dpa : BitVec 64) (damaged : Bool) (s : State) :
    exec (.injectPoison ld dpa damaged) s = .next (s.put (injectPoison ld dpa damaged s.dev).settle) := rfl
theorem exec_clearPoison (ld : Fin 16) (dpa : BitVec 64) (data : Line) (damaged : Bool) (s : State) :
    exec (.clearPoison ld dpa data damaged) s = .next (s.put (clearPoison ld dpa data damaged s.dev).settle) := rfl
theorem exec_unsupportedCommand (ld : Fin 16) (opcode : BitVec 16) (s : State) :
    exec (.unsupportedCommand ld opcode) s = .next (s.put (unsupportedCommand ld opcode s.dev)) := rfl
theorem exec_kxResetFw (p : Port) (rest : Bytes) (s : State) :
    exec (.kxResetFw p rest) s = .next (s.put (s.dev.kxCommand p 0xC003 (1 :: rest)).settle) := rfl
theorem exec_kxGetStatus (p : Port) (input : Bytes) (s : State) :
    exec (.kxGetStatus p input) s = .next (s.put (s.dev.kxCommand p 0xC010 input)) := rfl
theorem exec_kxLogRead (p : Port) (input : Bytes) (s : State) :
    exec (.kxLogRead p input) s = .next (s.put (s.dev.kxCommand p 0xC020 input)) := rfl
theorem exec_kxBattStateGet (p : Port) (input : Bytes) (s : State) :
    exec (.kxBattStateGet p input) s = .next (s.put (s.dev.kxCommand p 0xC030 input)) := rfl
theorem exec_kxBattStatePut (p : Port) (input : Bytes) (s : State) :
    exec (.kxBattStatePut p input) s = .next (s.put (s.dev.kxCommand p 0xC031 input).settle) := rfl
theorem exec_kxMargin (p : Port) (input : Bytes) (s : State) :
    exec (.kxMargin p input) s = .next (s.put (s.dev.kxCommand p 0xC050 input).settle) := rfl
theorem exec_kxDramRetrain (p : Port) (input : Bytes) (s : State) :
    exec (.kxDramRetrain p input) s = .next (s.put (s.dev.kxCommand p 0xC051 input).settle) := rfl

/-! ### The mailbox serves an LD (R168, R170) -/

section
variable {s : Dev} {ld : Fin 16} (hready : s.rdy Rdy.MAILBOX = true) (hld : s.hasLd ld = true) (hmode : s.core.mode ≠ .recovery)
include hready hld hmode

/-- Outside RECOVERY a mailbox that is ready serves every command of an LD. -/
theorem mbox_of_ready (opcode : Nat) (rom : Bool) (act : Dev → Dev) : s.mbox ld opcode rom act = act s := by
  simp [Dev.mbox, hready, hld, hmode]

/-! ### The commands that report (R168 to R173) -/

theorem getLog_of_cel {uuid : BitVec 128} {off len : BitVec 32} (huuid : leBytes 16 uuid.toNat = celUuid)
    (hfits : off.toNat + len.toNat ≤ celBytes.length) :
    getLog ld uuid off len s = s.mboxOk ld 0x0401 (subBytes celBytes off.toNat len.toNat) := by
  unfold getLog
  rw [mbox_of_ready hready hld hmode, if_neg (by simp [huuid, hfits])]

theorem getLog_of_other {uuid : BitVec 128} (off len : BitVec 32) (huuid : leBytes 16 uuid.toNat ≠ celUuid) :
    getLog ld uuid off len s = s.mboxBad ld 0x0401 .badParam := by
  unfold getLog
  rw [mbox_of_ready hready hld hmode, if_pos (by simp [huuid])]

/-- The answer of Get Event Records: the overflow of a log, its times, and the records held. -/
def eventRecordsOutput (l : LdSt) (log : Nat) : Bytes :=
  [BitVec.ofNat 8 (b2n (decide (l.overflow.getD log 0 ≠ 0))), 0] ++ leBytes 2 (l.overflow.getD log 0) ++
    leBytes 8 (l.ovfTimes.getD (2 * log) 0) ++ leBytes 8 (l.ovfTimes.getD (2 * log + 1) 0) ++
    leBytes 2 (l.logs.getD log []).length ++ List.replicate 10 0 ++ (l.logs.getD log []).flatMap (evBytes log)

theorem getEventRecords_of_log {log : Byte} (hlog : log.toNat < 4) :
    getEventRecords ld log s = s.mboxOk ld 0x0100 (eventRecordsOutput (s.ld ld) log.toNat) := by
  unfold getEventRecords
  rw [mbox_of_ready hready hld hmode, if_neg (Nat.not_le.mpr hlog)]
  rfl

theorem getEventRecords_of_no_log {log : Byte} (hlog : 4 ≤ log.toNat) :
    getEventRecords ld log s = s.mboxBad ld 0x0100 .badParam := by
  unfold getEventRecords
  rw [mbox_of_ready hready hld hmode, if_pos hlog]

/-- The answer of Get Health Info for a device whose alerts are judged (R172). -/
def healthInfoOutput (d : Dev) (ld : Fin 16) (temp : BitVec 16) : Bytes :=
  [BitVec.ofNat 8 d.healthNow, BitVec.ofNat 8 (if d.hlnk.memActive then 0 else 1),
    BitVec.ofNat 8 (b2n ((d.ld ld).alertHit.getLsbD 0) +
      4 * (if (d.ld ld).alertHit.getLsbD 1 || (d.ld ld).alertHit.getLsbD 2 then 1 else 0) +
      16 * b2n ((d.ld ld).alertHit.getLsbD 3) + 32 * b2n ((d.ld ld).alertHit.getLsbD 4)),
    BitVec.ofNat 8 d.lifeUsed] ++ leBytes 2 temp.toNat ++ leBytes 4 d.hlnk.dsc ++ leBytes 4 d.ceVolatile ++ leBytes 4 d.flsh.ceReads

/-- The temperature alerts are judged first, and the answer is that of the device so made. -/
theorem getHealthInfo_of_ready {temp : BitVec 16} {d : Dev} (hd : d = s.alertStep ld 0x06 (tempAlerts (s.ld ld) temp)) :
    getHealthInfo ld temp s = d.mboxOk ld 0x4200 (healthInfoOutput d ld temp) := by
  subst hd
  unfold getHealthInfo
  rw [mbox_of_ready hready hld hmode]
  rfl

/-- The answer of Get Poison List: the flags, the time of an overflow, and the first 4,094 of the runs (R171). -/
def poisonListOutput (s : Dev) (base : Nat) (runs : List (Nat × Nat)) : Bytes :=
  [BitVec.ofNat 8 (b2n (decide (4094 < runs.length)) + 2 * b2n s.gmap.poisonOvf), 0] ++
    leBytes 8 (if s.gmap.poisonOvf then s.gmap.poisonOvfTime else 0) ++ leBytes 2 (runs.take 4094).length ++ List.replicate 20 0 ++
    (runs.take 4094).flatMap (fun r => leBytes 8 (64 * (r.1 - base)) ++ leBytes 4 r.2 ++ List.replicate 4 0)

theorem getPoisonList_inside {dpa len : BitVec 64} {base : Nat} {runs : List (Nat × Nat)} (hbase : base = s.ldBase ld / 64)
    (hruns : runs = s.poisonRuns (base + dpa.toNat / 64) (base + dpa.toNat / 64 + len.toNat))
    (hfits : 64 * (dpa.toNat / 64 + len.toNat) ≤ s.ldSize ld) :
    getPoisonList ld dpa len s = s.mboxOk ld 0x4300 (poisonListOutput s base runs) := by
  subst hbase hruns
  unfold getPoisonList
  rw [mbox_of_ready hready hld hmode]
  exact if_neg (Nat.not_lt.mpr hfits)

theorem getPoisonList_outside {dpa len : BitVec 64} (hpast : s.ldSize ld < 64 * (dpa.toNat / 64 + len.toNat)) :
    getPoisonList ld dpa len s = s.mboxBad ld 0x4300 .badParam := by
  unfold getPoisonList
  rw [mbox_of_ready hready hld hmode]
  exact if_pos hpast

/-! ### The commands that change the device (R163, R170, R171, R413) -/

theorem setTimestamp_of_ready (t : BitVec 64) :
    setTimestamp ld t s = ((s.modHlnk (fun h => { h with timestamp := some (t.toNat, s.ticks) })).logEvent LT.WALL_CLOCK
      (leBytes 8 t.toNat ++ leBytes 1 ld.val ++ [0, 0, 0])).mboxOk ld 0x0301 [] :=
  mbox_of_ready hready hld hmode _ _ _

theorem setEventInterruptPolicy_of_supported {val : Word}
    (hmodes : (List.range 4).any (fun n => decide (1 < bitsOf val.toNat (8 * n) 2)) = false) :
    setEventInterruptPolicy ld val s = (s.modLd ld (fun l => { l with intPolicy := val &&& 0x03030303 })).mboxOk ld 0x0103 [] := by
  unfold setEventInterruptPolicy
  rw [mbox_of_ready hready hld hmode, if_neg (by simp [hmodes])]

/-- An LD whose event log n holds the records rs alone, with its overflow over. -/
def clearedTo (n : Nat) (rs : List EvRec) (l : LdSt) : LdSt :=
  { l with
    logs := l.logs.set n rs, overflow := setGrow l.overflow n 0
    ovfTimes := setGrow (setGrow l.ovfTimes (2 * n) 0) (2 * n + 1) 0 }

/-- After an overflow all records of a log may be cleared at once. -/
theorem clearEventRecords_all {log : Byte} (handles : List (BitVec 16)) (hlog : log.toNat < 4)
    (hovf : (s.ld ld).overflow.getD log.toNat 0 ≠ 0) :
    clearEventRecords ld log true handles s = (s.modLd ld (clearedTo log.toNat [])).mboxOk ld 0x0101 [] := by
  unfold clearEventRecords
  rw [mbox_of_ready hready hld hmode]
  dsimp only
  rw [if_neg (Nat.not_le.mpr hlog), if_pos rfl, if_neg hovf]
  rfl

/-- The records that are named, oldest first, leave the log. -/
theorem clearEventRecords_named {log : Byte} {handles : List (BitVec 16)} {rs : List EvRec} (hlog : log.toNat < 4)
    (hrs : rs = (s.ld ld).logs.getD log.toNat [])
    (hnamed : (rs.take handles.length).map (fun r => r.handle) = handles.map (fun h => h.toNat)) :
    clearEventRecords ld log false handles s =
      (s.modLd ld (clearedTo log.toNat (rs.drop handles.length))).mboxOk ld 0x0101 [] := by
  subst hrs
  unfold clearEventRecords
  rw [mbox_of_ready hready hld hmode]
  dsimp only
  rw [List.length_map, if_neg (Nat.not_le.mpr hlog), if_neg Bool.false_ne_true, if_neg (not_not.mpr hnamed)]
  rfl

/-- An LD's alerts with the value and the enable of each threshold that `valid` names. -/
def withAlerts (valid enable life : Byte) (hi lo vol pers : BitVec 16) (l : LdSt) : LdSt :=
  { l with
    alertValid := l.alertValid ||| valid, alertEnable := (l.alertEnable &&& ~~~valid) ||| (enable &&& valid)
    alertLife := if valid.getLsbD 0 then life else l.alertLife, alertTempHi := if valid.getLsbD 1 then hi else l.alertTempHi
    alertTempLo := if valid.getLsbD 2 then lo else l.alertTempLo, alertCeVol := if valid.getLsbD 3 then vol else l.alertCeVol
    alertCePers := if valid.getLsbD 4 then pers else l.alertCePers }

theorem setAlertConfig_of_known {valid enable life : Byte} (hi lo vol pers : BitVec 16) (hvalid : valid.toNat / 32 = 0)
    (henable : enable.toNat / 32 = 0) (hlife : valid.getLsbD 0 = true → life.toNat ≤ 100) :
    setAlertConfig ld valid enable life hi lo vol pers s =
      (s.modLd ld (withAlerts valid enable life hi lo vol pers)).mboxOk ld 0x4202 [] := by
  have hknown : ¬ (valid.toNat / 32 ≠ 0 || enable.toNat / 32 ≠ 0 || (valid.getLsbD 0 && decide (100 < life.toNat))) = true := by
    simpa [hvalid, henable] using hlife
  unfold setAlertConfig
  rw [mbox_of_ready hready hld hmode, if_neg hknown]
  rfl

theorem setShutdownState_of_store (dirty : Bool) (hstore : s.lsaRefusal = none) :
    setShutdownState ld dirty s =
      ((s.modHlnk (fun h => { h with shutdown := h.shutdown.set ld.val (b2n dirty) })).prMerge 2 0 (4 + ld.val)
        [BitVec.ofNat 8 (b2n dirty)]).mboxOk ld 0x4204 [] := by
  unfold setShutdownState
  rw [mbox_of_ready hready hld hmode, hstore]

/-- The label storage with a string written from payload offset a of PR1, block by block. -/
def lsaWrite (a : Nat) (data : Bytes) (s : Dev) : Dev :=
  (lsaBlocks a data.length).foldl (fun d b =>
    d.prMerge 1 b (max a (4032 * b) - 4032 * b)
      (subBytes data (max a (4032 * b) - a) (min (a + data.length) (4032 * (b + 1)) - max a (4032 * b)))) s

theorem setLsa_of_store {off : BitVec 32} {data : Bytes} (hfits : off.toNat + data.length ≤ 131072) (hlen : data.length ≤ 65528)
    (hstore : s.lsaRefusal = none) :
    setLsa ld off data s = (lsaWrite (131072 * ld.val + off.toNat) data s).mboxOk ld 0x4103 [] := by
  unfold setLsa
  rw [mbox_of_ready hready hld hmode]
  dsimp only
  rw [if_neg (by simp [hfits, hlen]), hstore]
  rfl

theorem setLsa_of_no_store {off : BitVec 32} {data : Bytes} {st : St} (hfits : off.toNat + data.length ≤ 131072)
    (hlen : data.length ≤ 65528) (hstore : s.lsaRefusal = some st) : setLsa ld off data s = s.mboxBad ld 0x4103 st := by
  unfold setLsa
  rw [mbox_of_ready hready hld hmode]
  dsimp only
  rw [if_neg (by simp [hfits, hlen]), hstore]

/-- n bytes from payload offset a of the label storage. -/
def lsaRead (d : Dev) (a n : Nat) : Bytes :=
  (List.range n).map (fun i => getD 0 ((a + i) % 4032) ((d.prRead 1 ((a + i) / 4032)).getD []))

/-- The blocks are read with any damage noted, and every one of them is readable. (The matches stay as they are until what they are on is
rewritten: reducing them would run over every block of PR1.) -/
theorem getLsa_of_store {off len : BitVec 32} {d : Dev} (hfits : off.toNat + len.toNat ≤ 131072) (hlen : len.toNat ≤ 65536)
    (hstore : s.lsaRefusal = none)
    (hd : d = (lsaBlocks (131072 * ld.val + off.toNat) len.toNat).foldl (fun s b => s.prNoteDamage 1 b) s)
    (hwhole : (lsaBlocks (131072 * ld.val + off.toNat) len.toNat).find? (fun b => (d.prRead 1 b).isNone) = none) :
    getLsa ld off len s = d.mboxOk ld 0x4102 (lsaRead d (131072 * ld.val + off.toNat) len.toNat) := by
  unfold getLsa
  rw [mbox_of_ready hready hld hmode]
  dsimp -iota only
  rw [if_neg (by simp [hfits, hlen]), hstore, ← hd, hwhole]
  rfl

/-- A poison command names its line once the image is usable. -/
theorem poisonCmd_of_usable {opcode : Nat} {dpa : BitVec 64} {act : Dpa → Dev → Dev} (hdpa : dpa.toNat < s.ldSize ld)
    (husable : s.rdy Rdy.HOSTMEM = true) :
    s.poisonCmd ld opcode dpa act = act (BitVec.ofNat 40 (s.ldBase ld + dpa.toNat / 64 * 64)) s := by
  unfold Dev.poisonCmd
  rw [mbox_of_ready hready hld hmode, if_neg (by omega), if_neg (by simp [husable])]

theorem unsupportedCommand_of_ready (opcode : BitVec 16) :
    unsupportedCommand ld opcode s = (s.refuse (.host ld) opcode.toNat 3 s.unsupportedSt).drew :=
  mbox_of_ready hready hld hmode _ _ _

end

/-! ### The KX_ commands (R174 to R176, R345, R366, R367) -/

theorem leAt_first_byte (x : Byte) (rest : Bytes) : leAt (x :: rest) 0 1 = x.toNat := by
  simp [leAt, subBytes, leVal]

/-- KX_MODE with a code of Table 7-6 and its other bytes 0 is the code's event. -/
theorem kxMode_of_code {b : Dev} {p : Port} {x : Bytes} {code : Nat} {e : Ev}
    (hc : (code, e) ∈ [(3, Ev.maintEnter), (4, .maintExit), (5, .recovReq)]) (hcode : leAt x 0 1 = code) (hzero : leAt x 1 3 = 0) :
    b.kxMode p x = b.kxEvent p 0xC002 e := by
  simp only [List.mem_cons, Prod.mk.injEq, List.not_mem_nil, or_false] at hc
  rcases hc with ⟨rfl, rfl⟩ | ⟨rfl, rfl⟩ | ⟨rfl, rfl⟩
  · simp [Dev.kxMode, hcode, hzero]
  · simp [Dev.kxMode, hcode, hzero]
  · simp [Dev.kxMode, hcode, hzero]

/-- The commands that raise a mode event, with what each runs once it is accepted. -/
theorem exec_of_kx_mode_command {p : Port} {input rest x : Bytes} {c : Instr} {op : Nat} {e : Ev}
    (hc : (c, op, x, e) ∈ [(Instr.kxPowerOff p input, 0xC000, input, Ev.offReq), (.kxPowerOn p input, 0xC001, input, .onReq),
      (.kxModeMaintEnter p rest, 0xC002, 3 :: rest, .maintEnter), (.kxModeMaintExit p rest, 0xC002, 4 :: rest, .maintExit),
      (.kxModeRecovReq p rest, 0xC002, 5 :: rest, .recovReq), (.kxResetFull p rest, 0xC003, 2 :: rest, .resetFull)])
    (hzero : op = 0xC002 → leAt x 1 3 = 0) :
    (∀ s : State, exec c s = .next (s.put (s.dev.kxCommand p op x).settle)) ∧ ∀ b : Dev, b.kxServe p op x = b.kxEvent p op e := by
  simp only [List.mem_cons, Prod.mk.injEq, List.not_mem_nil, or_false] at hc
  rcases hc with ⟨rfl, rfl, rfl, rfl⟩ | ⟨rfl, rfl, rfl, rfl⟩ | ⟨rfl, rfl, rfl, rfl⟩ | ⟨rfl, rfl, rfl, rfl⟩ | ⟨rfl, rfl, rfl, rfl⟩ |
    ⟨rfl, rfl, rfl, rfl⟩
  · exact ⟨fun _ => rfl, fun _ => rfl⟩
  · exact ⟨fun _ => rfl, fun _ => rfl⟩
  · exact ⟨fun _ => rfl, fun _ => kxMode_of_code (by simp) (leAt_first_byte _ _) (hzero rfl)⟩
  · exact ⟨fun _ => rfl, fun _ => kxMode_of_code (by simp) (leAt_first_byte _ _) (hzero rfl)⟩
  · exact ⟨fun _ => rfl, fun _ => kxMode_of_code (by simp) (leAt_first_byte _ _) (hzero rfl)⟩
  · exact ⟨fun _ => rfl, fun b => by simp [Dev.kxServe, Dev.kxReset, leAt_first_byte]⟩

section
variable {b : Dev} {p : Port} {input : Bytes}

theorem kxServe_reset_fw (rest : Bytes) : b.kxServe p 0xC003 (1 :: rest) = (b.kxEnd p 0xC003 .ok []).fwRestartCmd := by
  simp [Dev.kxServe, Dev.kxReset, leAt_first_byte]

/-- The answer of KX_LOG_READ: where the next read starts, the length, the flags and the records (R176). -/
def logReadOutput (start oldest next need : Nat) (rs : List Found) : Bytes :=
  leBytes 8 next ++ leBytes 4 (rs.flatMap (fun f => f.bytes)).length ++
    leBytes 4 (b2n (decide (need = 0)) + 2 * b2n (decide (start ≠ 0) && decide (start < oldest)) +
      4 * b2n (decide (need ≠ 0)) + fieldAt 16 16 need) ++ rs.flatMap (fun f => f.bytes)

/-- The RSEQ after the records that fit; with none, that of the first held record. -/
def logReadNext (first : Nat) (held rs : List Found) : Nat :=
  match rs.getLast? with
  | some f => f.rseq + 1
  | none => match held with
    | f :: _ => f.rseq
    | [] => first

theorem kxLogRead_of_ready {first need : Nat} {held rs : List Found} (hmin : 64 ≤ leAt input 8 4) (hmax : leAt input 8 4 ≤ 65520)
    (hlog : b.log.st = 2) (hstore : b.chtr.st ≠ 3) (hfirst : first = max (max (leAt input 0 8) b.log.oldestRseq) 1)
    (hheld : held = b.logRecords.filter (fun f => decide (first ≤ f.rseq))) (hfit : takeFit (leAt input 8 4) held = (rs, need)) :
    b.kxLogRead p input = b.kxEnd p 0xC020 .ok
      (logReadOutput (leAt input 0 8) b.log.oldestRseq (logReadNext first held rs) need rs) := by
  unfold Dev.kxLogRead
  dsimp -iota only
  rw [if_neg (by simp [hmin, hmax]), if_neg hstore, if_neg (by omega), ← hfirst, ← hheld, hfit]
  rfl

theorem battGet_of_active (hactive : b.batt.st = .active) : b.battGet = (.ok, b.learnedState) := if_pos hactive

theorem battPut_of_refusal {st : St} (hno : b.putRefusal input = some st) :
    b.battPut input = ((b.latch Reg.BATT_ERR 4).logBatt LT.BATT_STATE_REJECTED st.code, st) := by
  simp only [Dev.battPut, hno]

/-- A gauge that takes over a learned state: its full charge becomes qf, with the charge and its uncertainty in proportion (R367). -/
def stateRestored (input : Bytes) (qf : Rat) (k : BattSt) : BattSt :=
  { k with
    q := k.q * (qf / k.qFull), u := k.u * (qf / k.qFull), qFull := qf, learnCount := leAt input 30 2
    throughput := ((leAt input 32 4 : Nat) : Rat), learned := true, noPut := true }

theorem battPut_of_pack {r : PackRec} {qf : Rat} {d : Dev} (hyes : b.putRefusal input = none) (hpack : b.packRec = some r)
    (hqf : qf = max ((r.eol : Rat) / 2) (min ((leAt input 28 2 : Nat) : Rat) (r.rated : Rat)))
    (hd : d = b.modBatt (stateRestored input qf)) :
    b.battPut input = ((d.logBatt LT.BATT_STATE_RESTORED d.qFullMah).wornJudge r, .ok) := by
  subst hqf hd
  simp only [Dev.battPut, hyes, hpack]
  rfl

/-- KX_MARGIN is served in MAINTENANCE alone (Table 7-6). -/
theorem mode_of_kxModeOk_margin (h : b.kxModeOk 0xC050 = true) : b.core.mode = .maintenance := by
  cases hm : b.core.mode <;> simp [Dev.kxModeOk, hm, kxRom] at h ⊢

theorem kxModeOk_of_accepts {s : Dev} {op : Nat} (hacc : s.kxAccepts p op input = true) :
    (s.kxBefore p op input).kxModeOk op = true := by
  simp only [Dev.kxAccepts, Bool.and_eq_true] at hacc
  obtain ⟨⟨_, hmodeOk⟩, _⟩ := hacc
  exact hmodeOk

theorem marginAsk_of_trimmable {n : Nat} {off : Int} (hmode : b.core.mode = .maintenance) (hlow : -600 ≤ off) (hhigh : off ≤ 600)
    (hn : n < 24) (hpop : (b.railRec n).populated = true) (htrim : (b.railRec n).vtrim = true) :
    b.marginAsk n off = ((b.marginApply n off).modSeq (fun q => { q with marginStatus := 0 }), .ok) := by
  unfold Dev.marginAsk
  dsimp only
  rw [if_neg (not_not.mpr hmode), if_neg (by simp [hlow, hhigh, hn, hpop, htrim])]

theorem kxMargin_of_trimmable {n : Nat} {off : Int} {d : Dev} (hask : b.marginAsk n off = (d, .ok)) (hn : n = leAt input 0 1)
    (hoff : off = sint16 (leAt input 2 2)) :
    b.kxMargin p input = d.kxEnd p 0xC050 .ok (leBytes 2 (twos16 d.seq.marginApplied) ++ [0, 0]) := by
  subst hn hoff
  simp only [Dev.kxMargin, hask, if_true]

/-- With no background command, no gather and no run of the training unit, a retraining starts in the background (R169). -/
theorem kxRetrain_of_idle (hmask : BitVec.ofNat 8 (leAt input 0 1) ≠ 0) (hbg : b.bgRunning = false) (hgather : b.trn.gather = none)
    (hpending : b.trn.pending = 0) (hphase : b.trn.phase = .idle ∨ b.trn.phase = .deferred) :
    b.kxRetrain p input =
      (((b.bgStart p 0xC051).modCore (fun c => { c with proxy := some p })).retrainStart (BitVec.ofNat 8 (leAt input 0 1))).trnSettle := by
  have hfree : ¬ (b.bgRunning || b.trn.gather.isSome || decide (b.trn.pending ≠ 0) ||
      !(b.trn.phase = .idle || b.trn.phase = .deferred)) = true := by
    simpa [hbg, hgather, hpending, or_iff_not_imp_left] using hphase
  unfold Dev.kxRetrain
  dsimp only
  rw [if_neg hmask, if_neg hfree]

end

/-! ### The obligations -/

/-- Settles O23: a ready mailbox serves each command, whose action is the completion with its output, or the refusal of its operands. -/
theorem mailboxQueriesAnswer : Obligations.mailbox_queries_answer := by
  intro ld s hready hld hmode
  refine ⟨?reports, ?log, ?events, ?health, ?poisonOutside, ?poisonInside⟩
  case reports =>
    intro c op out hc
    simp only [List.mem_cons, Prod.mk.injEq, List.not_mem_nil, or_false] at hc
    rcases hc with ⟨rfl, rfl, rfl⟩ | ⟨rfl, rfl, rfl⟩ | ⟨rfl, rfl, rfl⟩ | ⟨rfl, rfl, rfl⟩ | ⟨rfl, rfl, rfl⟩ | ⟨rfl, rfl, rfl⟩ |
      ⟨rfl, rfl, rfl⟩ | ⟨rfl, rfl, rfl⟩ | ⟨rfl, rfl, rfl⟩ | ⟨rfl, rfl, rfl⟩ | ⟨rfl, rfl, rfl⟩
    all_goals exact congrArg (fun d => Host.Outcome.next (s.put d)) (mbox_of_ready hready hld hmode _ _ _)
  case log =>
    intro uuid off len
    refine ⟨fun huuid hfits => ?_, fun huuid => ?_⟩
    · rw [exec_getLog, getLog_of_cel hready hld hmode huuid hfits]
    · rw [exec_getLog, getLog_of_other hready hld hmode off len huuid]
  case events =>
    rintro log l rfl
    refine ⟨fun hlog => ?_, fun hlog => ?_⟩
    · rw [exec_getEventRecords, getEventRecords_of_log hready hld hmode hlog, eventRecordsOutput]
    · rw [exec_getEventRecords, getEventRecords_of_no_log hready hld hmode hlog]
  case health =>
    intro temp d hd
    rw [exec_getHealthInfo, getHealthInfo_of_ready hready hld hmode hd, healthInfoOutput]
  case poisonOutside =>
    intro dpa len hpast
    rw [exec_getPoisonList, getPoisonList_outside hready hld hmode hpast]
  case poisonInside =>
    intro dpa len base runs hbase hruns hfits
    rw [exec_getPoisonList, getPoisonList_inside hready hld hmode hbase hruns hfits, poisonListOutput]

/-- Settles O24: a ready mailbox serves each command, with operands and a store that it takes. -/
theorem mailboxCommandsTakeEffect : Obligations.mailbox_commands_take_effect := by
  intro ld s hready hld hmode
  refine ⟨?timestamp, ?policy, ?clearAll, ?clearNamed, ?alerts, ?shutdown, ?setLsa, ?getLsa, ?poison, ?unsupported⟩
  case timestamp =>
    intro t
    rw [exec_setTimestamp, setTimestamp_of_ready hready hld hmode]
  case policy =>
    intro val hmodes
    rw [exec_setEventInterruptPolicy, setEventInterruptPolicy_of_supported hready hld hmode hmodes]
  case clearAll =>
    intro log handles hlog hovf
    rw [exec_clearEventRecords, clearEventRecords_all hready hld hmode handles hlog hovf]
    rfl
  case clearNamed =>
    intro log handles rs hlog hrs hnamed
    rw [exec_clearEventRecords, clearEventRecords_named hready hld hmode hlog hrs hnamed]
    rfl
  case alerts =>
    intro valid enable life hi lo vol pers hvalid henable hlife
    rw [exec_setAlertConfig, setAlertConfig_of_known hready hld hmode hi lo vol pers hvalid henable hlife]
    rfl
  case shutdown =>
    intro dirty hstore
    rw [exec_setShutdownState, setShutdownState_of_store hready hld hmode dirty hstore]
  case setLsa =>
    intro off data hfits hlen
    refine ⟨fun hstore => ?_, fun st hstore => ?_⟩
    · rw [exec_setLsa, setLsa_of_store hready hld hmode hfits hlen hstore, lsaWrite]
    · rw [exec_setLsa, setLsa_of_no_store hready hld hmode hfits hlen hstore]
  case getLsa =>
    intro off len d hfits hlen hstore hd hwhole
    rw [exec_getLsa, getLsa_of_store hready hld hmode hfits hlen hstore hd hwhole, lsaRead]
  case poison =>
    rintro dpa data damaged a hdpa husable rfl
    refine ⟨?_, ?_⟩
    · rw [exec_injectPoison, injectPoison, poisonCmd_of_usable hready hld hmode hdpa husable]
    · rw [exec_clearPoison, clearPoison, poisonCmd_of_usable hready hld hmode hdpa husable]
  case unsupported =>
    intro opcode
    rw [exec_unsupportedCommand, unsupportedCommand_of_ready hready hld hmode]

/-- Settles O25: an accepted command is served, and what serves each of the six is its event. -/
theorem kxModeCommandsTakeTheirEvent : Obligations.kx_mode_commands_take_their_event := by
  intro p input rest s b
  refine ⟨?event, ?cores⟩
  case event =>
    rintro c op x e hc hacc rfl hzero
    obtain ⟨hexec, hserve⟩ := exec_of_kx_mode_command hc hzero
    rw [hexec, kxCommand_of_accepts hacc, hserve, Dev.kxEvent]
  case cores =>
    rintro hacc rfl
    rw [exec_kxResetFw, kxCommand_of_accepts hacc, kxServe_reset_fw]

/-- Settles O26: an accepted report is served with its output. -/
theorem kxReportsAnswer : Obligations.kx_reports_answer := by
  intro p input s b
  refine ⟨?status, ?logRead, ?battery⟩
  case status =>
    rintro hacc rfl
    rw [exec_kxGetStatus, kxCommand_of_accepts hacc, Dev.kxServe, Dev.statusBytes]
  case logRead =>
    rintro first held rs need next hacc rfl hmin hmax hlog hstore hfirst hheld hfit hnext
    obtain rfl : next = logReadNext first held rs := hnext
    rw [exec_kxLogRead, kxCommand_of_accepts hacc, Dev.kxServe,
      kxLogRead_of_ready hmin hmax hlog hstore hfirst hheld hfit, logReadOutput]
  case battery =>
    rintro hacc rfl hactive
    rw [exec_kxBattStateGet, kxCommand_of_accepts hacc, Dev.kxServe, battGet_of_active hactive, kxPost]
    rfl

/-- Settles O27: an accepted command is served with what the gauge, the rail and the training unit do. -/
theorem kxMaintenanceCommandsTakeEffect : Obligations.kx_maintenance_commands_take_effect := by
  intro p input s b
  refine ⟨?put, ?margin, ?retrain⟩
  case put =>
    rintro hacc rfl
    refine ⟨fun st hno => ?_, fun r qf d hyes hpack hqf hd => ?_⟩
    · rw [exec_kxBattStatePut, kxCommand_of_accepts hacc, Dev.kxServe, battPut_of_refusal hno, kxPost, ite_self]
    · rw [exec_kxBattStatePut, kxCommand_of_accepts hacc, Dev.kxServe, battPut_of_pack hyes hpack hqf hd, kxPost, ite_self]
  case margin =>
    rintro n off d hacc rfl hn hoff hlow hhigh hrange hpop htrim rfl
    have hmode := mode_of_kxModeOk_margin (kxModeOk_of_accepts hacc)
    rw [exec_kxMargin, kxCommand_of_accepts hacc, Dev.kxServe,
      kxMargin_of_trimmable (marginAsk_of_trimmable hmode hlow hhigh hrange hpop htrim) hn hoff]
  case retrain =>
    rintro hacc rfl hmask hbg hgather hpending hphase
    rw [exec_kxDramRetrain, kxCommand_of_accepts hacc, Dev.kxServe, kxRetrain_of_idle hmask hbg hgather hpending hphase]

end Sys2Proof.Laws
end

section
/-!
PROOFS. The statement of chapter 8 on the fabric's clock and supply.
-/
namespace Sys2Proof.Laws
open Sys2Proof Sys2Proof.Machine

/-! ### What the commands run -/

theorem exec_tideWindow (counts : List Nat) (s : State) :
    exec (.tideWindow counts) s = .next (s.put (tideWindow counts s.dev).settle) := rfl
theorem exec_avsStep (s : State) : exec .avsStep s = .next (s.put (avsStep s.dev).settle) := rfl
theorem exec_fabStall (port : Fin 16) (phase : Fin 4) (s : State) :
    exec (.fabStall port phase) s = .next (s.put (fabStall port.val phase.val s.dev).settle) := rfl
theorem exec_tideExtremesClear (src : Src) (s : State) :
    exec (.tideExtremesClear src) s = .next (s.put (tideExtremesClear src s.dev)) := rfl

section
variable {s : Dev}

/-! ### A tide window ends (R186, R195) -/

/-- With the main segment up a window stores its gauges, then FAB_TIDE, then both extremes; a speed below the alert limit is latched
and logged. -/
theorem tideWindow_of_mainUp {counts speeds : List Nat} {speed : Nat} {a b c d : Dev} (hup : s.mainUp = true)
    (hspeeds : speeds = (List.range 5).map (fun n => s.gaugeSpeed n (counts.getD n 0))) (hspeed : speed = speeds.foldl min 4095)
    (ha : a = (List.range 5).foldl (fun s n => s.setRegN (Reg.FAB_TIDE_GAUGE + 4 * n)
      (speeds.getD n 0 + fieldAt 16 16 (min 65535 (counts.getD n 0)))) s.drew)
    (hb : b = a.setRegN Reg.FAB_TIDE (speed + fieldAt 12 3 (((List.range 5).find? (fun n => decide (speeds.getD n 0 = speed))).getD 0) +
      fieldAt 15 1 1 + fieldAt 16 16 ((a.regF Reg.FAB_TIDE 16 16 + 1) % 65536)))
    (hc : c = b.setRegF Reg.FAB_TIDE_EXTREMES 0 12 (min speed (b.regF Reg.FAB_TIDE_EXTREMES 0 12)))
    (hd : d = c.setRegF Reg.FAB_TIDE_EXTREMES 16 12 (max speed (c.regF Reg.FAB_TIDE_EXTREMES 16 12))) :
    tideWindow counts s =
      if speed < d.regF Reg.FAB_TIDE_CTL 16 12 then (d.latch Reg.FAB_ERR 1).logFab LT.FAB_SLOW else d := by
  have hlive : ¬ (!s.mainUp) = true := by simp [hup]
  subst hspeeds hspeed ha hb hc hd
  unfold tideWindow
  rw [if_neg hlive]

/-! ### A step of the adaptive loop (R190) -/

/-- The loop is in control of the core rail: the main segment is up, FAB_TIDE is VALID, EN is set, the calibration row is good (R293)
and no margin is applied to the rail (R345). -/
def AvsRuns (s : Dev) : Prop :=
  s.mainUp = true ∧ s.avsMargined = false ∧ s.regF Reg.FAB_TIDE 15 1 = 1 ∧ s.regF Reg.FAB_AVS 31 1 = 1 ∧ s.chtr.calValid = true

section
variable {mv target hyst speed : Nat} (hruns : AvsRuns s) (hmv : mv = s.regF Reg.FAB_AVS_STATUS 0 10)
  (htarget : target = clampN 768 1100 (s.regF Reg.FAB_AVS 0 12)) (hspeed : speed = s.regF Reg.FAB_TIDE 0 12)
include hruns hmv htarget hspeed

/-- A loop in control compares the tide's speed with TARGET and with TARGET plus HYST. -/
theorem avsStep_of_runs (hhyst : hyst = s.regF Reg.FAB_AVS 12 8) :
    avsStep s =
      if speed < target then
        if mv < 800 then s.requestCore (mv + 5) else (s.latch Reg.FAB_ERR 2).logFab LT.FAB_AVS_LIMIT
      else if target + hyst < speed && 700 < mv then s.requestCore (mv - 5)
      else s := by
  obtain ⟨hup, hfree, hvalid, hen, hcal⟩ := hruns
  have hlive : ¬ (!s.mainUp || s.avsMargined || s.regF Reg.FAB_TIDE 15 1 = 0) = true := by simp [hup, hfree, hvalid]
  have hadapts : ¬ (s.regF Reg.FAB_AVS 31 1 = 0 || !s.chtr.calValid) = true := by simp [hen, hcal]
  subst hmv htarget hspeed hhyst
  unfold avsStep
  rw [if_neg hlive]
  exact if_neg hadapts

theorem avsStep_of_slow (hslow : speed < target) (hroom : mv < 800) : avsStep s = s.requestCore (mv + 5) := by
  rw [avsStep_of_runs hruns hmv htarget hspeed rfl, if_pos hslow, if_pos hroom]

theorem avsStep_of_slow_at_limit (hslow : speed < target) (hlimit : 800 ≤ mv) :
    avsStep s = (s.latch Reg.FAB_ERR 2).logFab LT.FAB_AVS_LIMIT := by
  rw [avsStep_of_runs hruns hmv htarget hspeed rfl, if_pos hslow, if_neg (Nat.not_lt.mpr hlimit)]

theorem avsStep_of_fast (hhyst : hyst = s.regF Reg.FAB_AVS 12 8) (hfast : target + hyst < speed) (hroom : 700 < mv) :
    avsStep s = s.requestCore (mv - 5) := by
  have hlowers : (target + hyst < speed && 700 < mv) = true := by simp [hfast, hroom]
  rw [avsStep_of_runs hruns hmv htarget hspeed hhyst, if_neg (by omega), if_pos hlowers]

theorem avsStep_of_steady (hhyst : hyst = s.regF Reg.FAB_AVS 12 8) (hlow : target ≤ speed)
    (hstay : speed ≤ target + hyst ∨ mv ≤ 700) : avsStep s = s := by
  have hholds : ¬ (target + hyst < speed && 700 < mv) = true := by
    simp only [Bool.and_eq_true, decide_eq_true_eq]
    omega
  rw [avsStep_of_runs hruns hmv htarget hspeed hhyst, if_neg (Nat.not_lt.mpr hlow), if_neg hholds]

end

/-! ### A stall and the clearing of the extremes (R193, R195) -/

theorem fabStall_of_portLive {port : Nat} (phase : Nat) (hlive : s.portLive port = true) :
    fabStall port phase s = if port = 0 then (s.recordStall port phase).fwFault 3 else s.recordStall port phase := by
  have hon : ¬ (!s.portLive port) = true := by simp [hlive]
  unfold fabStall
  rw [if_neg hon]

theorem tideExtremesClear_of_accepts {src : Src} (hacc : s.accepts src Reg.FAB_TIDE_EXTREMES = true) :
    tideExtremesClear src s = (s.setRegN Reg.FAB_TIDE_EXTREMES 0xFFF).writeStatus src .ok :=
  guarded_of_accepts _ hacc

end

/-! ### The obligation -/

/-- Settles O37: the end of a window, the loop's step by where the speed and the rail stand, a stall and the clearing write. -/
theorem theFabricClockAdapts : Obligations.the_fabric_clock_adapts := by
  refine ⟨?window, ?loop, ?stall, ?clear⟩
  case window =>
    intro counts speeds speed s a b d hup hspeeds hspeed ha hb hd
    rw [exec_tideWindow, tideWindow_of_mainUp hup hspeeds hspeed ha hb rfl hd]
  case loop =>
    intro mv target hyst speed s hup hfree hvalid hen hcal hmv htarget hhyst hspeed
    have hruns : AvsRuns s.dev := ⟨hup, hfree, hvalid, hen, hcal⟩
    refine ⟨fun hslow hroom => ?raises, fun hslow hlimit => ?atLimit, fun hfast hroom => ?lowers, fun hlow hstay => ?holds⟩
    case raises => rw [exec_avsStep, avsStep_of_slow hruns hmv htarget hspeed hslow hroom]
    case atLimit => rw [exec_avsStep, avsStep_of_slow_at_limit hruns hmv htarget hspeed hslow hlimit]
    case lowers => rw [exec_avsStep, avsStep_of_fast hruns hmv htarget hspeed hhyst hfast hroom]
    case holds => rw [exec_avsStep, avsStep_of_steady hruns hmv htarget hspeed hhyst hlow hstay]
  case stall =>
    intro port phase s hlive
    rw [exec_fabStall, fabStall_of_portLive phase.val hlive]
  case clear =>
    intro src s hacc
    rw [exec_tideExtremesClear, tideExtremesClear_of_accepts hacc]

end Sys2Proof.Laws
end

section
/-!
PROOFS. The symbol code of DRAM (chapter 9): a code over GF(16) of ten stored symbols and a virtual one.
-/
namespace Sys2Proof.Laws
open Sys2Proof Sys2Proof.Machine

/-! ### GF(16) -/

/-- A product is a symbol. -/
theorem gfMul_lt (x y : Nat) : gfMul x y < 16 := by
  have hexp : ∀ i, gfExp i < 16 := fun i => by
    rw [show gfExp i = gfExp (i % 15) by simp [gfExp]]
    exact (by decide : ∀ i < 15, gfExp i < 16) (i % 15) (Nat.mod_lt i (by decide))
  unfold gfMul
  split
  · decide
  · exact hexp _

/-- Multiplication by the weight of a symbol is linear. -/
theorem gfMul_xor {i x y : Nat} (hi : i < 11) (hx : x < 16) (hy : y < 16) :
    gfMul (gfExp i) (x ^^^ y) = gfMul (gfExp i) x ^^^ gfMul (gfExp i) y := by
  have h : ∀ (i : Fin 11) (x y : Fin 16),
      gfMul (gfExp i.val) (x.val ^^^ y.val) = gfMul (gfExp i.val) x.val ^^^ gfMul (gfExp i.val) y.val := by decide
  exact h ⟨i, hi⟩ ⟨x, hx⟩ ⟨y, hy⟩

/-- The quotient of the syndromes of one symbol in error gives its place. -/
theorem gfLog_quotient {j e : Nat} (hj : j < 11) (he : e < 16) (hne : e ≠ 0) :
    gfMul (gfExp j) e ≠ 0 ∧ gfLog (gfDiv (gfMul (gfExp j) e) e) = j := by
  have h : ∀ (j : Fin 11) (e : Fin 16), e.val ≠ 0 →
      gfMul (gfExp j.val) e.val ≠ 0 ∧ gfLog (gfDiv (gfMul (gfExp j.val) e.val) e.val) = j.val := by decide
  exact h ⟨j, hj⟩ ⟨e, he⟩ hne

/-- The check symbols 8 and 9 that give a wanted sum a and weighted sum b (R212). -/
theorem check_symbols {a b : Nat} (ha : a < 16) (hb : b < 16) :
    gfDiv (b ^^^ gfMul (gfExp 9) a) (gfExp 12) < 16 ∧
    gfMul (gfExp 8) (gfDiv (b ^^^ gfMul (gfExp 9) a) (gfExp 12)) ^^^
      gfMul (gfExp 9) (a ^^^ gfDiv (b ^^^ gfMul (gfExp 9) a) (gfExp 12)) = b := by
  have h : ∀ a b : Fin 16, gfDiv (b.val ^^^ gfMul (gfExp 9) a.val) (gfExp 12) < 16 ∧
      gfMul (gfExp 8) (gfDiv (b.val ^^^ gfMul (gfExp 9) a.val) (gfExp 12)) ^^^
        gfMul (gfExp 9) (a.val ^^^ gfDiv (b.val ^^^ gfMul (gfExp 9) a.val) (gfExp 12)) = b.val := by decide
  exact h ⟨a, ha⟩ ⟨b, hb⟩

/-! ### Syndromes (R212) -/

/-- The sum of the first n values of f in GF(16). -/
def xorSum (f : Nat → Nat) : Nat → Nat
  | 0 => 0
  | n + 1 => xorSum f n ^^^ f n

theorem xorSum_zero (f : Nat → Nat) : xorSum f 0 = 0 := rfl
theorem xorSum_succ (f : Nat → Nat) (n : Nat) : xorSum f (n + 1) = xorSum f n ^^^ f n := rfl

theorem xorSum_congr {f g : Nat → Nat} {n : Nat} (h : ∀ i < n, f i = g i) : xorSum f n = xorSum g n := by
  induction n with
  | zero => rfl
  | succ n ih => simp only [xorSum_succ, ih fun i hi => h i (by omega), h n (by omega)]

theorem xorSum_xor (f g : Nat → Nat) (n : Nat) : xorSum (fun i => f i ^^^ g i) n = xorSum f n ^^^ xorSum g n := by
  induction n with
  | zero => simp [xorSum_zero]
  | succ n ih =>
    simp only [xorSum_succ, ih]
    rw [Nat.xor_assoc, Nat.xor_left_comm _ (f n), ← Nat.xor_assoc]

theorem xorSum_lt {f : Nat → Nat} (h : ∀ i, f i < 16) (n : Nat) : xorSum f n < 16 := by
  induction n with
  | zero => exact Nat.succ_pos 15
  | succ n ih => exact Nat.xor_lt_two_pow (n := 4) ih (h n)

/-- A stored symbol of a beat. -/
def symbol (beat i : Nat) : Nat := bitsOf beat (4 * i) 4

/-- A stored symbol of a beat with its weight in the second sum of R212. -/
def weighted (beat i : Nat) : Nat := gfMul (gfExp i) (symbol beat i)

theorem symbol_lt (beat i : Nat) : symbol beat i < 16 := Nat.mod_lt _ (by decide)

theorem symbol_xor (x y i : Nat) : symbol (x ^^^ y) i = symbol x i ^^^ symbol y i := by
  simp only [symbol, bitsOf, Nat.xor_div_two_pow, Nat.xor_mod_two_pow]

theorem weighted_xor (x y : Nat) {i : Nat} (hi : i < 10) : weighted (x ^^^ y) i = weighted x i ^^^ weighted y i := by
  rw [weighted, symbol_xor, gfMul_xor (by omega) (symbol_lt x i) (symbol_lt y i), weighted, weighted]

theorem syndromes_eq (beat : Nat) : syndromes beat = (xorSum (symbol beat) 10, xorSum (weighted beat) 10) := rfl

theorem syndromes_lt (beat : Nat) : (syndromes beat).1 < 16 ∧ (syndromes beat).2 < 16 := by
  rw [syndromes_eq]
  exact ⟨xorSum_lt (symbol_lt beat) 10, xorSum_lt (fun _ => gfMul_lt _ _) 10⟩

/-- The syndromes are linear in the beat. -/
theorem syndromes_xor (x y : Nat) :
    syndromes (x ^^^ y) = ((syndromes x).1 ^^^ (syndromes y).1, (syndromes x).2 ^^^ (syndromes y).2) := by
  simp only [syndromes_eq]
  rw [← xorSum_xor, ← xorSum_xor, xorSum_congr (fun i _ => symbol_xor x y i), xorSum_congr (fun i hi => weighted_xor x y hi)]

/-- The syndromes of bits turned over in one symbol. -/
theorem syndromes_symbol {j e : Nat} (hj : j < 10) (he : e < 16) : syndromes (e * 2 ^ (4 * j)) = (e, gfMul (gfExp j) e) := by
  have h : ∀ (j : Fin 10) (e : Fin 16), syndromes (e.val * 2 ^ (4 * j.val)) = (e.val, gfMul (gfExp j.val) e.val) := by decide
  exact h ⟨j, hj⟩ ⟨e, he⟩

/-- Data bits with the check symbols u and v have the symbols of the data below, and u and v. -/
theorem symbol_beat {d u v : Nat} (hd : d < 2 ^ 32) (hu : u < 16) (hv : v < 16) :
    (∀ i < 8, symbol (d + 2 ^ 32 * u + 2 ^ 36 * v) i = symbol d i) ∧ symbol (d + 2 ^ 32 * u + 2 ^ 36 * v) 8 = u ∧
      symbol (d + 2 ^ 32 * u + 2 ^ 36 * v) 9 = v := by
  simp only [symbol, bitsOf]
  refine ⟨fun i hi => ?_, by omega, by omega⟩
  interval_cases i <;> omega

/-- The syndromes of data bits alone are those of their eight symbols. -/
theorem syndromes_data {d : Nat} (hd : d < 2 ^ 32) : syndromes d = (xorSum (symbol d) 8, xorSum (weighted d) 8) := by
  have h8 : symbol d 8 = 0 := by simp only [symbol, bitsOf]; omega
  have h9 : symbol d 9 = 0 := by simp only [symbol, bitsOf]; omega
  simp [syndromes_eq, xorSum, weighted, h8, h9, gfMul]

/-- The syndromes of data bits with two check symbols. -/
theorem syndromes_beat {d u v : Nat} (hd : d < 2 ^ 32) (hu : u < 16) (hv : v < 16) :
    syndromes (d + 2 ^ 32 * u + 2 ^ 36 * v) =
      ((syndromes d).1 ^^^ (u ^^^ v), (syndromes d).2 ^^^ (gfMul (gfExp 8) u ^^^ gfMul (gfExp 9) v)) := by
  obtain ⟨hlow, h8, h9⟩ := symbol_beat hd hu hv
  have hweighted : ∀ i < 8, weighted (d + 2 ^ 32 * u + 2 ^ 36 * v) i = weighted d i :=
    fun i hi => congrArg (gfMul (gfExp i)) (hlow i hi)
  rw [syndromes_data hd, syndromes_eq]
  simp only [xorSum_succ _ 9, xorSum_succ _ 8, xorSum_congr hlow, xorSum_congr hweighted, Nat.xor_assoc]
  simp only [weighted, h8, h9]

/-- A beat is its data bits with the check symbols that the sums a and b of R212 ask for. -/
theorem encodeBeat_eq {poison : Bool} {data a b : Nat} (ha : a = (syndromes (data % 2 ^ 32)).1 ^^^ b2n poison)
    (hb : b = (syndromes (data % 2 ^ 32)).2 ^^^ gfMul (gfExp 10) (b2n poison)) :
    encodeBeat poison data = data % 2 ^ 32 + 2 ^ 32 * gfDiv (b ^^^ gfMul (gfExp 9) a) (gfExp 12) +
      2 ^ 36 * (a ^^^ gfDiv (b ^^^ gfMul (gfExp 9) a) (gfExp 12)) := by
  subst ha hb
  unfold encodeBeat
  generalize syndromes (data % 2 ^ 32) = p
  rfl

/-- An encoded beat's syndromes are those of the virtual symbol 10: none for data, those of 0x1 for the poison mark. -/
theorem syndromes_encodeBeat (poison : Bool) (data : Nat) :
    syndromes (encodeBeat poison data) = (b2n poison, gfMul (gfExp 10) (b2n poison)) := by
  obtain ⟨a, ha⟩ := exists_eq (a' := (syndromes (data % 2 ^ 32)).1 ^^^ b2n poison)
  obtain ⟨b, hb⟩ := exists_eq (a' := (syndromes (data % 2 ^ 32)).2 ^^^ gfMul (gfExp 10) (b2n poison))
  obtain ⟨hlt, hlt'⟩ := syndromes_lt (data % 2 ^ 32)
  have ha16 : a < 16 := ha ▸ Nat.xor_lt_two_pow (n := 4) hlt (by cases poison <;> decide)
  have hb16 : b < 16 := hb ▸ Nat.xor_lt_two_pow (n := 4) hlt' (gfMul_lt _ _)
  obtain ⟨hs8, hsum⟩ := check_symbols ha16 hb16
  rw [encodeBeat_eq ha hb, syndromes_beat (Nat.mod_lt _ (by decide)) hs8 (Nat.xor_lt_two_pow (n := 4) ha16 hs8), hsum,
    Nat.xor_comm a, Nat.xor_xor_cancel_left, ha, hb, Nat.xor_xor_cancel_left, Nat.xor_xor_cancel_left]

/-- An encoded beat holds its data bits. -/
theorem encodeBeat_mod (poison : Bool) (data : Nat) : encodeBeat poison data % 2 ^ 32 = data % 2 ^ 32 := by
  rw [encodeBeat_eq rfl rfl]
  omega

/-! ### A beat's class (R213) -/

/-- The class of a beat by its syndromes. -/
theorem classify_eq (beat : Nat) : classify beat =
    if (syndromes beat).1 = 0 ∧ (syndromes beat).2 = 0 then .clean
    else if (syndromes beat).1 = 0 ∨ (syndromes beat).2 = 0 then .invalid
    else if gfLog (gfDiv (syndromes beat).2 (syndromes beat).1) ≤ 10 then
      .pos (gfLog (gfDiv (syndromes beat).2 (syndromes beat).1)) (syndromes beat).1
    else .invalid := by
  simp only [classify, Bool.and_eq_true, Bool.or_eq_true, decide_eq_true_eq]

/-- Syndromes of one symbol, the virtual one among them. -/
theorem classify_of_symbol {beat j e : Nat} (hj : j < 11) (he : e < 16) (h : syndromes beat = (e, gfMul (gfExp j) e)) :
    classify beat = if e = 0 then .clean else .pos j e := by
  rw [classify_eq, h]
  by_cases hne : e = 0
  · simp [hne, gfMul]
  · obtain ⟨hne', hlog⟩ := gfLog_quotient hj he hne
    simp [hne, hne', hlog, show j ≤ 10 by omega]

/-- An error in one stored symbol of a data beat. -/
theorem classify_data_beat {data j e : Nat} (hj : j < 10) (he : e < 16) :
    classify (encodeBeat false data ^^^ e * 2 ^ (4 * j)) = if e = 0 then .clean else .pos j e := by
  refine classify_of_symbol (by omega) he ?_
  simp [syndromes_xor, syndromes_encodeBeat, syndromes_symbol hj he, b2n, gfMul]

/-- A poison beat. -/
theorem classify_poison_beat (data : Nat) : classify (encodeBeat true data) = .pos 10 1 :=
  classify_of_symbol (e := 1) (by decide) (by decide) (syndromes_encodeBeat true data)

/-- A poison beat with an error in a stored symbol is neither clean nor a poison beat: its first syndrome is not the mark, and both
are zero for no error. -/
theorem classify_poison_beat_in_error {data j e : Nat} (hj : j < 10) (he : e < 16) (hne : e ≠ 0) :
    classify (encodeBeat true data ^^^ e * 2 ^ (4 * j)) ≠ .clean ∧ classify (encodeBeat true data ^^^ e * 2 ^ (4 * j)) ≠ .pos 10 1 := by
  have hsyn : syndromes (encodeBeat true data ^^^ e * 2 ^ (4 * j)) = (1 ^^^ e, gfMul (gfExp 10) 1 ^^^ gfMul (gfExp j) e) := by
    simp [syndromes_xor, syndromes_encodeBeat, syndromes_symbol hj he, b2n]
  have hfirst : 1 ^^^ e ≠ 1 := fun h => hne (Nat.xor_right_inj.mp (h.trans (Nat.xor_zero 1).symm))
  have hboth : 1 ^^^ e = 0 → gfMul (gfExp 10) 1 ^^^ gfMul (gfExp j) e ≠ 0 := by
    have h : ∀ (j : Fin 10) (e : Fin 16), 1 ^^^ e.val = 0 → gfMul (gfExp 10) 1 ^^^ gfMul (gfExp j.val) e.val ≠ 0 := by decide
    exact h ⟨j, hj⟩ ⟨e, he⟩
  rw [classify_eq, hsyn]
  constructor
  · rw [if_neg fun h => hboth h.1 h.2]
    split_ifs <;> exact Beat.noConfusion
  · split_ifs <;> simp [hfirst]

/-! ### A burst's class (R213) -/

/-- Beats that are all clean. -/
theorem decodeBurst_of_clean {beats : List Nat} (h : ∀ b ∈ beats, classify b = .clean) :
    decodeBurst beats = .correct (lineOfBeats beats) := by
  unfold decodeBurst
  exact if_pos (by simpa using h)

/-- Beats that all bear the poison mark. -/
theorem decodeBurst_of_poison {beats : List Nat} (hsome : beats ≠ []) (h : ∀ b ∈ beats, classify b = .pos 10 1) :
    decodeBurst beats = .poisoned := by
  obtain ⟨b, hb⟩ := List.exists_mem_of_ne_nil _ hsome
  have hdirty : ¬ (beats.map classify).all (fun c => decide (c = .clean)) = true := by
    simp only [List.all_map, List.all_eq_true, Function.comp, decide_eq_true_eq]
    exact fun hc => by simpa [h b hb] using hc b hb
  unfold decodeBurst
  rw [if_neg hdirty]
  exact if_pos (by simpa using h)

/-- A beat with the error of one symbol taken off (R213). -/
def restored (j beat : Nat) : Nat :=
  match classify beat with
  | .pos _ e => beat ^^^ e * 2 ^ (4 * j)
  | _ => beat

theorem restored_of_clean {j beat : Nat} (h : classify beat = .clean) : restored j beat = beat := by simp only [restored, h]

theorem restored_of_pos {j k e beat : Nat} (h : classify beat = .pos k e) : restored j beat = beat ^^^ e * 2 ^ (4 * j) := by
  simp only [restored, h]

/-- Beats of which some bear errors, all of them in the symbol of one component. -/
theorem decodeBurst_of_component {beats : List Nat} {j : Nat} (hj : j ≤ 9)
    (hall : ∀ b ∈ beats, classify b = .clean ∨ ∃ e, classify b = .pos j e) (herr : ∃ b ∈ beats, classify b ≠ .clean) :
    decodeBurst beats = .corrected j (lineOfBeats (beats.map (restored j))) := by
  obtain ⟨b, hb, hne⟩ := herr
  have hunmarked : classify b ≠ .pos 10 1 := by
    rcases hall b hb with h | ⟨e, h⟩
    · exact absurd h hne
    · rw [h]
      exact fun hc => by injection hc; omega
  have hdirty : ¬ (beats.map classify).all (fun c => decide (c = .clean)) = true := by
    simpa using ⟨b, hb, hne⟩
  have hmixed : ¬ (beats.map classify).all (fun c => decide (c = .pos 10 1)) = true := by
    simpa using ⟨b, hb, hunmarked⟩
  have hfirst : ∃ e, (beats.map classify).find? (fun c => decide (c ≠ .clean)) = some (.pos j e) := by
    cases hfind : (beats.map classify).find? (fun c => decide (c ≠ .clean)) with
    | none => exact absurd (List.find?_eq_none.mp hfind _ (List.mem_map_of_mem hb)) (by simpa using hne)
    | some c =>
      obtain ⟨x, hx, rfl⟩ := List.mem_map.mp (List.mem_of_find?_eq_some hfind)
      have hclass : classify x ≠ .clean := by simpa using List.find?_some hfind
      obtain ⟨e, he⟩ := (hall x hx).resolve_left hclass
      exact ⟨e, congrArg some he⟩
  obtain ⟨e, hfirst⟩ := hfirst
  unfold decodeBurst
  dsimp only
  rw [if_neg hdirty, if_neg hmixed, hfirst]
  refine if_pos ?_
  simp only [hj, decide_true, Bool.true_and, List.all_map, List.all_eq_true, Function.comp]
  intro x hx
  rcases hall x hx with h | ⟨e, h⟩ <;> simp [h]

/-- A poison mark beside a beat that is neither clean nor marked. -/
theorem decodeBurst_of_broken_poison {beats : List Nat} (hclean : ∀ b ∈ beats, classify b ≠ .clean)
    (hmark : ∃ b ∈ beats, classify b = .pos 10 1) (hbroken : ∃ b ∈ beats, classify b ≠ .pos 10 1) :
    decodeBurst beats = .uncorrectable := by
  obtain ⟨m, hm, hmark⟩ := hmark
  obtain ⟨b, hb, hne⟩ := hbroken
  have hdirty : ¬ (beats.map classify).all (fun c => decide (c = .clean)) = true := by
    simpa using ⟨m, hm, hclean m hm⟩
  have hmixed : ¬ (beats.map classify).all (fun c => decide (c = .pos 10 1)) = true := by
    simpa using ⟨b, hb, hne⟩
  unfold decodeBurst
  dsimp only
  rw [if_neg hdirty, if_neg hmixed]
  split
  · next j e hfirst =>
    refine if_neg fun hone => ?_
    simp only [Bool.and_eq_true, decide_eq_true_eq, List.all_map, List.all_eq_true, Function.comp] at hone
    have hplace := hone.2 m hm
    simp only [hmark, decide_eq_true_eq] at hplace
    omega
  · rfl

/-! ### A line's burst (R212, R213) -/

/-- The beat that DRAM holds for a line. -/
def storedBeat (s : Dev) (a b : Nat) : Nat :=
  if s.linePoisoned a then encodeBeat true 0 else encodeBeat false (bitsOf (s.readLine a).toNat (32 * b) 32)

/-- A burst is the sixteen stored beats, each with the bits that were turned over. -/
theorem captureBurst_eq (s : Dev) (a : Nat) (err : List (BitVec 40)) :
    s.captureBurst a err = decodeBurst ((List.range 16).map fun b => storedBeat s a b ^^^ (err.getD b 0).toNat) := by
  refine congrArg decodeBurst (List.ext_getElem (by simp [Dev.beatsOf]) fun i _ _ => ?_)
  simp [Dev.beatsOf, storedBeat]

/-- The bits of a 4-bit error in a component's symbol. -/
theorem toNat_symbol_error {j : Nat} (hj : j < 10) (e : BitVec 4) : ((e.setWidth 40 : BitVec 40) <<< (4 * j)).toNat = e.toNat * 2 ^ (4 * j) := by
  have hlt : e.toNat * 2 ^ (4 * j) < 2 ^ 40 := by
    calc e.toNat * 2 ^ (4 * j) < 2 ^ 4 * 2 ^ (4 * j) := Nat.mul_lt_mul_of_pos_right e.isLt (Nat.two_pow_pos _)
      _ = 2 ^ (4 + 4 * j) := (Nat.pow_add 2 4 (4 * j)).symm
      _ ≤ 2 ^ 40 := Nat.pow_le_pow_right (by decide) (by omega)
  rw [BitVec.toNat_shiftLeft, BitVec.toNat_setWidth, Nat.mod_eq_of_lt (e.isLt.trans (by decide)), Nat.shiftLeft_eq,
    Nat.mod_eq_of_lt hlt]

/-- A burst with errors in the symbol of one component. -/
theorem captureBurst_symbol (s : Dev) (a : Nat) {j : Nat} (hj : j < 10) (es : List (BitVec 4)) :
    s.captureBurst a (es.map fun e => (e.setWidth 40 : BitVec 40) <<< (4 * j)) =
      decodeBurst ((List.range 16).map fun b => storedBeat s a b ^^^ (es.getD b 0).toNat * 2 ^ (4 * j)) := by
  rw [captureBurst_eq]
  congr 1
  refine List.map_congr_left fun b _ => ?_
  rw [← toNat_symbol_error hj, ← List.getD_map es 0 (fun e : BitVec 4 => (e.setWidth 40 : BitVec 40) <<< (4 * j))]
  simp

/-- Consecutive beats of a line give back its bits. -/
theorem foldr_beats (d k n : Nat) :
    ((List.range' k n).map fun b => encodeBeat false (bitsOf d (32 * b) 32)).foldr (fun b acc => b % 2 ^ 32 + 2 ^ 32 * acc) 0 =
      bitsOf d (32 * k) (32 * n) := by
  induction n generalizing k with
  | zero => simp [bitsOf, Nat.mod_one]
  | succ n ih =>
    rw [List.range'_succ, List.map_cons, List.foldr_cons, ih, encodeBeat_mod]
    simp only [bitsOf]
    rw [Nat.mod_mod, show 32 * (n + 1) = 32 + 32 * n by ring, Nat.pow_add, Nat.mod_mul, Nat.div_div_eq_div_mul, ← Nat.pow_add]
    rfl

/-- The sixteen beats of a line give back the line. -/
theorem lineOfBeats_encoded (d : Line) :
    lineOfBeats ((List.range 16).map fun b => encodeBeat false (bitsOf d.toNat (32 * b) 32)) = d := by
  rw [lineOfBeats, List.range_eq_range', foldr_beats, bitsOf, Nat.mul_zero, Nat.pow_zero, Nat.div_one, Nat.mod_eq_of_lt d.isLt,
    BitVec.ofNat_toNat, BitVec.setWidth_eq]

/-- The beats that are stored for a line which is not poisoned give back the line. -/
theorem lineOfBeats_stored {s : Dev} {a : Nat} (h : s.linePoisoned a = false) :
    lineOfBeats ((List.range 16).map (storedBeat s a)) = s.readLine a := by
  rw [← lineOfBeats_encoded (s.readLine a)]
  congr 1
  exact List.map_congr_left fun b _ => by simp [storedBeat, h]

/-- A burst without errors. -/
theorem captureBurst_of_no_errors (s : Dev) (a : Nat) :
    s.captureBurst a [] = if s.linePoisoned a = true then .poisoned else .correct (s.readLine a) := by
  have hstored : s.captureBurst a [] = decodeBurst ((List.range 16).map (storedBeat s a)) := by
    simp [captureBurst_eq]
  rw [hstored]
  split
  · next hp => exact decodeBurst_of_poison (by simp) (by simp [storedBeat, hp, classify_poison_beat])
  · next hp =>
    simp only [Bool.not_eq_true] at hp
    rw [decodeBurst_of_clean, lineOfBeats_stored hp]
    intro b hb
    obtain ⟨i, _, rfl⟩ := List.mem_map.mp hb
    simpa [storedBeat, hp] using classify_data_beat (data := bitsOf (s.readLine a).toNat (32 * i) 32) (j := 0) (e := 0) (by decide) (by decide)

section
variable {s : Dev} {a j : Nat} {es : List (BitVec 4)}

/-- An error among the sixteen beats, by its place. -/
theorem exists_error_of_mem (hlen : es.length = 16) {e : BitVec 4} (he : e ∈ es) : ∃ b ∈ List.range 16, es.getD b 0 = e := by
  obtain ⟨b, hb, rfl⟩ := List.getElem_of_mem he
  exact ⟨b, List.mem_range.mpr (hlen ▸ hb), List.getD_eq_getElem es 0 hb⟩

/-- Errors in one component's symbol of a line that is not poisoned are taken off. -/
theorem captureBurst_of_component (hp : s.linePoisoned a = false) (hj : j < 10) (hlen : es.length = 16) (herr : ∃ e ∈ es, e ≠ 0) :
    s.captureBurst a (es.map fun e => (e.setWidth 40 : BitVec 40) <<< (4 * j)) = .corrected j (s.readLine a) := by
  have hclass : ∀ b, classify (storedBeat s a b ^^^ (es.getD b 0).toNat * 2 ^ (4 * j)) =
      if (es.getD b 0).toNat = 0 then .clean else .pos j (es.getD b 0).toNat := fun b => by
    simpa [storedBeat, hp] using classify_data_beat hj (es.getD b 0).isLt
  obtain ⟨e, he, hne⟩ := herr
  obtain ⟨b, hb, rfl⟩ := exists_error_of_mem hlen he
  rw [captureBurst_symbol s a hj, decodeBurst_of_component (j := j) (by omega) ?sameSymbol ⟨_, List.mem_map_of_mem hb, ?inError⟩,
    ← lineOfBeats_stored hp, List.map_map]
  case sameSymbol =>
    intro x hx
    obtain ⟨i, _, rfl⟩ := List.mem_map.mp hx
    rw [hclass]
    split
    · exact .inl rfl
    · exact .inr ⟨_, rfl⟩
  case inError =>
    have hbits : (es.getD b 0).toNat ≠ 0 := fun h => hne (BitVec.eq_of_toNat_eq h)
    rw [hclass, if_neg hbits]
    exact Beat.noConfusion
  congr 2
  refine List.map_congr_left fun i _ => ?_
  by_cases hz : (es.getD i 0).toNat = 0
  · exact (restored_of_clean ((hclass i).trans (if_pos hz))).trans (by rw [hz, Nat.zero_mul, Nat.xor_zero])
  · exact (restored_of_pos ((hclass i).trans (if_neg hz))).trans (Nat.xor_xor_cancel_right _ _)

/-- Errors in one component's symbol of some beats of a poisoned line leave neither a line nor the mark. -/
theorem captureBurst_of_broken_poison (hp : s.linePoisoned a = true) (hj : j < 10) (hlen : es.length = 16) (herr : ∃ e ∈ es, e ≠ 0)
    (hwhole : 0 ∈ es) :
    s.captureBurst a (es.map fun e => (e.setWidth 40 : BitVec 40) <<< (4 * j)) = .uncorrectable := by
  have hbeat : ∀ b, storedBeat s a b = encodeBeat true 0 := fun b => if_pos hp
  have hbroken : ∀ b, es.getD b 0 ≠ 0 → classify (encodeBeat true 0 ^^^ (es.getD b 0).toNat * 2 ^ (4 * j)) ≠ .clean ∧
      classify (encodeBeat true 0 ^^^ (es.getD b 0).toNat * 2 ^ (4 * j)) ≠ .pos 10 1 := fun b hb =>
    classify_poison_beat_in_error hj (es.getD b 0).isLt fun h => hb (BitVec.eq_of_toNat_eq h)
  have hmarked : ∀ b, es.getD b 0 = 0 → classify (encodeBeat true 0 ^^^ (es.getD b 0).toNat * 2 ^ (4 * j)) = .pos 10 1 := fun b hb => by
    rw [hb]
    simpa using classify_poison_beat 0
  obtain ⟨e, he, hne⟩ := herr
  obtain ⟨b, hb, rfl⟩ := exists_error_of_mem hlen he
  obtain ⟨m, hm, hzero⟩ := exists_error_of_mem hlen hwhole
  simp only [captureBurst_symbol s a hj, hbeat]
  refine decodeBurst_of_broken_poison ?_ ⟨_, List.mem_map_of_mem hm, hmarked m hzero⟩ ⟨_, List.mem_map_of_mem hb, (hbroken b hne).2⟩
  intro x hx
  obtain ⟨i, _, rfl⟩ := List.mem_map.mp hx
  by_cases hz : es.getD i 0 = 0
  · rw [hmarked i hz]
    exact Beat.noConfusion
  · exact (hbroken i hz).1

end

/-! ### The obligation -/

/-- Settles O5: a beat's syndromes are the sum of the code word's and the error's, so each beat's class is the error's own. -/
theorem theSymbolCodeCorrectsAComponent : Obligations.the_symbol_code_corrects_a_component := by
  intro s a
  refine ⟨captureBurst_of_no_errors s a, ?_⟩
  rintro j es _ hlen rfl herr
  exact ⟨fun hp => captureBurst_of_component hp j.isLt hlen herr, fun hp hwhole => captureBurst_of_broken_poison hp j.isLt hlen herr hwhole⟩

end Sys2Proof.Laws
end

section
/-!
PROOFS. The address map and the bank queues of chapter 9.
-/
namespace Sys2Proof.Laws
open Sys2Proof Sys2Proof.Machine

/-! ### Table 9-2 (R198) -/

theorem bitsOf_lt (v lo w : Nat) : bitsOf v lo w < 2 ^ w := Nat.mod_lt _ (Nat.two_pow_pos w)

/-- The bits of an address from bit 6 up are those of its line. -/
theorem div_two_pow_of_line {a b lo : Nat} (h : a / 64 = b / 64) (hlo : 6 ≤ lo) : a / 2 ^ lo = b / 2 ^ lo := by
  obtain ⟨k, rfl⟩ := Nat.exists_eq_add_of_le hlo
  rw [Nat.pow_add, ← Nat.div_div_eq_div_mul, ← Nat.div_div_eq_div_mul]
  exact congrArg (· / 2 ^ k) h

theorem bitsOf_of_line {a b lo : Nat} (w : Nat) (h : a / 64 = b / 64) (hlo : 6 ≤ lo) : bitsOf a lo w = bitsOf b lo w := by
  rw [bitsOf, bitsOf, div_two_pow_of_line h hlo]

/-- Addresses in one line have the same fields. -/
theorem dramSplit_of_line {a b : Nat} (order rb : Nat) (h : a / 64 = b / 64) : dramSplit order rb a = dramSplit order rb b := by
  have hbits : ∀ lo w, 6 ≤ lo → bitsOf a lo w = bitsOf b lo w := fun lo w => bitsOf_of_line w h
  have hrow : a / 2 ^ (21 + rb) = b / 2 ^ (21 + rb) := div_two_pow_of_line h (by omega)
  unfold dramSplit
  split <;> simp (disch := omega) only [hbits, hrow]

/-- The line that the fields of Table 9-2 name. -/
def dramJoin (order rb : Nat) (d : DramAddr) : Nat :=
  match order with
  | 0 => d.sc + 8 * d.bg + 64 * d.ba + 256 * (d.rk + 2 ^ rb * (d.col + 128 * d.row))
  | 1 => d.col + 128 * d.sc + 1024 * d.bg + 8192 * d.ba + 32768 * (d.rk + 2 ^ rb * d.row)
  | 2 => d.col % 4 + 4 * d.sc + 32 * d.bg + 256 * (d.col / 4) + 8192 * d.ba + 32768 * (d.rk + 2 ^ rb * d.row)
  | _ => d.rk + 2 ^ rb * (d.sc + 8 * d.bg + 64 * d.col + 8192 * d.ba + 32768 * d.row)

/-- The fields of an address name its line. -/
theorem dramJoin_dramSplit {order rb : Nat} (a : Nat) (horder : order < 4) (hrb : rb < 2) : dramJoin order rb (dramSplit order rb a) = a / 64 := by
  interval_cases order <;> interval_cases rb <;> simp only [dramJoin, dramSplit, bitsOf] <;> omega

/-- The fields of Table 9-2 in their ranges. -/
structure FieldsInRange (d : DramAddr) : Prop where
  sc : d.sc < 8
  rk : d.rk < 2
  bg : d.bg < 8
  ba : d.ba < 4
  col : d.col < 128

theorem dramSplit_inRange {order rb : Nat} (a : Nat) (horder : order < 4) (hrb : rb < 2) : FieldsInRange (dramSplit order rb a) := by
  have hrk : ∀ lo, bitsOf a lo rb < 2 := fun lo =>
    (bitsOf_lt a lo rb).trans_le (Nat.pow_le_pow_right (by decide) (Nat.le_of_lt_succ hrb))
  have h7 : ∀ lo, bitsOf a lo 7 < 128 := fun lo => bitsOf_lt a lo 7
  have h3 : ∀ lo, bitsOf a lo 3 < 8 := fun lo => bitsOf_lt a lo 3
  have h2 : ∀ lo, bitsOf a lo 2 < 4 := fun lo => bitsOf_lt a lo 2
  have hsplit : 4 * bitsOf a 14 5 + bitsOf a 6 2 < 128 := by
    have := bitsOf_lt a 14 5
    have := h2 6
    omega
  interval_cases order
  · exact ⟨h3 _, hrk _, h3 _, h2 _, h7 _⟩
  · exact ⟨h3 _, hrk _, h3 _, h2 _, h7 _⟩
  · exact ⟨h3 _, hrk _, h3 _, h2 _, hsplit⟩
  · exact ⟨h3 _, hrk _, h3 _, h2 _, h7 _⟩

/-! ### The hash (R199) -/

/-- The hash keeps rank, column and row, and the row undoes it. -/
theorem dramHash_dramHash (d : DramAddr) : dramHash (dramHash d) = d := by
  simp [dramHash]

theorem dramHash_inRange {d : DramAddr} (h : FieldsInRange d) : FieldsInRange (dramHash d) where
  sc := Nat.xor_lt_two_pow (n := 3) h.sc (bitsOf_lt _ _ _)
  rk := h.rk
  bg := Nat.xor_lt_two_pow (n := 3) h.bg (bitsOf_lt _ _ _)
  ba := Nat.xor_lt_two_pow (n := 2) h.ba (bitsOf_lt _ _ _)
  col := h.col

/-! ### The map under a DCTL_CONFIG -/

/-- The fields of an address lie in their ranges, hashed or not. -/
theorem dramAddr_inRange (config a : Nat) : FieldsInRange (dramAddr config a) := by
  have hsplit : FieldsInRange (dramSplit (bitsOf config 10 2) (bitsOf config 9 1) a) :=
    dramSplit_inRange a (bitsOf_lt _ _ _) (bitsOf_lt _ _ _)
  unfold dramAddr
  dsimp only
  split
  · exact dramHash_inRange hsplit
  · exact hsplit

theorem dramAddr_of_line {a b : Nat} (config : Nat) (h : a / 64 = b / 64) : dramAddr config a = dramAddr config b := by
  rw [dramAddr, dramSplit_of_line _ _ h, dramAddr]

theorem line_of_dramAddr {config a b : Nat} (h : dramAddr config a = dramAddr config b) : a / 64 = b / 64 := by
  have hsplit : dramSplit (bitsOf config 10 2) (bitsOf config 9 1) a = dramSplit (bitsOf config 10 2) (bitsOf config 9 1) b := by
    unfold dramAddr at h
    dsimp only at h
    split at h
    · rw [← dramHash_dramHash (dramSplit _ _ a), h, dramHash_dramHash]
    · exact h
  rw [← dramJoin_dramSplit a (bitsOf_lt config 10 2) (bitsOf_lt config 9 1), hsplit, dramJoin_dramSplit b (bitsOf_lt _ _ _) (bitsOf_lt _ _ _)]

/-- With one rank the map has no rank bit. -/
theorem dramAddr_rk_of_one_rank {config : Nat} (a : Nat) (h : bitsOf config 9 1 = 0) : (dramAddr config a).rk = 0 := by
  have hsplit : (dramSplit (bitsOf config 10 2) 0 a).rk = 0 := by
    unfold dramSplit
    split <;> exact Nat.mod_one _
  unfold dramAddr
  rw [h]
  dsimp only
  split <;> exact hsplit

/-! ### The bank queues (R200) -/

/-- Banks with their fields in range share a queue only where they are one. -/
theorem queue_eq_iff {d e : DramAddr} (hd : FieldsInRange d) (he : FieldsInRange e) :
    d.queue = e.queue ↔ d.sc = e.sc ∧ d.rk = e.rk ∧ d.bg = e.bg ∧ d.ba = e.ba := by
  obtain ⟨_, _, _, _, _⟩ := hd
  obtain ⟨_, _, _, _, _⟩ := he
  unfold DramAddr.queue
  omega

/-- The rank of a queue is its bit 5. -/
theorem queue_rank {d : DramAddr} (hd : FieldsInRange d) : d.queue / 32 % 2 = d.rk := by
  obtain ⟨_, _, _, _, _⟩ := hd
  unfold DramAddr.queue
  omega

theorem queue_le {d : DramAddr} (hd : FieldsInRange d) : d.queue ≤ 511 := by
  obtain ⟨_, _, _, _, _⟩ := hd
  unfold DramAddr.queue
  omega

/-! ### The obligations -/

/-- Settles O7: the fields name the line under each ORDER, and the hash can be undone. -/
theorem theAddressMapIsOneToOne : Obligations.the_address_map_is_one_to_one := by
  intro config a b
  obtain ⟨hsc, hrk, hbg, hba, hcol⟩ := dramAddr_inRange config a
  exact ⟨line_of_dramAddr, dramAddr_of_line config, hsc, hrk, hbg, hba, hcol⟩

/-- Settles O8: the queue index is a number in mixed radix, its digits the fields of the bank. -/
theorem eachBankHasOneQueue : Obligations.each_bank_has_one_queue := by
  intro s a b
  have ha : FieldsInRange (s.dramOf a) := dramAddr_inRange _ a
  have hb : FieldsInRange (s.dramOf b) := dramAddr_inRange _ b
  refine ⟨rfl, queue_le ha, queue_eq_iff ha hb, fun hone => ?_⟩
  have hrk : (s.dramOf a).rk = 0 := dramAddr_rk_of_one_rank a hone
  exact ⟨hrk, (queue_rank ha).trans hrk⟩

end Sys2Proof.Laws
end

section
/-!
PROOFS. The statements of chapter 9 on the commands to DRAM, its refresh, its reads with errors and its subchannels.
-/
namespace Sys2Proof.Laws
open Sys2Proof Sys2Proof.Machine

/-! ### What the commands run -/

theorem exec_dramCommandIssue (q : Fin 512) (s : State) :
    exec (.dramCommandIssue q) s = .next (s.put (dramCommandIssue q s.dev).settle) := rfl
theorem exec_rowIdleClose (q : Fin 512) (s : State) : exec (.rowIdleClose q) s = .next (s.put (rowIdleClose q s.dev)) := rfl
theorem exec_powerDownEntry (sub : Fin 8) (rank : Fin 2) (s : State) :
    exec (.powerDownEntry sub rank) s = .next (s.put (powerDownEntry sub rank s.dev)) := rfl
theorem exec_selfRefreshEntry (sub : Fin 8) (s : State) :
    exec (.selfRefreshEntry sub) s = .next (s.put (selfRefreshEntry sub s.dev).settle) := rfl
theorem exec_refreshDue (s : State) : exec .refreshDue s = .next (s.put (refreshDue s.dev).settle) := rfl
theorem exec_dramTempPoll (rates : List (BitVec 3 × Bool)) (s : State) :
    exec (.dramTempPoll rates) s = .next (s.put (dramTempPoll rates s.dev).settle) := rfl
theorem exec_dramReadCapture (addr : Dpa) (who : CapFor) (e0 e1 e2 : List (BitVec 40)) (s : State) :
    exec (.dramReadCapture addr who e0 e1 e2) s = .next (s.put (dramReadCapture addr who e0 e1 e2 s.dev).settle) := rfl
theorem exec_cleanRefetchDone (g : BitVec 26) (s : State) :
    exec (.cleanRefetchDone g) s = .next (s.put (cleanRefetchDone g.toNat s.dev).settle) := rfl
theorem exec_caParityAlert (sub : Fin 8) (s : State) :
    exec (.caParityAlert sub) s = .next (s.put (caParityAlert sub s.dev).settle) := rfl
theorem exec_alertRelease (sub : Fin 8) (s : State) : exec (.alertRelease sub) s = .next (s.put (alertRelease sub s.dev).settle) := rfl
theorem exec_replayEnd (sub : Fin 8) (s : State) : exec (.replayEnd sub) s = .next (s.put (replayEnd sub s.dev).settle) := rfl
theorem exec_caRetrainEnd (sub : Fin 8) (found : List (Fin 10 × Fin 17 × Fin 17)) (s : State) :
    exec (.caRetrainEnd sub found) s = .next (s.put (caRetrainEnd sub found s.dev).settle) := rfl
theorem exec_dramInitDone (sub : Fin 8) (s : State) : exec (.dramInitDone sub) s = .next (s.put (dramInitDone sub s.dev).settle) := rfl

section
variable {s : Dev}

/-! ### Commands, open rows, power-down and self-refresh (R201 to R204, R208 to R211, R240) -/

/-- The subchannel of a queue is taken out of self-refresh and the queue's rank out of power-down. -/
def woken (q : Nat) (w : Dev) : Dev :=
  { w with dctl := { w.dctl with powerDown := w.dctl.powerDown.erase (q / 32), afterRef := false } }

/-- The head of a served queue whose row is open, or may be opened, is issued. -/
theorem dramCommandIssue_of_head {q : Fin 512} {e : QEntry} {rest : List QEntry} {w a b : Dev} (hqueue : (s.bank q.val).queue = e :: rest)
    (hserves : s.subServes (q.val / 64) = true) (hw : w = s.setSub (q.val / 64) { s.sub (q.val / 64) with st := .ready })
    (ha : a = ((woken q.val w).rfmDue (q.val / 64)).raaManage q.val)
    (hrow : (a.bank q.val).opened = some e.row ∨ a.actSpaced q.val e.row = true) (hb : b = a.openRow q.val e.row) :
    dramCommandIssue q s = ((b.setBank q.val { b.bank q.val with
      queue := rest
      opened := if b.staysOpen { b.bank q.val with queue := rest } e.row then some e.row else none }).pushCmds (q.val / 64)
        [e.cmd q.val (!b.staysOpen { b.bank q.val with queue := rest } e.row)]).admitNext q.val 16 := by
  have hserved : ¬ (!s.subServes (q.val / 64)) = true := by simp [hserves]
  have hgoes : ¬ (!decide ((a.bank q.val).opened = some e.row) && !a.actSpaced q.val e.row) = true := by
    rcases hrow with h | h <;> simp [h]
  subst hw ha hb
  unfold dramCommandIssue
  dsimp only
  rw [hqueue]
  dsimp only
  rw [if_neg hserved]
  exact if_neg hgoes

theorem rowIdleClose_of_closed {q : Fin 512} {d : Dev} (hd : d = s.rfmDue (q.val / 64)) (hrow : (d.bank q.val).opened = none) :
    rowIdleClose q s = d := by
  subst hd
  simp only [rowIdleClose, hrow]

theorem rowIdleClose_of_open {q : Fin 512} {d : Dev} {r : Nat} (hd : d = s.rfmDue (q.val / 64)) (hrow : (d.bank q.val).opened = some r) :
    rowIdleClose q s = (d.setBank q.val { d.bank q.val with opened := none }).pushCmds (q.val / 64) [rowCmd .pre q.val r] := by
  subst hd
  simp only [rowIdleClose, hrow]

/-- An idle rank of a READY subchannel enters power-down, where PD_IDLE is not 0. -/
theorem powerDownEntry_of_idle {sub : Fin 8} {rank : Fin 2} (hst : (s.sub sub.val).st = .ready) (htime : s.regF Reg.DCTL_PWR 0 8 ≠ 0)
    (hidle : s.rankIdle sub.val rank.val = true) (hrank : rank.val ≤ s.regF Reg.DCTL_CONFIG 9 1) :
    powerDownEntry sub rank s = { s with dctl := { s.dctl with
      powerDown := insertN (2 * sub.val + rank.val) s.dctl.powerDown
      banks := (s.dctl.banks.map (fun p =>
        if p.1 / 32 = 2 * sub.val + rank.val && !s.staysOpen p.2 (p.2.opened.getD 0) then (p.1, { p.2 with opened := none }) else p)).filter
        (fun p => decide (p.2 ≠ Bank.reset)) } } := by
  have henters : ¬ ((s.sub sub.val).st ≠ .ready || s.regF Reg.DCTL_PWR 0 8 = 0 || !s.rankIdle sub.val rank.val ||
      s.regF Reg.DCTL_CONFIG 9 1 < rank.val) = true := by
    simp [hst, htime, hidle, Nat.not_lt.mpr hrank]
  unfold powerDownEntry
  exact if_neg henters

/-- An idle READY subchannel enters self-refresh in MAINTENANCE, and in RESTORE from READY_DRAM. -/
theorem selfRefreshEntry_of_idle {sub : Fin 8} (hmode : s.core.mode = .restore ∧ s.rdy Rdy.DRAM = true ∨ s.core.mode = .maintenance)
    (htime : s.regF Reg.DCTL_SR_CTL 0 10 ≠ 0) (hst : (s.sub sub.val).st = .ready) (hidle : s.subIdle sub.val = true) :
    selfRefreshEntry sub s = s.srEnter sub.val := by
  unfold selfRefreshEntry
  exact if_pos (by simp [hmode, htime, hst, hidle])

/-! ### Refresh and temperature (R205 to R207, R210) -/

section
variable (hon : s.dctl.subs.all (fun c => decide (c.st = .off)) = false)
include hon

theorem refreshDue_of_on {d : Dev} (hd : d = (List.range 8).foldl Dev.refreshTurn s) (hcount : d.dctl.refreshes + 1 < 8192) :
    refreshDue s = { d with dctl := { d.dctl with refreshes := d.dctl.refreshes + 1, afterRef := true } } := by
  subst hd
  unfold refreshDue
  rw [if_neg (by rw [hon]; decide)]
  dsimp only
  rw [if_neg (by omega), Nat.mod_eq_of_lt hcount]

/-- With the 8,192nd refresh the trackers clear. -/
theorem refreshDue_of_full_count {d : Dev} (hd : d = (List.range 8).foldl Dev.refreshTurn s) (hcount : d.dctl.refreshes + 1 = 8192) :
    refreshDue s = (List.range 8).foldl (fun s n => s.mapBanks n (fun b => { b with rh := [], flagged := [] }))
      { d with dctl := { d.dctl with refreshes := 0, afterRef := true } } := by
  subst hd
  unfold refreshDue
  rw [if_neg (by rw [hon]; decide)]
  dsimp only
  rw [if_pos hcount, hcount, Nat.mod_self]

/-- A poll stores the highest rate and the first rank that reads it; a rank that asks for twice the refresh is latched and logged. -/
theorem dramTempPoll_of_hot {rates : List (BitVec 3 × Bool)} {top : Nat} {a b : Dev} (htop : top = rates.foldl (fun m r => max m r.1.toNat) 0)
    (ha : a = s.setRegN Reg.DCTL_TEMP (top + fieldAt 8 4 (rates.findIdx (fun r => decide (r.1.toNat = top)))))
    (hhot : rates.any (fun r => r.2) = true)
    (hb : b = (a.latch Reg.DCTL_ERR 8).logStd LT.DRAM_HOT (rates.findIdx (fun r => r.2) / 2) top) :
    dramTempPoll rates s =
      { b with dctl := { b.dctl with hot := b.dctl.hot || decide (b.regF Reg.DCTL_REFRESH 16 1 = 1), normalReads := 0 } } := by
  subst htop ha hb
  unfold dramTempPoll
  rw [if_neg (by rw [hon]; decide)]
  exact if_pos hhot

/-- A poll with no rank that asks for twice the refresh counts as a normal one, up to 2. -/
theorem dramTempPoll_of_normal {rates : List (BitVec 3 × Bool)} {top : Nat} {a : Dev} (htop : top = rates.foldl (fun m r => max m r.1.toNat) 0)
    (ha : a = s.setRegN Reg.DCTL_TEMP (top + fieldAt 8 4 (rates.findIdx (fun r => decide (r.1.toNat = top)))))
    (hnormal : rates.any (fun r => r.2) = false) :
    dramTempPoll rates s = { a with dctl := { a.dctl with
      normalReads := min (a.dctl.normalReads + 1) 2, hot := a.dctl.hot && decide (a.dctl.normalReads + 1 < 2) } } := by
  subst htop ha
  unfold dramTempPoll
  rw [if_neg (by rw [hon]; decide)]
  exact if_neg (by rw [hnormal]; decide)

end

/-! ### Reads with errors (R213 to R217, Table 9-3) -/

section
variable {addr : Dpa} {e0 e1 e2 : List (BitVec 40)} {d : Dev} {x : ReadEnd}

theorem dramReadCapture_copy {id : Nat} (hcaptures : s.capturesLine id (addr.toNat / 64 * 64) = true)
    (hread : s.readBursts (addr.toNat / 64 * 64) true [e0, e1, e2] = (d, x)) :
    dramReadCapture addr (.copy id) e0 e1 e2 s = if x = .ue then d.copyUe id (addr.toNat / 64 * 64) else d := by
  unfold dramReadCapture
  dsimp only
  rw [if_neg (by simp [hcaptures]), hread]
  cases x <;> simp only [reduceCtorEq, if_true, if_false]

theorem dramReadCapture_reserved (hlow : G * s.hostGranules ≤ addr.toNat / 64 * 64) (hhigh : addr.toNat / 64 * 64 < s.installed)
    (hread : s.readBursts (addr.toNat / 64 * 64) true [e0, e1, e2] = (d, x)) :
    dramReadCapture addr .reserved e0 e1 e2 s =
      if x = .ue then d.reservedUe (addr.toNat / 64 * 64) (addr.toNat / 64 * 64 - G * d.hostGranules) else d := by
  have hinside : ¬ (addr.toNat / 64 * 64 < G * s.hostGranules || s.installed ≤ addr.toNat / 64 * 64) = true := by
    simp [Nat.not_lt.mpr hlow, Nat.not_le.mpr hhigh]
  unfold dramReadCapture
  dsimp only
  rw [if_neg hinside, hread]
  cases x <;> simp only [reduceCtorEq, if_true, if_false]

end

/-- A refetch's line is written from the copy, or poisoned where the rebuild failed, and goes to its queue. -/
def refetchedLine (g : Nat) (good : Bool) (d : Dev) (s : Dev) (n : Nat) : Dev :=
  (if good then s.putLineOf g (d.copyData g).1 (d.copyData g).2 n else s.poisonMark (G * g + 64 * n)).enqueue (G * g + 64 * n) true Who.refetch

/-- A refetch with a result writes its lines, records a rebuild that failed, and lets go what waited. -/
theorem cleanRefetchDone_of_result {g : Nat} {r : Refetch} {good : Bool} {d e : Dev} (hrefetch : s.refetch? g = some r)
    (hresult : r.result = some good)
    (hd : d = s.modDctl (fun d => { d with refetches := d.refetches.filter (fun x => decide (x.g ≠ g)) }))
    (he : e = r.lines.foldl (refetchedLine g good d) d) :
    cleanRefetchDone g s = (((Dev.readAgainAll (if good then e else (e.poisonEvent g).logStd LT.DRAM_REFETCH_FAIL
      ((e.dramOf (G * g + 64 * r.lines.headD 0)).sc + 2 ^ 24 * (G * g + 64 * r.lines.headD 0)) 0) g).refetchNext 16).note .retry).evalAgain := by
  subst hd he
  unfold cleanRefetchDone
  simp only [hrefetch, hresult]
  rfl

/-! ### Alerts, replays and the CA retraining pause (Table 9-4, R219 to R221, R229, R235) -/

section
variable {sub : Fin 8} {c : SubCh} (hc : c = s.sub sub.val)
include hc

theorem caParityAlert_in_ready (hst : c.st = .ready) :
    caParityAlert sub s = ((s.latch Reg.DCTL_ERR 4).setSub sub.val { c with alertLow := true }).startReplay sub.val false := by
  subst hc
  simp only [caParityAlert, hst, reduceCtorEq, decide_false, Bool.or_self, Bool.false_eq_true, if_false]

/-- An alert in a replay fails a retrained subchannel, is counted up to 2, and from then on pauses the subchannel. -/
theorem caParityAlert_in_replay {d : Dev} (hst : c.st = .replay) (hd : d = (s.latch Reg.DCTL_ERR 4).setSub sub.val { c with alertLow := true }) :
    caParityAlert sub s =
      if c.retrained then d.failSub sub.val
      else if c.alerts < 2 then d.setSub sub.val { d.sub sub.val with alerts := c.alerts + 1 }
      else (((d.setSub sub.val { d.sub sub.val with st := .paused, fromReplay := true, alerts := 0 }).latch Reg.DCTL_ERR 5).logStd
        LT.DRAM_CA_FAIL sub.val 0).latch Reg.DCTL_TRN_ERR 5 := by
  subst hc hd
  simp only [caParityAlert, hst, reduceCtorEq, decide_false, Bool.or_self, Bool.false_eq_true, if_false]

theorem caParityAlert_in_pause (hst : c.st = .paused ∨ c.st = .training) :
    caParityAlert sub s = (((s.latch Reg.DCTL_ERR 4).setSub sub.val { c with alertLow := true }).countReg Reg.DCTL_REPLAY 0 16 1).setRegF
      Reg.DCTL_REPLAY 16 3 sub.val := by
  subst hc
  rcases hst with hst | hst <;>
    simp only [caParityAlert, hst, reduceCtorEq, decide_false, Bool.or_self, Bool.false_eq_true, if_false]

theorem caParityAlert_in_selfRefresh (hst : c.st = .selfRefresh) : caParityAlert sub s = s.setSub sub.val { c with alertLow := true } := by
  subst hc
  simp only [caParityAlert, hst, reduceCtorEq, decide_false, Bool.or_self, Bool.false_eq_true, if_false, if_true]

theorem caParityAlert_without_commands (hst : c.st = .off ∨ c.st = .init ∨ c.st = .failed) : caParityAlert sub s = s := by
  subst hc
  unfold caParityAlert
  exact if_pos (by rcases hst with h | h | h <;> simp [h])

theorem alertRelease_in_replay (hst : c.st = .replay)
    (hsub : (s.setSub sub.val { c with alertLow := false }).sub sub.val = { c with alertLow := false }) :
    alertRelease sub s = (((s.setSub sub.val { c with alertLow := false }).closeRows sub.val).pushCmds sub.val
      [rowCmd .pre (64 * sub.val) 0]).reissueAll sub.val := by
  subst hc
  unfold alertRelease
  exact if_pos ((congrArg SubCh.st hsub).trans hst)

theorem replayEnd_without_alert (hst : c.st = .replay) (hlow : c.alertLow = false) :
    replayEnd sub s = ((s.setSub sub.val { c with st := .ready, alerts := 0, retrained := false }).lateRefresh sub.val).dramCheck := by
  subst hc
  unfold replayEnd
  exact if_pos (by simp [hst, hlow])

theorem caRetrainEnd_of_paused (found : List (Fin 10 × Fin 17 × Fin 17)) (hst : c.st = .paused) (hfrom : c.fromReplay = true) :
    caRetrainEnd sub found s = (found.foldl (fun s f => s.caCentre sub.val f) s).startReplay sub.val true := by
  subst hc
  unfold caRetrainEnd
  exact if_pos (by simp [hst, hfrom])

theorem dramInitDone_of_init (hst : c.st = .init) :
    dramInitDone sub s = (s.setSub sub.val { c with st := .training }).setCas (s.regF Reg.DCTL_FREQ_REQ 0 4) := by
  subst hc
  unfold dramInitDone
  exact if_pos hst

end

end

/-! ### The obligations -/

/-- Settles O38: a head that may go, an idle row, an idle rank and an idle subchannel. -/
theorem dramCommandsAreIssued : Obligations.dram_commands_are_issued := by
  refine ⟨?issue, ?close, ?powerDown, ?selfRefresh⟩
  case issue =>
    intro q e rest s w a b hqueue hserves hw ha hrow hb
    rw [exec_dramCommandIssue, dramCommandIssue_of_head hqueue hserves hw ha hrow hb]
  case close =>
    intro q s d hd
    refine ⟨fun hrow => ?_, fun r hrow => ?_⟩
    · rw [exec_rowIdleClose, rowIdleClose_of_closed hd hrow]
    · rw [exec_rowIdleClose, rowIdleClose_of_open hd hrow]
  case powerDown =>
    intro sub rank s hst htime hidle hrank
    rw [exec_powerDownEntry, powerDownEntry_of_idle hst htime hidle hrank]
  case selfRefresh =>
    intro sub s hmode htime hst hidle
    rw [exec_selfRefreshEntry, selfRefreshEntry_of_idle hmode htime hst hidle]

/-- Settles O39: a refresh by its count, a poll by whether a rank is hot. -/
theorem dramIsRefreshed : Obligations.dram_is_refreshed := by
  refine ⟨?refresh, ?poll⟩
  case refresh =>
    intro s d hon hd
    refine ⟨fun hcount => ?_, fun hcount => ?_⟩
    · rw [exec_refreshDue, refreshDue_of_on hon hd hcount]
    · rw [exec_refreshDue, refreshDue_of_full_count hon hd hcount]
  case poll =>
    intro rates top s a b hon htop ha
    refine ⟨fun hhot hb => ?_, fun hnormal => ?_⟩
    · rw [exec_dramTempPoll, dramTempPoll_of_hot hon htop ha hhot hb]
    · rw [exec_dramTempPoll, dramTempPoll_of_normal hon htop ha hnormal]

/-- Settles O40: each purpose of a captured read, and the end of a refetch by its result. -/
theorem capturedErrorsAreHandled : Obligations.captured_errors_are_handled := by
  refine ⟨?host, ?copy, ?reserved, ?refetch⟩
  case host =>
    intro addr e0 e1 e2 ld tag s
    exact ⟨exec_dramReadCapture addr (.host ld tag) e0 e1 e2 s, fun data be => exec_dramReadCapture addr (.merge ld tag data be) e0 e1 e2 s⟩
  case copy =>
    intro addr e0 e1 e2 id s d x hcaptures hread
    rw [exec_dramReadCapture, dramReadCapture_copy hcaptures hread]
  case reserved =>
    intro addr e0 e1 e2 s d x hlow hhigh hread
    rw [exec_dramReadCapture, dramReadCapture_reserved hlow hhigh hread]
  case refetch =>
    intro g r good s d e hrefetch hresult hd he
    rw [exec_cleanRefetchDone, cleanRefetchDone_of_result hrefetch hresult hd he]
    refine ⟨?good, ?failed⟩
    case good =>
      rintro rfl
      rfl
    case failed =>
      rintro x first rfl rfl rfl
      rfl

/-- Settles O41: an alert by the state that it finds, and the end of each state that it leads to. -/
theorem subchannelsRecoverFromAlerts : Obligations.subchannels_recover_from_alerts := by
  intro sub c s hc
  refine ⟨?ready, ?counted, ?third, ?paused, ?selfRefresh, ?without, ?failed, ?release, ?replayEnd, ?retrainEnd, ?initDone⟩
  case ready =>
    intro hst
    rw [exec_caParityAlert, caParityAlert_in_ready hc hst]
  case counted =>
    intro hst hfirst hcount
    rw [exec_caParityAlert, caParityAlert_in_replay hc hst rfl, if_neg (by simp [hfirst]), if_pos hcount]
  case third =>
    intro hst hfirst hcount
    rw [exec_caParityAlert, caParityAlert_in_replay hc hst rfl, if_neg (by simp [hfirst]), if_neg (Nat.not_lt.mpr hcount)]
  case paused =>
    intro hst
    rw [exec_caParityAlert, caParityAlert_in_pause hc hst]
  case selfRefresh =>
    intro hst
    rw [exec_caParityAlert, caParityAlert_in_selfRefresh hc hst]
  case without =>
    intro hst
    rw [exec_caParityAlert, caParityAlert_without_commands hc hst]
  case failed =>
    intro hst hagain
    rw [exec_caParityAlert, caParityAlert_in_replay hc hst rfl, if_pos hagain]
  case release =>
    intro hst hsub
    rw [exec_alertRelease, alertRelease_in_replay hc hst hsub]
  case replayEnd =>
    intro hst hlow
    rw [exec_replayEnd, replayEnd_without_alert hc hst hlow]
  case retrainEnd =>
    intro found hst hfrom
    rw [exec_caRetrainEnd, caRetrainEnd_of_paused hc found hst hfrom]
  case initDone =>
    intro hst
    rw [exec_dramInitDone, dramInitDone_of_init hc hst]

end Sys2Proof.Laws
end

section
/-!
PROOFS. The statements of chapter 10 on the training of the DRAM and on the change of its speed.
-/
namespace Sys2Proof.Laws
open Sys2Proof Sys2Proof.Machine

/-! ### What the commands run -/

theorem exec_dctlTrnGo (src : Src) (val : Word) (s : State) :
    exec (.dctlTrnGo src val) s = .next (s.put (dctlTrnGo src val s.dev).settle) := rfl
theorem exec_gatherEnd (passes : List (Fin 320 × BitVec 128)) (s : State) :
    exec (.gatherEnd passes) s = .next (s.put (gatherEnd passes s.dev).settle) := rfl
theorem exec_dctlTrnApply (src : Src) (val : Word) (s : State) :
    exec (.dctlTrnApply src val) s = .next (s.put (applyResults src val s.dev).settle) := rfl
theorem exec_dctlTrnDiscard (src : Src) (val : Word) (s : State) :
    exec (.dctlTrnDiscard src val) s = .next (s.put (dctlTrnDiscard src val s.dev).settle) := rfl
theorem exec_trnResultsTimeout (s : State) :
    exec .trnResultsTimeout s = .next (s.put (s.dev.trnDiscardOf s.dev.oldestResults).settle) := rfl
theorem exec_periodicPause (sub : Fin 8) (counts : List (Fin 10 × BitVec 16)) (passes : List (Fin 40 × Bool × Bool)) (s : State) :
    exec (.periodicPause sub counts passes) s = .next (s.put (periodicPause sub counts passes s.dev).settle) := rfl
theorem exec_periodicPauseEnd (sub : Fin 8) (s : State) :
    exec (.periodicPauseEnd sub) s = .next (s.put (periodicPauseEnd sub s.dev).settle) := rfl
theorem exec_freqChangeRequest (src : Src) (val : Word) (s : State) :
    exec (.freqChangeRequest src val) s = .next (s.put (freqRequest src val s.dev).settle) := rfl
theorem exec_freqChangeStart (s : State) : exec .freqChangeStart s = .next (s.put (freqDeferredStart s.dev).settle) := rfl
theorem exec_freqEnterDone (s : State) : exec .freqEnterDone s = .next (s.put (freqEnterDone s.dev).settle) := rfl
theorem exec_pllLock (s : State) : exec .pllLock s = .next (s.put (pllLock s.dev).settle) := rfl

section
variable {s : Dev}

/-! ### Training on command (R226, R227, R231) -/

section
variable {src : Src} {val : Word} (hacc : s.accepts src Reg.DCTL_TRN_CMD = true)
include hacc

/-- A GO of an OP of 1 to 7 starts a gather on the subchannels that may train, once they are out of self-refresh. -/
theorem dctlTrnGo_of_trainable {op : Nat} {m : BitVec 8} {d : Dev} (hop : op = bitsOf val.toNat 8 4) (hlow : 1 ≤ op) (hhigh : op ≤ 7)
    (hmode : (s.putTrnCmd val).trainMode = true) (hfree : (s.putTrnCmd val).trn.gather = none)
    (hd : d = (s.putTrnCmd val).srExit (BitVec.ofNat 8 (bitsOf val.toNat 0 8)))
    (hm : m = ((subsOf (BitVec.ofNat 8 (bitsOf val.toNat 0 8))).filter d.trainable).foldl (fun a n => a ||| (1#8 <<< n)) 0#8)
    (hsome : m ≠ 0) :
    dctlTrnGo src val s =
      (({ d with trn := { d.trn with gather := some (m, op) } } : Dev).setRegF Reg.DCTL_TRN_CMD 12 1 1).writeStatus src .ok := by
  have hgood : ¬ (decide (op = 0) || decide (7 < op)) = true := by
    simp [Nat.ne_of_gt hlow, Nat.not_lt.mpr hhigh]
  have htrains : ¬ (!(s.putTrnCmd val).trainMode) = true := by simp [hmode]
  have hidle : ¬ (s.putTrnCmd val).trn.gather.isSome = true := by simp [hfree]
  subst hop hd hm
  unfold dctlTrnGo
  rw [guarded_of_accepts _ hacc]
  dsimp only
  rw [if_neg hgood, if_neg htrains, if_neg hidle, if_neg hsome]

theorem dctlTrnGo_of_bad_op (hop : bitsOf val.toNat 8 4 = 0 ∨ 7 < bitsOf val.toNat 8 4) :
    dctlTrnGo src val s = (s.putTrnCmd val).writeStatus src .badParam := by
  unfold dctlTrnGo
  rw [guarded_of_accepts _ hacc]
  exact if_pos (by simpa using hop)

theorem applyResults_of_pending {d : Dev} {l : List Nat} (hd : d = s.putTrnCmd val)
    (hl : l = (subsOf (BitVec.ofNat 8 (bitsOf val.toNat 0 8) &&& d.trn.pending)).filter d.trainable)
    (hmode : d.trainMode = true) (hsome : l ≠ []) :
    applyResults src val s = ((l.foldl (fun s n => (s.applySub n).openTrained n) d).trnSettle).writeStatus src .ok := by
  have htrains : ¬ (!d.trainMode) = true := by simp [hmode]
  have hnonempty : ¬ l.isEmpty = true := by simpa using hsome
  subst hd hl
  unfold applyResults
  rw [guarded_of_accepts _ hacc]
  dsimp only
  rw [if_neg htrains, if_neg hnonempty]

theorem applyResults_of_wrong_mode (hmode : (s.putTrnCmd val).trainMode = false) :
    applyResults src val s = (s.putTrnCmd val).writeStatus src .wrongMode := by
  unfold applyResults
  rw [guarded_of_accepts _ hacc]
  exact if_pos (by simp [hmode])

theorem dctlTrnDiscard_of_accepts : dctlTrnDiscard src val s =
    ((s.putTrnCmd val).trnDrop (BitVec.ofNat 8 (bitsOf val.toNat 0 8))).writeStatus src .ok := guarded_of_accepts _ hacc

end

/-- A gather's end records the lanes' eyes, makes the results pending and leaves the pattern in the subchannels' rows. -/
theorem gatherEnd_of_gather (passes : List (Fin 320 × BitVec 128)) {m : BitVec 8} {op pat : Nat} {d : Dev}
    (hgather : s.trn.gather = some (m, op)) (hpat : pat = s.regF Reg.DCTL_TRN_SWEEP 24 4)
    (hd : d = (subsOf m).foldl (fun s n => (List.range 40).foldl (fun s l => s.recordLane (40 * n + l)
      (((passes.find? (fun e => decide (e.1.val = 40 * n + l))).map (fun e => e.2)).getD 0)) s) s) :
    gatherEnd passes s = ({ d with trn := { d.trn with
      gather := none, pending := d.trn.pending ||| m
      pendBy := (subsOf m).foldl (fun l n => insertK n (op, d.ticks) l) d.trn.pendBy
      rows := (subsOf m).foldl (fun l n => insertK n (if pat ≤ 3 then pat else 0) l) d.trn.rows } } : Dev).setRegF
      Reg.DCTL_TRN_CMD 12 1 0 := by
  subst hpat hd
  simp only [gatherEnd, hgather]

/-! ### Periodic tracking (R233, R234, R241) -/

section
variable {sub : Fin 8} (counts : List (Fin 10 × BitVec 16)) (passes : List (Fin 40 × Bool × Bool))
variable (hmode : s.core.mode = .service ∨ s.core.mode = .maintenance) (hperiodic : s.regF Reg.DCTL_TRN_PERIODIC 31 1 = 1)
variable (hturn : s.trn.turn = sub.val ∨ sub.val ∈ s.trn.skipped)
include hmode hperiodic hturn

/-- In a mode that tracks, with tracking on, a subchannel whose turn has come or was skipped passes the guard. -/
theorem turn_is_taken : ¬ (!(decide (s.core.mode = .service) || decide (s.core.mode = .maintenance)) ||
    decide (s.regF Reg.DCTL_TRN_PERIODIC 31 1 = 0) || !(decide (s.trn.turn = sub.val) || s.trn.skipped.contains sub.val)) = true := by
  simpa [hperiodic, or_iff_not_imp_left] using And.intro hmode hturn

theorem periodicPause_of_ready (hst : (s.sub sub.val).st = .ready) (href : s.dctl.afterRef = true)
    (hfree : (List.range 8).any s.tracking = false) :
    periodicPause sub counts passes s =
      (((s.setSub sub.val { s.sub sub.val with st := .paused, fromReplay := false }).wrapReg Reg.DCTL_TRN_DRIFT 16 16 1).nextTurn
        sub.val).track sub.val counts passes := by
  unfold periodicPause
  dsimp only
  rw [if_neg (turn_is_taken hmode hperiodic hturn), hst]
  exact if_neg (by rw [href, hfree]; decide)

theorem periodicPause_of_selfRefresh (hst : (s.sub sub.val).st = .selfRefresh) :
    periodicPause sub counts passes s =
      { s.nextTurn sub.val with trn := { (s.nextTurn sub.val).trn with skipped := insertN sub.val (s.nextTurn sub.val).trn.skipped } } := by
  unfold periodicPause
  dsimp only
  rw [if_neg (turn_is_taken hmode hperiodic hturn), hst]

end

theorem periodicPauseEnd_of_tracking {sub : Fin 8} (htracking : s.tracking sub.val = true) :
    periodicPauseEnd sub s = (s.setSub sub.val { s.sub sub.val with st := .ready }).lateRefresh sub.val := if_pos htracking

/-! ### The change of the memory speed (R236 to R238, Table 10-3) -/

section
variable {src : Src} {val : Word} (hacc : s.accepts src Reg.DCTL_FREQ_REQ = true)
include hacc

/-- A request for a speed that the components have is stored, and starts its change or defers it. -/
theorem freqRequest_of_idle_or_deferred {t : Nat} {d : Dev} (ht : t = bitsOf val.toNat 0 4) (hmode : s.core.mode = .maintenance)
    (hlow : 1 ≤ t) (hhigh : t ≤ s.regF Reg.DCTL_CONFIG 4 4) (hphase : s.trn.phase = .idle ∨ s.trn.phase = .deferred)
    (hd : d = (s.setRegF Reg.DCTL_FREQ_REQ 0 4 t).writeStatus src .ok) :
    freqRequest src val s = if d.freqClear then d.freqStart else { d with trn := { d.trn with phase := .deferred } } := by
  have hspeed : ¬ (decide (t = 0) || decide (s.regF Reg.DCTL_CONFIG 4 4 < t)) = true := by
    simp [Nat.ne_of_gt hlow, Nat.not_lt.mpr hhigh]
  have hfree : ¬ (decide (s.trn.phase ≠ .idle) && decide (s.trn.phase ≠ .deferred)) = true := by
    rcases hphase with h | h <;> simp [h]
  subst ht hd
  unfold freqRequest
  rw [guarded_of_accepts _ hacc]
  dsimp only
  rw [if_neg (not_not.mpr hmode), if_neg hspeed, if_neg hfree]

theorem freqRequest_of_wrong_mode (hmode : s.core.mode ≠ .maintenance) : freqRequest src val s = s.writeStatus src .wrongMode := by
  unfold freqRequest
  rw [guarded_of_accepts _ hacc]
  exact if_pos hmode

end

theorem freqDeferredStart_of_clear (hphase : s.trn.phase = .deferred) (hmode : s.core.mode = .maintenance) (hclear : s.freqClear = true) :
    freqDeferredStart s = s.freqStart := if_pos (by simp [hphase, hmode, hclear])

theorem freqEnterDone_of_selfRefresh (hphase : s.trn.phase = .enter)
    (hsubs : s.allSubs (fun c => decide (c.st = .selfRefresh) || decide (c.st = .failed)) = true) :
    freqEnterDone s = { s with trn := { s.trn with phase := .relock } } := if_pos (by simp [hphase, hsubs])

section
variable {t : Nat} (hphase : s.trn.phase = .relock) (ht : t = s.trn.newSpeed)
include hphase ht

/-- Once the PLL has locked, the change ends with the stored set of its speed, or trains at it. -/
theorem pllLock_of_relock : pllLock s =
    if s.trn.setA = t ∨ s.trn.setB = t then (((s.loadSet t).setCas t).freqEnd t 1).logStd LT.DRAM_FREQ_CHANGE 0 t
    else ((({ s with trn := { s.trn with phase := .train, repeated := 0 } } : Dev).setCas t).mapSubs
      (fun c => if c.st = .selfRefresh then { c with st := .paused, fromReplay := false } else c)).resetDone (List.range 8) := by
  subst ht
  unfold pllLock
  rw [if_neg (not_not.mpr hphase)]
  simp only [Bool.or_eq_true, decide_eq_true_eq]

theorem pllLock_of_stored_set (hset : s.trn.setA = t ∨ s.trn.setB = t) :
    pllLock s = (((s.loadSet t).setCas t).freqEnd t 1).logStd LT.DRAM_FREQ_CHANGE 0 t := by
  rw [pllLock_of_relock hphase ht, if_pos hset]

theorem pllLock_without_set {d : Dev} (hA : s.trn.setA ≠ t) (hB : s.trn.setB ≠ t)
    (hd : d = { s with trn := { s.trn with phase := .train, repeated := 0 } }) :
    pllLock s = ((d.setCas t).mapSubs (fun c => if c.st = .selfRefresh then { c with st := .paused, fromReplay := false } else c)).resetDone
      (List.range 8) := by
  rw [pllLock_of_relock hphase ht, if_neg (not_or.mpr ⟨hA, hB⟩), hd]

end

end

/-! ### The obligations -/

/-- Settles O42: a training command by what it may do, the ends of a gather and of pending results, and a tracking turn by its subchannel. -/
theorem trainingGathersAndApplies : Obligations.training_gathers_and_applies := by
  refine ⟨?go, ?badOp, ?gatherEnd, ?results, ?timeout, ?turn, ?turnEnd⟩
  case go =>
    intro src val op m s d hacc hop hlow hhigh hmode hfree hd hm hsome
    rw [exec_dctlTrnGo, dctlTrnGo_of_trainable hacc hop hlow hhigh hmode hfree hd hm hsome]
  case badOp =>
    rintro src val op s hacc rfl hbad
    rw [exec_dctlTrnGo, dctlTrnGo_of_bad_op hacc hbad]
  case gatherEnd =>
    intro passes m op pat s d hgather hpat hd
    rw [exec_gatherEnd, gatherEnd_of_gather passes hgather hpat hd]
  case results =>
    rintro src val s m d l hacc rfl rfl hl
    refine ⟨fun hmode hsome => ?_, fun hmode => ?_, ?_⟩
    · rw [exec_dctlTrnApply, applyResults_of_pending hacc rfl hl hmode hsome]
    · rw [exec_dctlTrnApply, applyResults_of_wrong_mode hacc hmode]
    · rw [exec_dctlTrnDiscard, dctlTrnDiscard_of_accepts hacc]
  case timeout => exact exec_trnResultsTimeout
  case turn =>
    intro sub counts passes s hmode hperiodic hturn
    refine ⟨fun hst href hfree => ?_, fun hst => ?_⟩
    · rw [exec_periodicPause, periodicPause_of_ready counts passes hmode hperiodic hturn hst href hfree]
    · rw [exec_periodicPause, periodicPause_of_selfRefresh counts passes hmode hperiodic hturn hst]
  case turnEnd =>
    intro sub s htracking
    rw [exec_periodicPauseEnd, periodicPauseEnd_of_tracking htracking]

/-- Settles O43: a request by the mode, and each phase of a change by what ends it. -/
theorem theMemorySpeedChanges : Obligations.the_memory_speed_changes := by
  refine ⟨?accepted, ?wrongMode, ?deferred, ?entered, ?stored, ?trains⟩
  case accepted =>
    intro src val t s d hacc ht hmode hlow hhigh hphase hd
    rw [exec_freqChangeRequest, freqRequest_of_idle_or_deferred hacc ht hmode hlow hhigh hphase hd]
  case wrongMode =>
    intro src val s hacc hmode
    rw [exec_freqChangeRequest, freqRequest_of_wrong_mode hacc hmode]
  case deferred =>
    intro s hphase hmode hclear
    rw [exec_freqChangeStart, freqDeferredStart_of_clear hphase hmode hclear]
  case entered =>
    intro s hphase hsubs
    rw [exec_freqEnterDone, freqEnterDone_of_selfRefresh hphase hsubs]
  case stored =>
    intro t s hphase ht hset
    rw [exec_pllLock, pllLock_of_stored_set hphase ht hset]
  case trains =>
    intro t s d hphase ht hA hB hd
    rw [exec_pllLock, pllLock_without_set hphase ht hA hB hd]

end Sys2Proof.Laws
end

section
/-!
PROOFS. The statements of chapter 11 on the NAND dies, and of chapter 17 on firmware's raw access to them.
-/
namespace Sys2Proof.Laws
open Sys2Proof Sys2Proof.Machine

/-! ### What the commands run -/

theorem exec_nandDieCheckEnd (ch : Fin 16) (d : Fin 8) (id : Option Bytes) (phy : Bool) (bad : List (Fin 4 × Fin 4096)) (s : State) :
    exec (.nandDieCheckEnd ch d id phy bad) s = .next (s.put (nandDieCheckEnd ch.val d.val id phy bad s.dev).settle) := rfl
theorem exec_nandOpIssue (ch : Fin 16) (d : Fin 8) (s : State) :
    exec (.nandOpIssue ch d) s = .next (s.put (nandOpIssue ch.val d.val s.dev).settle) := rfl
theorem exec_nandOpComplete (ch : Fin 16) (d : Fin 8) (st : NandStatus) (s : State) :
    exec (.nandOpComplete ch d st) s = .next (s.put (nandOpComplete ch.val d.val st s.dev).settle) := rfl
theorem exec_nandOpTimeout (ch : Fin 16) (d : Fin 8) (s : State) :
    exec (.nandOpTimeout ch d) s = .next (s.put (nandOpComplete ch.val d.val .timeout s.dev).settle) := rfl
theorem exec_nandSuspend (ch : Fin 16) (d : Fin 8) (s : State) :
    exec (.nandSuspend ch d) s = .next (s.put (nandSuspend ch.val d.val s.dev).settle) := rfl
theorem exec_readyNand (s : State) : exec .readyNand s = .next (s.put (readyNand s.dev).settle) := rfl

section
variable {s : Dev} {ch d : Nat}

/-! ### The check of a die (R271, Table 11-7) -/

section
variable (hst : (s.die ch d).st = .init) (hch : s.flsh.chLost.contains ch = false)
include hst hch

/-- The check of a die in INIT, on a channel that works, is not left out. -/
theorem dieCheck_runs : ¬ (decide ((s.die ch d).st ≠ .init) || s.flsh.chLost.contains ch) = true := by
  rw [hch, hst]
  decide

variable (bad : List (Fin 4 × Fin 4096)) {e : Dev} (he : e = s.modDie ch d (fun c => { c with cur := none }))
include he

theorem nandDieCheckEnd_of_no_answer (phy : Bool) : nandDieCheckEnd ch d none phy bad s = e.dropDie ch d 0x31 := by
  subst he
  unfold nandDieCheckEnd
  rw [if_neg (dieCheck_runs hst hch)]

theorem nandDieCheckEnd_of_match {f : Dev} (hf : f = e.modDie ch d (fun c => { c with st := .idle })) :
    nandDieCheckEnd ch d (some e.geo.idMatch) true bad s = if f.flsh.factoryDone then f else
      f.factoryBlocks ((bad.filter (fun b => decide (b.2.val < f.geo.blocks))).map (fun b => mkLoc ch d b.1.val b.2.val 0)) := by
  subst he hf
  unfold nandDieCheckEnd
  rw [if_neg (dieCheck_runs hst hch)]
  dsimp only
  rw [if_neg (not_not.mpr rfl), if_neg (by decide)]

theorem nandDieCheckEnd_without_phy : nandDieCheckEnd ch d (some e.geo.idMatch) false bad s = e.dropChannel ch 0x31 := by
  subst he
  unfold nandDieCheckEnd
  rw [if_neg (dieCheck_runs hst hch)]
  dsimp only
  rw [if_neg (not_not.mpr rfl), if_pos (by decide)]

end

/-! ### Issue, completion and suspension (R259, R262, R270) -/

theorem nandOpIssue_of_idle {x : Desc} (hst : (s.die ch d).st = .idle) (hfind : (s.die ch d).queue.find? (s.shareFree ch) = some x) :
    nandOpIssue ch d s = s.startDesc ch d x .busy := by
  unfold nandOpIssue
  dsimp only
  rw [if_pos hst, hfind]

/-- An operation in progress ends with a status it may have: it is counted, its requester and what hung on it are told, and the
die is lost after too many time-outs or failed blocks. -/
theorem nandOpComplete_of_running {x : Desc} {st : NandStatus} {a b e : Dev} {gone : List (Nat × Nat × Desc)}
    (hcur : (s.die ch d).cur = some x) (hmay : s.mayEnd st = true) (hst : (s.die ch d).st ≠ .init)
    (ha : a = (s.dieCounts ch d x st).modDie ch d (fun c => { c with cur := none }))
    (hend : (if st = .timeout then a.latch Reg.FLSH_ERR 8 else a).descEnd ch d x st = (b, gone)) (he : e = Dev.goneAll goneFuel gone b) :
    nandOpComplete ch d st s =
      ((if (e.die ch d).works && (decide (2 ≤ (e.die ch d).timeouts) || decide (4 ≤ (e.die ch d).fails.length)) then
        e.dropDie ch d (nandCode st) else e).dieNext ch d).evalAgain := by
  have hends : ¬ ((!s.mayEnd st || decide ((s.die ch d).st = .init)) = true) := by simp [hmay, hst]
  subst ha he
  unfold nandOpComplete
  rw [hcur]
  dsimp only
  rw [if_neg hends, hend]

/-- The two commands that end an operation, with the status that each gives. -/
theorem exec_of_nand_end {ch : Fin 16} {d : Fin 8} {c : Instr} {st : NandStatus} {s : State}
    (hc : c = .nandOpComplete ch d st ∧ s.dev.mayEnd st = true ∨ c = .nandOpTimeout ch d ∧ st = .timeout) :
    s.dev.mayEnd st = true ∧ exec c s = .next (s.put (nandOpComplete ch.val d.val st s.dev).settle) := by
  rcases hc with ⟨rfl, hmay⟩ | ⟨rfl, rfl⟩
  · exact ⟨hmay, exec_nandOpComplete ch d st s⟩
  · exact ⟨rfl, exec_nandOpTimeout ch d s⟩

/-- A demand read of a refetch at the head of a busy die's queue suspends the erase of a row that has run for its time. -/
theorem nandSuspend_of_erase {x y : Desc} {rest : List Desc} {k loc g : Nat} {slc : Bool} (hst : (s.die ch d).st = .busy)
    (hcur : (s.die ch d).cur = some x) (hx : x.op = .erase k) (hqueue : (s.die ch d).queue = y :: rest) (hdemand : y.demand = true)
    (hy : y.op = .read loc slc (.refetch g)) (hrun : s.minRun (s.die ch d) = true) :
    nandSuspend ch d s =
      (s.modDie ch d (fun c => { c with st := .suspended, susp := some x, cur := none })).wrapReg Reg.FLSH_SUSPEND 16 16 1 := by
  simp [nandSuspend, hst, hcur, hqueue, hx, hdemand, hy, hrun]

/-! ### READY_NAND (R272, Table 11-8) -/

theorem readyNand_of_checked {a b c e : Dev} (hst : s.flsh.st = 1) (hdies : s.flsh.dies.any (fun c => decide (c.st = .init)) = false)
    (hworks : s.flshFailed = false)
    (ha : a = ((s.flsh.rows.filter (fun p => decide (p.2.st = .undefinedRow))).map (fun p => p.1)).foldl Dev.logUndefined s)
    (hb : b = ((a.flsh.cut.map (fun c => rowKey (c / 2 ^ 14) (bitsOf c 11 3))).eraseDups).foldl Dev.closeRow a)
    (hc : c = ((b.flsh.rows.filter (fun p => b.isXr (p.1 / 8) && decide (p.2.st = .opened))).map (fun p => p.1)).foldl
      (fun s k => s.modRow k (fun r => { r with st := .closed })) b)
    (he : e = (c.flsh.blockErase.filter (fun p => p.2.2)).foldl
      (fun s p => (s.latch Reg.FLSH_ERR 10).logStd LT.NAND_UNDEFINED p.1 0) c) :
    readyNand s =
      (((e.modFlsh (fun x => { x with st := 2, cut := [], factoryDone := true })).endurance.setReady Rdy.NAND).journalStep).evalAgain := by
  have hchecked : ¬ ((decide (s.flsh.st ≠ 1) || s.flsh.dies.any (fun c => decide (c.st = .init))) = true) := by simp [hst, hdies]
  have hstays : ¬ (s.flshFailed = true) := by simp [hworks]
  subst ha hb hc he
  unfold readyNand
  rw [if_neg hchecked, if_neg hstays]

/-! ### Firmware's raw access (R406, R409, BH02) -/

/-- The operation that a write of CORE_FW_NAND_CMD with OP asks for at the location that CORE_FW_NAND_LOC holds. -/
def fwNandOp (d : Dev) (op : Nat) (slc : Bool) : DOp :=
  if op = 1 then .read (d.regN Reg.CORE_FW_NAND_LOC) slc .firmware
  else if op = 2 then .fwProgram (d.regN Reg.CORE_FW_NAND_LOC) slc d.pageSlice
  else .fwErase (d.regN Reg.CORE_FW_NAND_LOC)

section
variable {src : Src} {val : Word} {op : Nat} {d : Dev} (hd : d = s.setRegF Reg.CORE_FW_NAND_CMD 0 3 (op + 4 * bitsOf val.toNat 2 1))
  (hacc : s.accepts src Reg.CORE_FW_NAND_CMD = true) (hgo : s.regF Reg.CORE_FW_NAND_CMD 3 1 = 0)
include hd hacc hgo

/-- With no operation in progress, an operation that BH02 allows on a working die is queued with GO set. -/
theorem fwNand_of_allowed (hst : 2 ≤ d.flsh.st)
    (hdie : d.dieWorks (locCh (d.regN Reg.CORE_FW_NAND_LOC)) (locDie (d.regN Reg.CORE_FW_NAND_LOC)) = true)
    (hmay : op = 1 ∨ d.core.mode = .maintenance ∧ d.freeSpare (d.regN Reg.CORE_FW_NAND_LOC) = true) :
    fwNand src val op s = (d.setRegF Reg.CORE_FW_NAND_CMD 3 1 1).pushDesc (locCh (d.regN Reg.CORE_FW_NAND_LOC))
      (locDie (d.regN Reg.CORE_FW_NAND_LOC)) { op := fwNandOp d op (val.getLsbD 2), prio := 8 } := by
  have hidle : ¬ s.regF Reg.CORE_FW_NAND_CMD 3 1 = 1 := by simp [hgo]
  have hallowed : ¬ ((decide (op ≠ 1) && !(decide (d.core.mode = .maintenance) && d.freeSpare (d.regN Reg.CORE_FW_NAND_LOC))) = true) := by
    rcases hmay with rfl | ⟨hmode, hspare⟩
    · simp
    · simp [hmode, hspare]
  have hworks : ¬ ((!d.dieWorks (locCh (d.regN Reg.CORE_FW_NAND_LOC)) (locDie (d.regN Reg.CORE_FW_NAND_LOC))) = true) := by simp [hdie]
  subst hd
  unfold fwNand
  rw [guarded_of_accepts _ hacc]
  dsimp only
  rw [if_neg hidle, if_neg hallowed, if_neg (Nat.not_lt.mpr hst), if_neg hworks]
  rfl

/-- A program or an erase that BH02 does not allow to firmware is turned away at it. -/
theorem fwNand_of_blocked {pc : Word} (hsrc : src = .firmware pc) (hop : op ≠ 1)
    (hno : ¬(d.core.mode = .maintenance ∧ d.freeSpare (d.regN Reg.CORE_FW_NAND_LOC) = true)) :
    fwNand src val op s = ((if d.isXr (locBlock (d.regN Reg.CORE_FW_NAND_LOC)) then d.latch Reg.XING_ERR 7 else d).bulkhead
      2 3 .bulkhead (d.regN Reg.CORE_FW_NAND_LOC) pc).fwNandEnd 0xFF .bulkhead := by
  have hidle : ¬ s.regF Reg.CORE_FW_NAND_CMD 3 1 = 1 := by simp [hgo]
  have hblocked : (decide (op ≠ 1) && !(decide (d.core.mode = .maintenance) && d.freeSpare (d.regN Reg.CORE_FW_NAND_LOC))) = true := by
    simpa [hop, or_iff_not_imp_left] using hno
  subst hd hsrc
  unfold fwNand
  rw [guarded_of_accepts _ hacc]
  dsimp only
  rw [if_neg hidle, if_pos hblocked]

end

end

/-- The three commands that write CORE_FW_NAND_CMD, with OP and the operation of each. -/
theorem exec_of_fwNand_command {src : Src} {val : Word} {c : Instr} {op : Nat} {x : DOp} {d : Dev} (s : State)
    (hc : (c, op, x) ∈ [(Instr.fwNandRead src val, 1, DOp.read (d.regN Reg.CORE_FW_NAND_LOC) (val.getLsbD 2) .firmware),
      (.fwNandProgram src val, 2, .fwProgram (d.regN Reg.CORE_FW_NAND_LOC) (val.getLsbD 2) d.pageSlice),
      (.fwNandErase src val, 3, .fwErase (d.regN Reg.CORE_FW_NAND_LOC))]) :
    x = fwNandOp d op (val.getLsbD 2) ∧ exec c s = .next (s.put (fwNand src val op s.dev).settle) := by
  simp only [List.mem_cons, Prod.mk.injEq, List.not_mem_nil, or_false] at hc
  rcases hc with ⟨rfl, rfl, rfl⟩ | ⟨rfl, rfl, rfl⟩ | ⟨rfl, rfl, rfl⟩ <;> exact ⟨rfl, rfl⟩

/-- The two commands by which firmware changes NAND, with OP of each. -/
theorem exec_of_fwNand_change {src : Src} {val : Word} {c : Instr} {op : Nat} (s : State)
    (hc : (c, op) ∈ [(Instr.fwNandProgram src val, 2), (.fwNandErase src val, 3)]) :
    op ≠ 1 ∧ exec c s = .next (s.put (fwNand src val op s.dev).settle) := by
  simp only [List.mem_cons, Prod.mk.injEq, List.not_mem_nil, or_false] at hc
  rcases hc with ⟨rfl, rfl⟩ | ⟨rfl, rfl⟩ <;> exact ⟨by decide, rfl⟩

/-! ### The obligations -/

/-- Settles O15: an operation that BH02 allows is queued, one that it does not allow is turned away. -/
theorem firmwareNandAccessIsQueuedOrRefused : Obligations.firmware_nand_access_is_queued_or_refused := by
  refine ⟨?queued, ?refused⟩
  case queued =>
    intro src val s c op x d hd hc hacc hgo hst hdie hmay
    obtain ⟨rfl, hexec⟩ := exec_of_fwNand_command s hc
    rw [hexec, fwNand_of_allowed hd hacc hgo hst hdie hmay]
  case refused =>
    intro pc val s c op d hd hc hacc hgo hno
    obtain ⟨hop, hexec⟩ := exec_of_fwNand_change s hc
    rw [hexec, fwNand_of_blocked hd hacc hgo rfl hop hno]

/-- Settles O44: the check of a die by its answer, each event of a die at work, and the end of the scans. -/
theorem nandDiesWork : Obligations.nand_dies_work := by
  refine ⟨?check, ?issue, ?complete, ?suspend, ?ready⟩
  case check =>
    intro ch d id phy bad s e f hst hch he hf
    refine ⟨?_, ?_, ?_⟩
    · rintro rfl
      rw [exec_nandDieCheckEnd, nandDieCheckEnd_of_no_answer hst hch bad he]
    · rintro rfl rfl
      rw [exec_nandDieCheckEnd, nandDieCheckEnd_of_match hst hch bad he hf]
    · rintro rfl rfl
      rw [exec_nandDieCheckEnd, nandDieCheckEnd_without_phy hst hch bad he]
  case issue =>
    intro ch d x s hst hfind
    rw [exec_nandOpIssue, nandOpIssue_of_idle hst hfind]
  case complete =>
    intro ch d x c st s a b e gone hc hcur hst ha hend he
    obtain ⟨hmay, hexec⟩ := exec_of_nand_end hc
    rw [hexec, nandOpComplete_of_running hcur hmay hst ha hend he]
  case suspend =>
    intro ch d loc x y rest g slc s hst hcur hx hqueue hdemand hy hrun
    rw [exec_nandSuspend, nandSuspend_of_erase hst hcur hx hqueue hdemand hy hrun]
  case ready =>
    intro s a b c d hst hdies hworks ha hb hc hd
    rw [exec_readyNand, readyNand_of_checked hst hdies hworks ha hb hc hd]

end Sys2Proof.Laws
end

section
/-!
PROOFS. The statements of chapter 12 on the charter store: its start, its descriptors, the protected regions and the ROM's services.
-/
namespace Sys2Proof.Laws
open Sys2Proof Sys2Proof.Machine

/-! ### What the commands run -/

theorem exec_partReady (s : State) : exec .partReady s = .next (s.put (partReady s.dev)) := rfl
theorem exec_chtrDiscoveryDone (supported xspi : Bool) (density : Fin 4) (jedec : BitVec 24) (page512 : Bool) (s : State) :
    exec (.chtrDiscoveryDone supported xspi density jedec page512) s =
      .next (s.put (chtrDiscoveryDone supported xspi density jedec page512 s.dev).settle) := rfl
theorem exec_chtrRefclkStable (s : State) : exec .chtrRefclkStable s = .next (s.put (chtrRefclkStable s.dev)) := rfl
theorem exec_chtrRefclkLost (s : State) : exec .chtrRefclkLost s = .next (s.put (chtrRefclkLost s.dev)) := rfl
theorem exec_chtrOpComplete (bad : Bool) (s : State) : exec (.chtrOpComplete bad) s = .next (s.put (chtrOpComplete bad s.dev).settle) := rfl
theorem exec_chtrOpTimeout (s : State) : exec .chtrOpTimeout s = .next (s.put (chtrOpTimeout s.dev).settle) := rfl
theorem exec_chtrCmplAck (src : Src) (s : State) : exec (.chtrCmplAck src) s = .next (s.put (chtrCmplAck src s.dev)) := rfl
theorem exec_chtrPrRead (src : Src) (s : State) : exec (.chtrPrRead src) s = .next (s.put (prCommand src false s.dev).settle) := rfl
theorem exec_chtrPrWrite (src : Src) (s : State) : exec (.chtrPrWrite src) s = .next (s.put (prCommand src true s.dev).settle) := rfl
theorem exec_pwSet (src : Src) (region : Bool) (s : State) : exec (.pwSet src region) s = .next (s.put (pwSet src region s.dev).settle) := rfl
theorem exec_pwUnlock (src : Src) (region : Bool) (s : State) :
    exec (.pwUnlock src region) s = .next (s.put (pwUnlock src region s.dev).settle) := rfl
theorem exec_pwLock (src : Src) (region : Bool) (s : State) : exec (.pwLock src region) s = .next (s.put (pwLock src region s.dev)) := rfl
theorem exec_pwClear (src : Src) (region : Bool) (s : State) :
    exec (.pwClear src region) s = .next (s.put (pwClear src region s.dev).settle) := rfl
theorem exec_pwEraseRegion (src : Src) (region : Bool) (s : State) :
    exec (.pwEraseRegion src region) s = .next (s.put (pwEraseRegion src region s.dev).settle) := rfl
theorem exec_pwLockoutExpiry (region : Bool) (s : State) : exec (.pwLockoutExpiry region) s =
    .next (s.put (s.dev.modPw (if region then 4 else 3) (fun r => { r with lockout := none }))) := rfl
theorem exec_romRead (addr : Word) (buf : BitVec 18) (len : BitVec 17) (pc : Word) (s : State) :
    exec (.romRead addr buf len pc) s = .next (s.put (romRead addr buf len pc s.dev).settle) := rfl
theorem exec_romProgram (addr : Word) (buf : BitVec 18) (ram : Bytes) (pc : Word) (s : State) :
    exec (.romProgram addr buf ram pc) s = .next (s.put (romProgram addr buf ram pc s.dev).settle) := rfl
theorem exec_romErase (addr : Word) (big : Bool) (pc : Word) (s : State) :
    exec (.romErase addr big pc) s = .next (s.put (romErase addr big pc s.dev).settle) := rfl
theorem exec_romSfdp (off : Word) (buf : BitVec 18) (len : BitVec 9) (pc : Word) (s : State) :
    exec (.romSfdp off buf len pc) s = .next (s.put (romSfdp off buf len pc s.dev).settle) := rfl
theorem exec_romCrc32c (ram : Bytes) (init : Word) (s : State) :
    exec (.romCrc32c ram init) s = .next (s.put (romCrc32c ram init s.dev)) := rfl

section
variable {s : Dev}

/-! ### The start of the store (R277, R278, R299, Table 12-11) -/

theorem partReady_of_waiting (hst : s.chtr.st = 1) : partReady s = s.modChtr (fun c => { c with partReady := true }) := if_pos hst

section
variable {xspi : Bool} {density : Fin 4} {jedec : BitVec 24} {page512 : Bool} (hst : s.chtr.st = 1) (hready : s.chtr.partReady = true)
include hst hready

/-- SFDP is taken once the part is ready. -/
theorem discovery_runs : ¬ (decide (s.chtr.st ≠ 1) || !s.chtr.partReady) = true := by simp [hst, hready]

theorem chtrDiscoveryDone_of_supported (hsize : density.val ≠ 0) :
    chtrDiscoveryDone true xspi density jedec page512 s = (s.modChtr (fun c => { c with
      st := 2, proto := if xspi then 2 else 1, density := density.val, jedec := jedec.toNat, page512 := page512
      refclk := c.refStable })).chNext := by
  have hmet : (true && decide (density.val ≠ 0)) = true := by simpa using hsize
  unfold chtrDiscoveryDone
  rw [if_neg (discovery_runs hst hready), if_pos hmet]

theorem chtrDiscoveryDone_of_unsupported :
    chtrDiscoveryDone false xspi density jedec page512 s =
      (s.modChtr (fun c => { c with st := 3, jedec := jedec.toNat })).latch Reg.CHTR_ERR 4 := by
  unfold chtrDiscoveryDone
  rw [if_neg (discovery_runs hst hready), if_neg (by simp)]

end

theorem chtrRefclkStable_of_ready (hst : s.chtr.st = 2) :
    chtrRefclkStable s = s.modChtr (fun c => { c with refStable := true, refclk := true, refLost := false }) := by
  simp only [chtrRefclkStable, Dev.modChtr, if_pos hst]

theorem chtrRefclkLost_of_ready (hst : s.chtr.st = 2) :
    chtrRefclkLost s = s.modChtr (fun x => if s.chtr.cur.isSome then { x with refStable := false, refLost := true }
      else { x with refStable := false, refclk := false }) := by
  simp only [chtrRefclkLost, Dev.modChtr, if_neg (not_not.mpr hst)]

/-! ### Descriptors (R279, R281, R285, R297, R303) -/

/-- A descriptor whose words are loaded and that the store takes is queued. -/
theorem chCommand_of_takes {src : Src} {op : Nat} {tag : Byte} {l : BitVec 16} {addr w : Word} {r : Bytes} {b : Option Nat} {d : Dev}
    (hop : op < 16) (hacc : s.accepts src Reg.CHTR_SUBMIT = true) (hd : d = s.chLoaded src op tag l addr w r)
    (hwords : d.chPort (chIdx src) = { s.chPort (chIdx src) with
      d0 := BitVec.ofNat 32 (op + fieldAt 8 8 tag.toNat + fieldAt 16 16 l.toNat), d1 := addr, d2 := w })
    (hb : chBuf src op w.toNat (chLen op (l.toNat + 1)) = some b) (htakes : d.chTakes src op addr.toNat (l.toNat + 1) = true) :
    chCommand src op tag l addr w r s =
      (d.chQueue (d.chDescOf src op addr.toNat (l.toNat + 1) (.native tag.toNat) b)).writeStatus src .ok := by
  obtain ⟨hfop, hftag, hflen⟩ := descriptor_fields op tag l hop
  rw [chCommand, guarded_of_accepts _ hacc, ← hd, Dev.chGo, hwords]
  dsimp only
  rw [hfop, hftag, hflen, chSubmit_of_takes _ _ _ hb htakes]

/-- An operation that is not the logbook's ends: it is carried out, its requester is told, and the next starts. -/
theorem chtrOpComplete_of_running {x : ChDesc} {bad : Bool} {d : Dev} {st : St} (hcur : s.chtr.cur = some x) (hreq : x.req ≠ .logbook)
    (hdo : (s.modChtr (fun c => { c with cur := none, timeouts := 0 })).chDo x bad = (d, st)) :
    chtrOpComplete bad s = (d.storeTold x st).islandClock.chNext := by
  unfold chtrOpComplete
  rw [hcur]
  dsimp only
  rw [if_neg hreq, hdo]

theorem chtrOpTimeout_of_running {x : ChDesc} {d : Dev} (hcur : s.chtr.cur = some x) (hreq : x.req ≠ .logbook)
    (hd : d = ((((s.chCut.modChtr (fun c => { c with cur := none, timeouts := c.timeouts + 1 })).chErr 3 x.addr).storeTold
      x .storeTimeout).logStd LT.CS_OP_FAIL x.addr St.storeTimeout.code).islandClock) :
    chtrOpTimeout s = if d.chtr.timeouts = 2 then d.storeFail else d.chNext := by
  subst hd
  unfold chtrOpTimeout
  rw [hcur]
  dsimp only
  rw [if_neg hreq]

theorem chtrCmplAck_of_accepts {src : Src} (hacc : s.accepts src Reg.CHTR_CMPL_ACK = true) :
    chtrCmplAck src s = (s.modChPort (chIdx src) (fun p => { p with cmpl := p.cmpl.drop 1 })).writeStatus src .ok :=
  guarded_of_accepts _ hacc

/-! ### The protected regions (R294, R295, R303) -/

section
variable {src : Src} {p : Port} {pr block : Nat} (hacc : s.accepts src Reg.CHTR_PR_CMD = true) (hpr : pr = s.regF Reg.CHTR_PR_ADDR 0 3)
  (hblock : block = s.regF Reg.CHTR_PR_ADDR 8 10) (hfor : s.actsFor src = some p) (hmine : p = .yard ∨ pr = ownRegion p)
  (hfree : s.chtr.prBusy = false)
include hacc hpr hblock hfor hmine hfree

/-- A command on a block of a region of the source, with no other in progress, is refused or goes to the engine. -/
theorem prCommand_of_owner (write : Bool) :
    prCommand src write s =
      ((s.prRefusal pr block).map (fun st => (s.prEnd st).writeStatus src st)).getD
        (((s.modChtr (fun c => { c with prBusy := true })).chQueue (prDesc pr block
          (if write then .prWrite pr block (s.chPort (chIdx src)).buf else .prRead pr block (chIdx src)))).writeStatus src .ok) := by
  have howner : ¬ (decide (p ≠ .yard) && decide (pr ≠ ownRegion p)) = true := by
    rcases hmine with h | h <;> simp [h]
  subst hpr hblock
  unfold prCommand
  rw [guarded_of_accepts _ hacc]
  dsimp only
  rw [hfor]
  dsimp only
  rw [if_neg howner, if_neg (by simp [hfree])]
  cases s.prRefusal (s.regF Reg.CHTR_PR_ADDR 0 3) (s.regF Reg.CHTR_PR_ADDR 8 10) <;> rfl

theorem prCommand_of_refusal (write : Bool) {st : St} (hno : s.prRefusal pr block = some st) :
    prCommand src write s = (s.prEnd st).writeStatus src st := by
  rw [prCommand_of_owner hacc hpr hblock hfor hmine hfree, hno]
  rfl

theorem prCommand_of_taken (write : Bool) (hyes : s.prRefusal pr block = none) :
    prCommand src write s = ((s.modChtr (fun c => { c with prBusy := true })).chQueue (prDesc pr block
      (if write then .prWrite pr block (s.chPort (chIdx src)).buf else .prRead pr block (chIdx src)))).writeStatus src .ok := by
  rw [prCommand_of_owner hacc hpr hblock hfor hmine hfree, hyes]
  rfl

end

/-! ### The passwords (R296) -/

section
variable {p : Port} {region : Bool} {pr : Nat} {d : Dev} (hacc : s.accepts (.port p) Reg.CHTR_PW_CMD = true)
  (hpr : pr = if region then 4 else 3) (hready : s.rdy Rdy.CIPHER = true) (hd : d = s.writeStatus (.port p) .ok)
include hacc hpr hready hd

/-- A password command of a port that may give it acts, and the password registers clear. -/
theorem pwCommand_of_owner {yard : Bool} (hmine : if yard then p = .yard else ownRegion p = pr)
    (act : Nat → Dev → Dev) : pwCommand (.port p) region yard act s = (act pr d).clearPw := by
  subst hpr hd
  have hgiven : ¬ (!decide (if yard = true then p = .yard else decide (ownRegion p = if region then 4 else 3) = true)) = true := by
    cases yard <;> simpa using hmine
  unfold pwCommand
  rw [guarded_of_accepts _ hacc]
  dsimp only
  rw [if_neg hgiven, if_neg (by simp [hready])]

theorem pwEraseRegion_of_yard (hyard : p = .yard) :
    pwEraseRegion (.port p) region s = (d.chQueue (prDesc 2 1 (.prErase pr))).clearPw :=
  pwCommand_of_owner hacc hpr hready hd (yard := true) hyard _

variable (hown : ownRegion p = pr)
include hown

theorem pwSet_of_allowed (hallowed : d.pwAllowed pr = true) (hopen : d.prLocked pr = false) :
    pwSet (.port p) region s = (d.chQueue (prDesc 2 1 (.pwSet pr (some (pwVerifier pr d.password))))).clearPw := by
  rw [pwSet, pwCommand_of_owner hacc hpr hready hd (yard := false) hown, if_neg (by simp [hallowed]), if_neg (by simp [hopen])]

theorem pwLock_of_owner : pwLock (.port p) region s = ((d.modPw pr (fun r => { r with opened := false })).pwEnd .ok).clearPw :=
  pwCommand_of_owner hacc hpr hready hd (yard := false) hown _

theorem pwClear_of_open (hopen : d.prLocked pr = false) :
    pwClear (.port p) region s = (d.chQueue (prDesc 2 1 (.pwSet pr none))).clearPw := by
  rw [pwClear, pwCommand_of_owner hacc hpr hready hd (yard := false) hown, if_neg (by simp [hopen])]

section
variable {v : BitVec 128} (hlockout : (d.pwOf pr).lockout = none) (hverifier : (d.pwOf pr).verifier = some v)
include hlockout hverifier

theorem pwUnlock_of_right (hright : v = pwVerifier pr d.password) :
    pwUnlock (.port p) region s = ((d.modPw pr (fun r => { r with opened := true, fails := 0 })).pwEnd .ok).clearPw := by
  rw [pwUnlock, pwCommand_of_owner hacc hpr hready hd (yard := false) hown]
  dsimp only
  rw [if_neg (by simp [hlockout]), hverifier]
  dsimp only
  rw [if_pos hright]

/-- A wrong password is counted and recorded, and the fifth in a row locks the region out. -/
theorem pwUnlock_of_wrong (hwrong : v ≠ pwVerifier pr d.password) :
    pwUnlock (.port p) region s = ((((d.modPw pr (fun r => { r with
      fails := min 5 ((d.pwOf pr).fails + 1), lockout := if min 5 ((d.pwOf pr).fails + 1) = 5 then some d.ticks else none })).latch
        Reg.CHTR_ERR 7).logStd LT.PW_FAIL pr St.pwBad.code).pwEnd .pwBad).clearPw := by
  rw [pwUnlock, pwCommand_of_owner hacc hpr hready hd (yard := false) hown]
  dsimp only
  rw [if_neg (by simp [hlockout]), hverifier]
  dsimp only
  rw [if_neg hwrong]

end

end

/-! ### The services of the ROM (R298, Table 12-10) -/

/-- A service submits one descriptor under firmware's rights; a firmware write of a status has no port to answer. -/
theorem romService_of_takes {op addr len : Nat} {buf : BitVec 18} {ram : Bytes} {pc : Word} {b : Option Nat} {d : Dev}
    (hcores : s.core.fwState = 2)
    (hd : d = ({ s with fram := Memory.writeBytes 0 s.fram buf.toNat (ram.take (0x40000 - buf.toNat)) } : Dev).modChtr
      (fun c => { c with romA := none }))
    (hb : chBuf (.firmware pc) op (0x20000000 + buf.toNat) (chLen op len) = some b)
    (htakes : d.chTakes (.firmware pc) op addr len = true) :
    romService op addr len buf ram pc s = d.chQueue (d.chDescOf (.firmware pc) op addr len .romService b) := by
  subst hd
  unfold romService
  rw [if_neg (not_not.mpr hcores)]
  exact chSubmit_of_takes 0 _ .romService hb htakes

theorem romRead_of_length {addr : Word} {buf : BitVec 18} {len : BitVec 17} {pc : Word} (hlen : 1 ≤ len.toNat ∧ len.toNat ≤ 65536) :
    romRead addr buf len pc s = romService 1 addr.toNat len.toNat buf [] pc s := if_pos (by simpa using hlen)

theorem romProgram_of_length {addr : Word} {buf : BitVec 18} {ram : Bytes} {pc : Word}
    (hlen : 1 ≤ ram.length ∧ ram.length ≤ 256 ∧ addr.toNat % 256 + ram.length ≤ 256) :
    romProgram addr buf ram pc s = romService 2 addr.toNat ram.length buf ram pc s := if_pos (by simpa [and_assoc] using hlen)

theorem romSfdp_of_length {off : Word} {buf : BitVec 18} {len : BitVec 9} {pc : Word} (hlen : 1 ≤ len.toNat ∧ len.toNat ≤ 256) :
    romSfdp off buf len pc s = romService 6 off.toNat len.toNat buf [] pc s := if_pos (by simpa using hlen)

theorem romRead_of_no_length (addr : Word) (buf : BitVec 18) (pc : Word) (hcores : s.core.fwState = 2) :
    romRead addr buf 0 pc s = s.modChtr (fun c => { c with romA := some (1, St.badParam.code) }) :=
  (if_neg (by decide)).trans (if_neg (not_not.mpr hcores))

theorem romCrc32c_of_running (ram : Bytes) (init : Word) (hcores : s.core.fwState = 2) :
    romCrc32c ram init s = s.modChtr (fun c => { c with romA := some (0, ram.foldl (crcStep 0) init.toNat ^^^ 0xFFFFFFFF) }) :=
  if_neg (not_not.mpr hcores)

end

/-- The five commands that load a descriptor and submit it, with its words and the data of each. -/
theorem exec_of_chtr_command {src : Src} {tag : Byte} {lenM1 l : BitVec 16} {addr buf w : Word} {ram r : Bytes} {c : Instr} {op : Nat}
    (s : State)
    (hc : (c, op, l, w, r) ∈ [(Instr.chtrRead src tag lenM1 addr buf, 1, lenM1, buf, []),
      (.chtrProgram src tag lenM1 addr buf ram, 2, lenM1, buf, ram), (.chtrErase4k src tag addr, 4, 0, 0xFFFFFFFF, []),
      (.chtrErase64k src tag addr, 5, 0, 0xFFFFFFFF, []), (.chtrReadSfdp src tag lenM1 addr buf, 6, lenM1, buf, [])]) :
    op < 16 ∧ exec c s = .next (s.put (chCommand src op tag l addr w r s.dev).settle) := by
  simp only [List.mem_cons, Prod.mk.injEq, List.not_mem_nil, or_false] at hc
  rcases hc with ⟨rfl, rfl, rfl, rfl, rfl⟩ | ⟨rfl, rfl, rfl, rfl, rfl⟩ | ⟨rfl, rfl, rfl, rfl, rfl⟩ | ⟨rfl, rfl, rfl, rfl, rfl⟩ |
    ⟨rfl, rfl, rfl, rfl, rfl⟩ <;> exact ⟨by decide, rfl⟩

/-- The four services that submit a descriptor, where their length is good. -/
theorem exec_of_rom_command {addr : Word} {buf : BitVec 18} {len : BitVec 17} {len9 : BitVec 9} {big : Bool} {ram r : Bytes} {pc : Word}
    {c : Instr} {op n bf : Nat} {s : State}
    (hc : (c, op, n, bf, r) ∈ [(Instr.romRead addr buf len pc, 1, len.toNat, buf.toNat, []),
      (.romProgram addr buf ram pc, 2, ram.length, buf.toNat, ram), (.romErase addr big pc, if big then 5 else 4, 0, 0, []),
      (.romSfdp addr buf len9 pc, 6, len9.toNat, buf.toNat, [])])
    (hread : op = 1 → 1 ≤ n ∧ n ≤ 65536) (hprogram : op = 2 → 1 ≤ n ∧ n ≤ 256 ∧ addr.toNat % 256 + n ≤ 256)
    (hsfdp : op = 6 → 1 ≤ n ∧ n ≤ 256) :
    ∃ at_ : BitVec 18, at_.toNat = bf ∧ exec c s = .next (s.put (romService op addr.toNat n at_ r pc s.dev).settle) := by
  simp only [List.mem_cons, Prod.mk.injEq, List.not_mem_nil, or_false] at hc
  rcases hc with ⟨rfl, rfl, rfl, rfl, rfl⟩ | ⟨rfl, rfl, rfl, rfl, rfl⟩ | ⟨rfl, rfl, rfl, rfl, rfl⟩ | ⟨rfl, rfl, rfl, rfl, rfl⟩
  · exact ⟨buf, rfl, by rw [exec_romRead, romRead_of_length (hread rfl)]⟩
  · exact ⟨buf, rfl, by rw [exec_romProgram, romProgram_of_length (hprogram rfl)]⟩
  · exact ⟨0, rfl, exec_romErase addr big pc s⟩
  · exact ⟨buf, rfl, by rw [exec_romSfdp, romSfdp_of_length (hsfdp rfl)]⟩

/-! ### The obligations -/

/-- Settles O45: each event of the start in the state that waits for it. -/
theorem theCharterStoreStarts : Obligations.the_charter_store_starts := by
  refine ⟨?ready, ?discovery, ?refclk⟩
  case ready =>
    intro s hst
    rw [exec_partReady, partReady_of_waiting hst]
  case discovery =>
    intro xspi density jedec page512 s hst hready
    refine ⟨fun hsize => ?_, ?_⟩
    · rw [exec_chtrDiscoveryDone, chtrDiscoveryDone_of_supported hst hready hsize]
    · rw [exec_chtrDiscoveryDone, chtrDiscoveryDone_of_unsupported hst hready]
  case refclk =>
    rintro s c rfl hst
    refine ⟨?_, ?_⟩
    · rw [exec_chtrRefclkStable, chtrRefclkStable_of_ready hst]
    · rw [exec_chtrRefclkLost, chtrRefclkLost_of_ready hst]

/-- Settles O46: the five descriptors by what submits them all, then each end of an operation. -/
theorem storeOperationsRun : Obligations.store_operations_run := by
  refine ⟨?submit, ?complete, ?timeout, ?ack⟩
  case submit =>
    intro src tag lenM1 addr buf ram c op l w r b s d hc hacc hd hwords hb htakes
    obtain ⟨hop, hexec⟩ := exec_of_chtr_command s hc
    rw [hexec, chCommand_of_takes hop hacc hd hwords hb htakes]
  case complete =>
    intro x bad s d st hcur hreq hdo
    rw [exec_chtrOpComplete, chtrOpComplete_of_running hcur hreq hdo]
  case timeout =>
    intro x s d hcur hreq hd
    rw [exec_chtrOpTimeout, chtrOpTimeout_of_running hcur hreq hd]
  case ack =>
    intro src s hacc
    rw [exec_chtrCmplAck, chtrCmplAck_of_accepts hacc]

/-- Settles O47: a block command by whether the engine takes it, and each password command of the region's owner. -/
theorem protectedRegionsAndPasswords : Obligations.protected_regions_and_passwords := by
  refine ⟨?blocks, ?passwords, exec_pwLockoutExpiry⟩
  case blocks =>
    intro src p pr block s hacc hpr hblock hfor hmine hfree
    refine ⟨fun st hno => ⟨?_, ?_⟩, fun hyes => ⟨?_, ?_⟩⟩
    · rw [exec_chtrPrRead, prCommand_of_refusal hacc hpr hblock hfor hmine hfree false hno]
    · rw [exec_chtrPrWrite, prCommand_of_refusal hacc hpr hblock hfor hmine hfree true hno]
    · rw [exec_chtrPrRead, prCommand_of_taken hacc hpr hblock hfor hmine hfree false hyes]
      rfl
    · rw [exec_chtrPrWrite, prCommand_of_taken hacc hpr hblock hfor hmine hfree true hyes]
      rfl
  case passwords =>
    intro p region pr s d hacc hpr hready hd
    refine ⟨?set, ?unlock, ?lock, ?clear, ?erase⟩
    case set =>
      intro hown hallowed hopen
      rw [exec_pwSet, pwSet_of_allowed hacc hpr hready hd hown hallowed hopen]
    case unlock =>
      intro v hown hlockout hverifier
      refine ⟨fun hright => ?_, fun hwrong => ?_⟩
      · rw [exec_pwUnlock, pwUnlock_of_right hacc hpr hready hd hown hlockout hverifier hright]
      · rw [exec_pwUnlock, pwUnlock_of_wrong hacc hpr hready hd hown hlockout hverifier hwrong]
    case lock =>
      intro hown
      rw [exec_pwLock, pwLock_of_owner hacc hpr hready hd hown]
    case clear =>
      intro hown hopen
      rw [exec_pwClear, pwClear_of_open hacc hpr hready hd hown hopen]
    case erase =>
      intro hyard
      rw [exec_pwEraseRegion, pwEraseRegion_of_yard hacc hpr hready hd hyard]

/-- Settles O48: the four services by what submits them all, the CRC and a read of no bytes. -/
theorem romServicesAnswer : Obligations.rom_services_answer := by
  refine ⟨?submit, ?crc, ?bad⟩
  case submit =>
    intro addr buf len len9 big ram pc c op n bf r b s d hc hcores hread hprogram hsfdp hd hb htakes
    obtain ⟨at_, rfl, hexec⟩ := exec_of_rom_command hc hread hprogram hsfdp
    rw [hexec, romService_of_takes hcores hd hb htakes]
  case crc =>
    intro ram init s hcores
    rw [exec_romCrc32c, romCrc32c_of_running ram init hcores]
  case bad =>
    intro addr buf pc s hcores
    rw [exec_romRead, romRead_of_no_length addr buf pc hcores]

end Sys2Proof.Laws
end

section
/-!
PROOFS. The statements of chapter 13 on the cipher engine, its epochs and the check-value units.
-/
namespace Sys2Proof.Laws
open Sys2Proof Sys2Proof.Machine

/-! ### What the commands run -/

theorem exec_cipherMessageStart (s : State) : exec .cipherMessageStart s = .next (s.put (cipherMessageStart s.dev).settle) := rfl
theorem exec_cipherMessageDone (lane : Fin 16) (res : MsgEnd) (s : State) :
    exec (.cipherMessageDone lane res) s = .next (s.put (cipherMessageDone lane.val res s.dev).settle) := rfl
theorem exec_ciphAdvance (src : Src) (s : State) : exec (.ciphAdvance src) s = .next (s.put (ciphAdvance src 1 s.dev).settle) := rfl
theorem exec_epochReservationCommit (done : Fin 3) (s : State) :
    exec (.epochReservationCommit done) s = .next (s.put (epochReservation done.val s.dev).settle) := rfl
theorem exec_epochReserveRetry (s : State) : exec .epochReserveRetry s = .next (s.put (epochReserveRetry s.dev).settle) := rfl
theorem exec_chkInit (src : Src) (n : Fin 8) (val : Word) (s : State) :
    exec (.chkInit src n val) s = .next (s.put (chkInit src n (val ||| 4) s.dev)) := rfl
theorem exec_chkValueWrite (src : Src) (n : Fin 8) (val : Word) (s : State) :
    exec (.chkValueWrite src n val) s = .next (s.put (chkValueWrite src n val s.dev)) := rfl
theorem exec_chkExpect (src : Src) (n : Fin 8) (val : Word) (s : State) :
    exec (.chkExpect src n val) s = .next (s.put (chkExpect src n val s.dev)) := rfl

section
variable {s : Dev}

/-! ### The arming condition KEYS (R316, R317) -/

theorem keysOk_iff : s.keysOk = true ↔
    s.ciph.st = .active ∧ s.ciph.reserved = true ∧ s.nX ≤ s.keyLeft + 2 ^ 28 * (s.ciph.limit - s.ciph.epoch) := by
  simp only [Dev.keysOk, Bool.and_eq_true, decide_eq_true_eq, and_assoc]

/-! ### A lane starts a message (R137, R307) -/

section
variable {m : Msg} {n : Nat} (hseals : s.sealsExhausted = false) (hlane : s.freeLane = some n)
include hseals hlane

theorem cipherMessageStart_of_demand (hfind : s.ciph.waiting.find? (fun m => s.msgDemand m && s.msgMay m) = some m) :
    cipherMessageStart s = s.takeMsg n m := by
  unfold cipherMessageStart
  rw [if_neg (by simp [hseals]), hfind, hlane]

theorem cipherMessageStart_without_demand (hnone : s.ciph.waiting.find? (fun m => s.msgDemand m && s.msgMay m) = none)
    (hsuspended : s.ciph.suspended = []) (hfind : s.ciph.waiting.find? s.msgMay = some m) :
    cipherMessageStart s = s.takeMsg n m := by
  unfold cipherMessageStart
  rw [if_neg (by simp [hseals]), hnone, hlane]
  dsimp only
  rw [hsuspended, hfind]

end

/-! ### A message ends at its lane (R132, R311) -/

section
variable {lane : Nat} {m : Msg} {d : Dev} (hlane : s.ciph.lanes.getD lane none = some m)
  (hd : d = s.modCiph (fun c => { c with lanes := c.lanes.set lane none }))
include hlane hd

/-- The end of an open gives its result to the restore that waits for it. -/
theorem cipherMessageDone_restore {g : Nat} (res : MsgEnd) (hwho : m.who = .restore g) :
    cipherMessageDone lane res s =
      match res with
      | .good => d.restoreGood g
      | .tagFail => (d.tagFailed true).restoreFail g true
      | .metaFail => d.restoreFail g false := by
  subst hd
  cases res <;> simp only [cipherMessageDone, hlane, hwho]

theorem cipherMessageDone_refetch {g : Nat} (res : MsgEnd) (hwho : m.who = .refetch g) :
    cipherMessageDone lane res s =
      match res with
      | .good => d.refetchResult g true
      | .tagFail => (d.tagFailed true).refetchFail g
      | .metaFail => d.refetchFail g := by
  subst hd
  cases res <;> simp only [cipherMessageDone, hlane, hwho]

/-- The end of the seal of a copy of a stream: its unit is ready to be programmed. -/
theorem cipherMessageDone_copy {id : Nat} {c : Copy} (res : MsgEnd) (hwho : m.who = .copy id) (hcopy : d.copy? id = some c)
    (hstream : c.cls.stream.isSome = true) : cipherMessageDone lane res s = d.copySealed id := by
  have hkept : ¬ c.cls.stream.isNone = true := by simpa [Option.isSome_iff_ne_none] using hstream
  subst hd
  simp only [cipherMessageDone, hlane, hwho, hcopy, if_neg hkept]

end

/-! ### Epochs and their reservation (R314 to R316, R319) -/

section
variable {src : Src} (hacc : s.accepts src Reg.CIPH_CTL = true)
include hacc

theorem ciphAdvance_below_limit (hst : s.ciph.st = .active) (hbelow : s.ciph.epoch < s.ciph.limit) :
    ciphAdvance src 1 s = (s.writeStatus src .ok).cipherTrigger := by
  rw [ciphAdvance, guarded_of_accepts _ hacc, if_neg (by decide), if_pos (by simp [hst, hbelow])]

theorem ciphAdvance_at_limit (hat : s.ciph.limit ≤ s.ciph.epoch) : ciphAdvance src 1 s = s.writeStatus src .notReady := by
  have hstays : ¬ (decide (s.ciph.st = .active) && decide (s.ciph.epoch < s.ciph.limit)) = true := by simp [Nat.not_lt.mpr hat]
  rw [ciphAdvance, guarded_of_accepts _ hacc, if_neg (by decide), if_neg hstays]

end

/-- Both blocks of a reservation in RESERVE are written: the limit rises and the engine is ACTIVE. -/
theorem epochReservation_of_both {limit starts : Nat} {d : Dev} (hres : s.ciph.reserving = some limit)
    (hstarts : starts = if s.ciph.reserved then s.ciph.starts else s.ciph.starts + 1)
    (hd : d = ((s.modCiph (fun c => { c with reserving := none })).putEpochBlock 2 limit starts).putEpochBlock 3 limit starts)
    (hst : d.ciph.st = .reserve) :
    epochReservation 2 s =
      (((d.modCiph (fun c => { c with limit := limit, starts := starts })).modCiph
        (fun c => { c with st := .active, reserved := true })).reserveMore.evalAgain) := by
  have hkept : (d.modCiph (fun c => { c with limit := limit, starts := starts })).ciph.st = .reserve := hst
  simp only [epochReservation, hres, ← hstarts, if_neg (Nat.lt_irrefl 2), if_pos Nat.one_le_ofNat, ← hd, hkept]

theorem epochReservation_of_none {limit : Nat} {d : Dev} (hres : s.ciph.reserving = some limit)
    (hd : d = s.modCiph (fun c => { c with reserving := none, retry := true })) :
    epochReservation 0 s = (d.latch Reg.CIPH_ERR 2).logStd LT.EPOCH_RESERVE_FAIL d.ciph.epoch limit := by
  have hretry : (s.modCiph (fun c => { c with reserving := none })).modCiph (fun c => { c with retry := true }) = d := hd.symm
  simp only [epochReservation, hres, if_neg (Nat.not_succ_le_zero 0), if_pos (Nat.zero_lt_two), hretry]

theorem epochReserveRetry_of_retry (hretry : s.ciph.retry = true) (hnone : s.ciph.reserving = none) :
    epochReserveRetry s = s.modCiph (fun c => { c with
      retry := false, reserving := some (if c.st = .reserve then c.epoch + 15 else c.limit + 16) }) :=
  if_pos (by simp [hretry, hnone])

/-! ### The check-value units (R321 to R325) -/

section
variable {src : Src} {n : Fin 8} {val : Word}

theorem chkInit_of_accepts (hacc : s.accepts src (Reg.CHK_CTL_0 + 0x20 * n.val) = true) :
    chkInit src n val s = (s.modChk n.val (fun c => c.ctl n.val val)).writeStatus src .ok := guarded_of_accepts _ hacc

theorem chkValueWrite_of_accepts (hacc : s.accepts src (Reg.CHK_VALUE_0 + 0x20 * n.val) = true) :
    chkValueWrite src n val s =
      (s.modChk n.val (fun c => { c with value := BitVec.ofNat 32 (val.toNat &&& chkMask c.poly) })).writeStatus src .ok :=
  guarded_of_accepts _ hacc

theorem chkExpect_of_accepts (hacc : s.accepts src (Reg.CHK_EXPECT_0 + 0x20 * n.val) = true) {hit : Bool}
    (hhit : hit = decide ((s.chk.getD n.val (ChkCtx.reset n.val)).result = val.toNat)) :
    chkExpect src n val s =
      if hit then (s.modChk n.val (fun c => { c with isMatch := hit, mismatch := !hit })).writeStatus src .ok
      else ((s.modChk n.val (fun c => { c with isMatch := hit, mismatch := !hit })).writeStatus src .ok).latch Reg.CHK_ERR n.val := by
  subst hhit
  exact guarded_of_accepts _ hacc

end

end

/-- The three feeds, with the register and the number of bytes of each, past the guard of their write. -/
theorem exec_of_feed_command {src : Src} {n : Fin 8} {val : Word} {c : Instr} {off k : Nat} {s : State}
    (hc : (c, off, k) ∈ [(Instr.chkFeed8 src n val, Reg.CHK_FEED8_0, 1), (.chkFeed16 src n val, Reg.CHK_FEED16_0, 2),
      (.chkFeed32 src n val, Reg.CHK_FEED32_0, 4)]) :
    exec c s = .next (s.put (s.dev.guarded src (off + 0x20 * n.val) (fun d =>
      (d.modChk n.val (fun c => c.feed (leBytes k val.toNat))).writeStatus src .ok))) := by
  simp only [List.mem_cons, Prod.mk.injEq, List.not_mem_nil, or_false] at hc
  rcases hc with ⟨rfl, rfl, rfl⟩ | ⟨rfl, rfl, rfl⟩ | ⟨rfl, rfl, rfl⟩ <;> rfl

/-! ### The obligations -/

/-- Settles O10: n_x over b_arm is that of R316, and left that of the key's count. -/
theorem keysHoldsWhereTheEpochsLast : Obligations.keys_holds_where_the_epochs_last := by
  rintro s left nX rfl rfl
  exact keysOk_iff

/-- Settles O49: a start by which message waits, an end by what the message was for, and the events of the epochs. -/
theorem theCipherEngineRuns : Obligations.the_cipher_engine_runs := by
  refine ⟨?start, ?done, ?advance, ?both, ?failed, ?retry⟩
  case start =>
    intro m n s hseals hlane hpick
    rcases hpick with hfind | ⟨hnone, hsuspended, hfind⟩
    · rw [exec_cipherMessageStart, cipherMessageStart_of_demand hseals hlane hfind]
    · rw [exec_cipherMessageStart, cipherMessageStart_without_demand hseals hlane hnone hsuspended hfind]
  case done =>
    intro lane m g s d hlane hd
    refine ⟨fun hwho => ⟨?_, ?_, ?_⟩, fun hwho => ⟨?_, ?_⟩, fun id c res hwho hcopy hstream => ?_⟩
    · rw [exec_cipherMessageDone, cipherMessageDone_restore hlane hd .good hwho]
    · rw [exec_cipherMessageDone, cipherMessageDone_restore hlane hd .tagFail hwho]
    · rw [exec_cipherMessageDone, cipherMessageDone_restore hlane hd .metaFail hwho]
    · rw [exec_cipherMessageDone, cipherMessageDone_refetch hlane hd .good hwho]
    · rw [exec_cipherMessageDone, cipherMessageDone_refetch hlane hd .metaFail hwho]
    · rw [exec_cipherMessageDone, cipherMessageDone_copy hlane hd res hwho hcopy hstream]
  case advance =>
    intro src s hacc hst
    refine ⟨fun hbelow => ?_, fun hat => ?_⟩
    · rw [exec_ciphAdvance, ciphAdvance_below_limit hacc hst hbelow]
    · rw [exec_ciphAdvance, ciphAdvance_at_limit hacc hat]
  case both =>
    intro limit starts s d hres _ hstarts hd hst
    rw [exec_epochReservationCommit, Fin.val_two, epochReservation_of_both hres hstarts hd hst]
  case failed =>
    intro limit s d hres hd
    rw [exec_epochReservationCommit, Fin.val_zero, epochReservation_of_none hres hd]
  case retry =>
    intro s hretry hnone
    rw [exec_epochReserveRetry, epochReserveRetry_of_retry hretry hnone]

/-- Settles O50: each register of a unit past the guard of its write. -/
theorem checkUnitsCompute : Obligations.check_units_compute := by
  intro src n val s
  refine ⟨?init, ?value, ?feed, ?expect⟩
  case init =>
    intro hacc
    rw [exec_chkInit, chkInit_of_accepts hacc]
  case value =>
    intro hacc
    rw [exec_chkValueWrite, chkValueWrite_of_accepts hacc]
  case feed =>
    intro c off k hc hacc
    rw [exec_of_feed_command hc, guarded_of_accepts _ hacc]
  case expect =>
    intro hit hacc hhit
    rw [exec_chkExpect, chkExpect_of_accepts hacc hhit]

end Sys2Proof.Laws
end

section
/-!
PROOFS. The statements of chapter 14 on the rails, the timetables and the bell line.
-/
namespace Sys2Proof.Laws
open Sys2Proof Sys2Proof.Machine

/-! ### What the commands run -/

theorem exec_railSample (pins : PinLevels) (sns tele : List Nat) (s : State) :
    exec (.railSample pins sns tele) s = .next (s.put (railSamples pins sns tele s.dev).settle) := rfl
theorem exec_pmStatusPoll (stat : List Byte) (s : State) :
    exec (.pmStatusPoll stat) s = .next (s.put (pmStatusPoll stat s.dev).settle) := rfl
theorem exec_rampTimeout (rail : Fin 24) (s : State) :
    exec (.rampTimeout rail) s = .next (s.put (rampTimeout rail.val s.dev).settle) := rfl
theorem exec_dischargeTimeout (rail : Fin 24) (s : State) :
    exec (.dischargeTimeout rail) s = .next (s.put (dischargeTimeout rail.val s.dev).settle) := rfl
theorem exec_restartWindowExpiry (rail : Fin 24) (s : State) : exec (.restartWindowExpiry rail) s =
    .next (s.put (s.dev.modRail rail.val (fun r => { r with restarts := r.restarts - 1 }))) := rfl
theorem exec_seqMarginWrite (src : Src) (val : Word) (s : State) :
    exec (.seqMarginWrite src val) s = .next (s.put (seqMarginWrite src val s.dev).settle) := rfl
theorem exec_timetableWaitExpiry (s : State) : exec .timetableWaitExpiry s = .next (s.put (timetableWait s.dev).settle) := rfl
theorem exec_timetableCheckTimeout (s : State) : exec .timetableCheckTimeout s = .next (s.put (checkTimeout s.dev).settle) := rfl
theorem exec_bellTx (src : Src) (val : Word) (s : State) : exec (.bellTx src val) s = .next (s.put (bellTx src val s.dev).settle) := rfl
theorem exec_bellFrame (k : Fin 64) (parityOk : Bool) (s : State) :
    exec (.bellFrame k parityOk) s = .next (s.put (bellFrame k.val parityOk s.dev).settle) := rfl
theorem exec_bellBarrierRelease (s : State) : exec .bellBarrierRelease s = .next (s.put (bellBarrierRelease s.dev).settle) := rfl
theorem exec_bellBarrierTimeout (s : State) : exec .bellBarrierTimeout s = .next (s.put (bellBarrierTimeout s.dev).settle) := rfl
theorem exec_bellLineFail (s : State) : exec .bellLineFail s = .next (s.put (bellLineFail s.dev).settle) := rfl
theorem exec_bellLineRecover (s : State) : exec .bellLineRecover s = .next (s.put (bellLineRecover s.dev).settle) := rfl

section
variable {s : Dev}

/-! ### Supervision (R341 to R344) -/

theorem railSamples_of_aonUp (pins : PinLevels) (sns tele : List Nat) (hup : s.aonUp = true) :
    railSamples pins sns tele s =
      (((List.range 24).foldl (fun (s : Dev) n => s.railTurn n sns tele) { s with pins := pins }).restartAll).pokeRun :=
  if_neg (by simp [hup])

theorem railTurn_of_populated {n : Nat} (sns tele : List Nat) (hpop : (s.railRec n).populated = true) :
    s.railTurn n sns tele = s.railSample n (if (s.railRec n).sense = 0xFF then tele.getD n 0
      else s.senseCorrect (s.railRec n).sense (sns.getD (s.railRec n).sense 0)) :=
  if_neg (by simp [hpop])

theorem pmStatusPoll_of_aonUp (stat : List Byte) (hup : s.aonUp = true) :
    pmStatusPoll stat s = (((List.range 24).foldl (fun (s : Dev) n => s.pmJudge n (stat.getD n 0).toNat) s).restartAll).pokeRun :=
  if_neg (by simp [hup])

theorem rampTimeout_of_restart {n : Nat} (hst : (s.rail n).st = .ramp)
    (hrestart : s.seq.restarts.any (fun r => r.ramping && decide (r.rails.head? = some n)) = true) :
    rampTimeout n s = ((if (s.railRec n).critical && !s.idleMode then ((s.railFail n 4).raiseCrit n).railDrop n
      else s.railFault n 4).restartAll).pokeRun :=
  if_pos (by rw [hrestart, hst]; decide)

theorem dischargeTimeout_of_discharging {n : Nat} (hst : (s.rail n).st = .disch) :
    dischargeTimeout n s =
      ((((s.modRail n (fun r => { r with st := .stuck })).latch Reg.SEQ_ERR 3).railFail n 5).restartAll).pokeRun := if_pos hst

/-! ### Margins (R345) -/

/-- A write of SEQ_MARGIN that R345 accepts applies its offset. -/
theorem seqMarginWrite_of_trimmable {src : Src} {val : Word} {n : Nat} {off : Int} {a : Dev}
    (hacc : s.accepts src Reg.SEQ_MARGIN = true) (ha : a = s.storeReg Reg.SEQ_MARGIN val) (hn : n = bitsOf val.toNat 0 8)
    (hoff : off = sint16 (bitsOf val.toNat 16 16))
    (hask : a.marginAsk n off = ((a.marginApply n off).modSeq (fun q => { q with marginStatus := 0 }), .ok)) :
    seqMarginWrite src val s = ((a.marginApply n off).modSeq (fun q => { q with marginStatus := 0 })).writeStatus src .ok := by
  subst ha hn hoff
  unfold seqMarginWrite
  rw [guarded_of_accepts _ hacc]
  dsimp only
  rw [hask]

/-! ### Timetables (R336 to R339) -/

theorem timetableWait_of_ticks (hrun : s.seq.run ≠ 0) (hwait : s.seq.wait = .ticks) :
    timetableWait s = (s.stepDone (s.steps.getD s.seq.step 5) (s.seq.step + 1)).resumeRun :=
  if_pos (by simp [hrun, hwait])

section
variable {w n : Nat} {d : Dev} (hrun : s.seq.run = 1) (hwait : s.seq.wait = .check) (hw : w = s.steps.getD s.seq.step 5)
  (hn : n = stepRail w) (hd : d = s.latch Reg.SEQ_ERR 0) (hup : d.seq.run = 1)
include hrun hwait hw hn hd hup

/-- A check of an up run times out: its step's target, the run's end, or the rail's fault. -/
theorem checkTimeout_of_up_run :
    checkTimeout s =
      if stepTarget w ≠ 0xFF then ((d.railFail n 4).goStep (stepTarget w)).resumeRun
      else if (d.railRec n).critical then (d.railFail n 4).stopRun n
      else ((d.railFault n 4).stepDone w (s.seq.step + 1)).resumeRun := by
  have hruns : ¬ (decide (s.seq.run = 0) || decide (s.seq.wait ≠ .check)) = true := by simp [hrun, hwait]
  subst hw hn hd
  unfold checkTimeout
  rw [if_neg hruns]
  exact if_pos hup

theorem checkTimeout_to_target (htarget : stepTarget w ≠ 0xFF) :
    checkTimeout s = ((d.railFail n 4).goStep (stepTarget w)).resumeRun := by
  rw [checkTimeout_of_up_run hrun hwait hw hn hd hup, if_pos htarget]

theorem checkTimeout_of_critical (htarget : stepTarget w = 0xFF) (hcrit : (d.railRec n).critical = true) :
    checkTimeout s = (d.railFail n 4).stopRun n := by
  rw [checkTimeout_of_up_run hrun hwait hw hn hd hup, if_neg (not_not.mpr htarget), if_pos hcrit]

theorem checkTimeout_of_uncritical (htarget : stepTarget w = 0xFF) (hcrit : (d.railRec n).critical = false) :
    checkTimeout s = ((d.railFault n 4).stepDone w (s.seq.step + 1)).resumeRun := by
  rw [checkTimeout_of_up_run hrun hwait hw hn hd hup, if_neg (not_not.mpr htarget), if_neg (by simp [hcrit])]

end

/-! ### The bell line (R346, R347, R349) -/

section
variable {src : Src} {val : Word} (hacc : s.accepts src Reg.SEQ_BELL_TX = true) (hrole : s.bellRole = 2)
include hacc hrole

theorem bellTx_of_free (hphase : s.seq.bellPhase = 0) :
    bellTx src val s = (s.modSeq (fun q => { q with bellPhase := 1, bellCur := bitsOf val.toNat 0 6 })).writeStatus src .ok := by
  rw [bellTx, guarded_of_accepts _ hacc, if_neg (not_not.mpr hrole), if_neg (not_not.mpr hphase)]

theorem bellTx_of_busy (hphase : s.seq.bellPhase ≠ 0) : bellTx src val s = s.writeStatus src .busy := by
  rw [bellTx, guarded_of_accepts _ hacc, if_neg (not_not.mpr hrole), if_pos hphase]

end

section
variable {k : Nat} (hup : s.aonUp = true) (hrole : s.bellRole ≠ 0) (hphase : s.seq.bellPhase ≠ 2) (hline : s.seq.bellFailed = false)
include hup hrole hphase hline

/-- A device that takes part in the bell line, outside a barrier, decodes a frame. -/
theorem frame_is_decoded : ¬ (!s.aonUp || decide (s.bellRole = 0) || decide (s.seq.bellPhase = 2) || s.seq.bellFailed) = true := by
  simp [hup, hrole, hphase, hline]

theorem bellFrame_of_bad_parity :
    bellFrame k false s = ((s.modSeq (fun q => { q with bellPhase := 0 })).latch Reg.SEQ_ERR 6).logStd LT.BELL_PARITY k s.bellStatus := by
  unfold bellFrame
  rw [if_neg (frame_is_decoded hup hrole hphase hline)]
  rfl

variable {d : Dev} (hd : d = (s.modSeq (fun q => { q with
  bellPhase := 2, bellCur := k, bellClaimed := true, bellTimedOut := false })).wrapReg Reg.SEQ_BELL_COUNT 0 16 1)
include hd

/-- A good frame claims the line and counts, then takes the event or the side run of its code. -/
theorem bellFrame_of_event {e : Ev} (hev : bellEv k = some e) : bellFrame k true s = d.note (.mode e) := by
  subst hd
  unfold bellFrame
  rw [if_neg (frame_is_decoded hup hrole hphase hline), if_neg (by decide), hev]

theorem bellFrame_of_side_run (hev : bellEv k = none) : bellFrame k true s = d.sideRun k := by
  subst hd
  unfold bellFrame
  rw [if_neg (frame_is_decoded hup hrole hphase hline), if_neg (by decide), hev]

end

theorem bellBarrierRelease_of_unclaimed (hphase : s.seq.bellPhase = 2) (hclaim : s.seq.bellClaimed = false) :
    bellBarrierRelease s = s.modSeq (fun q => { q with bellPhase := 0, bellLast := some q.bellCur }) :=
  if_pos (by simp [hphase, hclaim])

theorem bellBarrierTimeout_of_barrier {a d : Dev} (hphase : s.seq.bellPhase = 2)
    (ha : a = s.modSeq (fun q => { q with bellPhase := 0, bellClaimed := false, bellTimedOut := true }))
    (hd : d = (a.countReg Reg.SEQ_BELL_COUNT 16 16 1).latch Reg.SEQ_ERR 7) :
    bellBarrierTimeout s = d.logStd LT.BELL_TIMEOUT s.seq.bellCur a.bellStatus := by
  subst hd ha
  exact if_pos hphase

theorem bellLineFail_of_member {d : Dev} (hup : s.aonUp = true) (hrole : s.bellRole ≠ 0)
    (hd : d = (s.modSeq (fun q => { q with bellFailed := true, bellPhase := 0, bellClaimed := false })).clrReady Rdy.BELL) :
    bellLineFail s = (d.latch Reg.SEQ_ERR 8).logStd LT.BELL_FAIL d.seq.bellCur d.bellStatus := by
  subst hd
  exact if_neg (by simp [hup, hrole])

theorem bellLineRecover_of_failed (hline : s.seq.bellFailed = true) :
    bellLineRecover s = (s.modSeq (fun q => { q with bellFailed := false })).bellReady := if_pos hline

end

/-! ### The obligations -/

/-- Settles O51: a sample, a poll and each timeout of a rail, a margin that R345 accepts, and a wait and a check of a run. -/
theorem railsAreWatchedAndTimetablesRun : Obligations.rails_are_watched_and_timetables_run := by
  refine ⟨?sample, ?turn, ?poll, ?ramp, ?discharge, exec_restartWindowExpiry, ?margin, ?wait, ?check⟩
  case sample =>
    intro pins sns tele s hup
    rw [exec_railSample, railSamples_of_aonUp pins sns tele hup]
  case turn =>
    intro n sns tele d hpop
    exact railTurn_of_populated sns tele hpop
  case poll =>
    intro stat s hup
    rw [exec_pmStatusPoll, pmStatusPoll_of_aonUp stat hup]
  case ramp =>
    intro rail s hst hrestart
    rw [exec_rampTimeout, rampTimeout_of_restart hst hrestart]
  case discharge =>
    intro rail s hst
    rw [exec_dischargeTimeout, dischargeTimeout_of_discharging hst]
  case margin =>
    intro src val n off s a hacc ha hn hoff hmode hlow hhigh hrange hpop htrim
    rw [exec_seqMarginWrite,
      seqMarginWrite_of_trimmable hacc ha hn hoff (marginAsk_of_trimmable hmode hlow hhigh hrange hpop htrim)]
  case wait =>
    intro s hrun hwait
    rw [exec_timetableWaitExpiry, timetableWait_of_ticks hrun hwait]
  case check =>
    intro w n s d hrun hwait hw hn hd hup
    refine ⟨fun htarget => ?_, fun htarget hcrit => ?_, fun htarget hcrit => ?_⟩
    · rw [exec_timetableCheckTimeout, checkTimeout_to_target hrun hwait hw hn hd hup htarget]
    · rw [exec_timetableCheckTimeout, checkTimeout_of_critical hrun hwait hw hn hd hup htarget hcrit]
    · rw [exec_timetableCheckTimeout, checkTimeout_of_uncritical hrun hwait hw hn hd hup htarget hcrit]

/-- Settles O52: a code sent, a frame by its parity and its code, and each event of the barrier and of the line. -/
theorem theBellRings : Obligations.the_bell_rings := by
  refine ⟨?send, ?frame, ?release, ?timeout, ?fail, ?recover⟩
  case send =>
    intro src val s hacc hrole
    refine ⟨fun hphase => ?_, fun hphase => ?_⟩
    · rw [exec_bellTx, bellTx_of_free hacc hrole hphase]
    · rw [exec_bellTx, bellTx_of_busy hacc hrole hphase]
  case frame =>
    intro k s d hup hrole hphase hline hd
    refine ⟨fun e hev => ?_, fun hev => ?_, ?_⟩
    · rw [exec_bellFrame, bellFrame_of_event hup hrole hphase hline hd hev]
    · rw [exec_bellFrame, bellFrame_of_side_run hup hrole hphase hline hd hev]
    · rw [exec_bellFrame, bellFrame_of_bad_parity hup hrole hphase hline]
  case release =>
    intro s hphase hclaim
    rw [exec_bellBarrierRelease, bellBarrierRelease_of_unclaimed hphase hclaim]
  case timeout =>
    intro s d hphase hd
    rw [exec_bellBarrierTimeout, bellBarrierTimeout_of_barrier hphase rfl hd]
  case fail =>
    intro s d hup hrole hd
    rw [exec_bellLineFail, bellLineFail_of_member hup hrole hd]
  case recover =>
    intro s hline
    rw [exec_bellLineRecover, bellLineRecover_of_failed hline]

end Sys2Proof.Laws
end

section
/-!
PROOFS. The statements of chapter 15 on the battery estimator: its samples, its calibration points, the energy bound and the charger.
-/
namespace Sys2Proof.Laws
open Sys2Proof Sys2Proof.Machine

/-! ### What the commands run -/

theorem exec_battSample (cur : Option Int) (volt : Option Nat) (temp : Option Int) (idMv : Option Nat) (s : State) :
    exec (.battSample cur volt temp idMv) s = .next (s.put (battSample cur volt temp idMv s.dev).settle) := rfl
theorem exec_packPresenceHeld (s : State) : exec .packPresenceHeld s = .next (s.put (packHeld s.dev).settle) := rfl
theorem exec_settlingTimeout (s : State) : exec .settlingTimeout s = .next (s.put (settlingTimeout s.dev).settle) := rfl
theorem exec_faultRecovered (s : State) : exec .faultRecovered s = .next (s.put (faultRecovered s.dev).settle) := rfl
theorem exec_chargeTaper (s : State) : exec .chargeTaper s = .next (s.put (chargeTaper s.dev).settle) := rfl
theorem exec_dischargeTaper (s : State) : exec .dischargeTaper s = .next (s.put (dischargeTaper s.dev).settle) := rfl
theorem exec_restCalibration (s : State) : exec .restCalibration s = .next (s.put (restCalibration s.dev).settle) := rfl
theorem exec_elbRecompute (s : State) : exec .elbRecompute s = .next (s.put (elbRecompute s.dev).settle) := rfl
theorem exec_chargerRetry (s : State) : exec .chargerRetry s = .next (s.put (chargerRetry s.dev).settle) := rfl
theorem exec_battRecal (src : Src) (val : Word) (s : State) :
    exec (.battRecal src val) s = .next (s.put (battRecal src (val ||| 2) s.dev).settle) := rfl

section
variable {s : Dev}

/-! ### Samples (R356, R358 to R360) -/

/-- Fewer than three samples without a pack remove nothing. -/
theorem pack_stays (hstays : s.batt.goneRun < 3) : ¬ (decide (3 ≤ s.batt.goneRun) && decide (s.batt.st ≠ .absent)) = true := by
  simp [Nat.not_le.mpr hstays]

section
variable {cur : Option Int} {volt : Option Nat} {temp : Option Int} {idMv : Option Nat} {d : Dev} (hup : s.aonUp = true)
  (hd : d = (s.takeSample cur volt temp idMv).meter)
include hup hd

theorem battSample_of_gone (hgone : 3 ≤ d.batt.goneRun) (hthere : d.batt.st ≠ .absent) : battSample cur volt temp idMv s = d.packGone := by
  have hremoved : (decide (3 ≤ d.batt.goneRun) && decide (d.batt.st ≠ .absent)) = true := by simp [hgone, hthere]
  subst hd
  unfold battSample
  rw [if_neg (by simp [hup])]
  exact if_pos hremoved

variable (hstays : d.batt.goneRun < 3)
include hstays

theorem battSample_without_record (hrec : d.packRec = none) (hknown : d.batt.convRun < 3 ∨ d.batt.st ≠ .unknown) :
    battSample cur volt temp idMv s = d := by
  have hsensed : ¬ ((cur.isNone || volt.isNone || temp.isNone || idMv.isNone) && decide (d.batt.convRun = 3) &&
      decide (d.batt.st = .unknown)) = true := by
    rcases hknown with h | h
    · simp [Nat.ne_of_lt h]
    · simp [h]
  unfold battSample
  rw [if_neg (by simp [hup])]
  dsimp only
  rw [← hd, if_neg (pack_stays hstays), hrec]
  exact if_neg hsensed

/-- An ACTIVE pack within its voltages counts the sample's charge; above the cut-off voltage the cut-off run starts anew. -/
theorem battSample_of_active {r : PackRec} (hrec : d.packRec = some r) (hst : d.batt.st = .active) (hconv : d.batt.convRun < 3)
    (hlow : 2000 * r.cells ≤ d.batt.volt) (hhigh : d.batt.volt ≤ 4500 * r.cells)
    (hcut : r.cells * r.vCutoff ≤ (d.countCharge r).batt.volt) :
    battSample cur volt temp idMv s = (d.countCharge r).modBatt (fun b => { b with cutRun := 0 }) := by
  have hsensed : ¬ ((decide (d.batt.st = .settling) || decide (d.batt.st = .active)) && (decide (d.batt.convRun = 3) ||
      (d.batt.present && (decide (d.batt.volt < 2000 * r.cells) || decide (4500 * r.cells < d.batt.volt))))) = true := by
    simp [Nat.ne_of_lt hconv, Nat.not_lt.mpr hlow, Nat.not_lt.mpr hhigh]
  unfold battSample
  rw [if_neg (by simp [hup])]
  dsimp only
  rw [← hd, if_neg (pack_stays hstays), hrec]
  dsimp only
  rw [if_neg hsensed, if_pos hst, if_neg (Nat.not_lt.mpr hcut)]
  rfl

end

theorem packHeld_of_present (hup : s.aonUp = true) (hst : s.batt.st = .absent) (hpresent : s.batt.present = true) :
    packHeld s = (s.modBatt (fun b => { b with held := true })).packAct := if_pos (by simp [hup, hst, hpresent])

/-! ### States and calibration points (R360, R363, R364) -/

section
variable {p : PackRec} (hrec : s.packRec = some p)
include hrec

theorem settlingTimeout_of_settling (hst : s.batt.st = .settling) :
    settlingTimeout s = ((s.modBatt (fun b => { b with st := .active, q := s.qV p, u := 0 })).drew).evalAgain := by
  unfold settlingTimeout
  rw [hrec]
  exact if_pos hst

variable (hst : s.batt.st = .active) (hmode : s.core.mode ≠ .save)
include hst hmode

theorem chargeTaper_of_window {d : Dev} (hcharging : s.batt.charging = true) (hvolt : p.cells * (p.vChg - 30) ≤ s.batt.volt)
    (hcur : s.batt.cur ≤ -1000) (htaper : -(1000 * (p.iTaper : Int)) ≤ s.batt.cur)
    (hd : d = (((s.calibrate p 1 1 (1 / 100)).modBatt (fun b => { b with empty := false, due := false, recal := false })).setRegF
      Reg.BATT_CTL 1 1 0)) :
    chargeTaper s = d.chargeJudge := by
  subst hd
  unfold chargeTaper
  rw [hrec]
  refine if_pos ?_
  simp only [Bool.and_eq_true, decide_eq_true_eq]
  exact ⟨⟨⟨⟨⟨hst, hmode⟩, hcharging⟩, hvolt⟩, hcur⟩, htaper⟩

theorem dischargeTaper_of_window (hcur : 1000 ≤ s.batt.cur) (htaper : s.batt.cur ≤ 1000 * (p.iTaper : Int))
    (hvolt : s.batt.volt ≤ p.cells * (p.vCutoff + 100)) :
    dischargeTaper s = (s.calibrate p 2 (s.socOf p (s.ocvLb p) / 100) p.margin).drew := by
  unfold dischargeTaper
  rw [hrec]
  refine if_pos ?_
  simp only [Bool.and_eq_true, decide_eq_true_eq]
  exact ⟨⟨⟨⟨hst, hmode⟩, hcur⟩, htaper⟩, hvolt⟩

/-- A rest in ACTIVE calibrates the charge from the open-circuit voltage, and the gauge stays ACTIVE. -/
theorem restCalibration_of_active {d : Dev} (hlow : -(1000 * (p.iRest : Int)) < s.batt.cur) (hhigh : s.batt.cur < 1000 * (p.iRest : Int))
    (hd : d = (s.calibrate p 3 (s.socOf p ((s.batt.volt : Rat) / (p.cells : Rat)) / 100) p.margin).drew) (hstays : d.batt.st = .active) :
    restCalibration s = d := by
  have hrests : (decide (-(1000 * (p.iRest : Int)) < s.batt.cur) && decide (s.batt.cur < 1000 * (p.iRest : Int)) &&
      (decide (s.batt.st = .settling) || (decide (s.batt.st = .active) && decide (s.core.mode ≠ .save)))) = true := by
    simp only [Bool.and_eq_true, Bool.or_eq_true, decide_eq_true_eq]
    exact ⟨⟨hlow, hhigh⟩, .inr ⟨hst, hmode⟩⟩
  unfold restCalibration
  rw [hrec]
  dsimp only
  rw [if_pos hrests, ← hd, hstays, if_neg (by decide)]

end

theorem faultRecovered_of_fault (hst : s.batt.st = .fault) :
    faultRecovered s = (s.modBatt (fun b => { b with
      st := .settling, q := 0, u := 0, ref := none, convRuns := [0, 0, 0, 0], cutRun := 0 })).evalAgain := if_pos hst

/-! ### The energy bound and the charger (R361, R368, R372) -/

section
variable {a : Dev} (hup : s.aonUp = true) (ha : a = s.energySum.modBatt (fun b => { b with
  curAvg := if b.samples = 0 then b.curAvg else b.curSum / b.samples, curSum := 0, samples := 0 }))
include hup ha

theorem elbRecompute_of_active {p : PackRec} (hst : a.batt.st = .active) (hrec : a.packRec = some p) :
    elbRecompute s =
      ((((a.modBatt (fun b => { b with elb := (a.elbOf p).1, bind := (a.elbOf p).2, ocvLb := (a.ocvLb p).floor.toNat })).drew).chargeDue
        ).chargeJudge).evalAgain := by
  unfold elbRecompute
  rw [if_neg (by simp [hup])]
  dsimp only
  rw [← ha, hst, hrec]

theorem elbRecompute_of_inactive (hst : a.batt.st ≠ .active) :
    elbRecompute s = (((a.modBatt (fun b => { b with elb := 0 })).chargeDue).chargeJudge).evalAgain := by
  unfold elbRecompute
  rw [if_neg (by simp [hup])]
  dsimp only
  rw [← ha]
  split
  · next h _ => exact absurd h hst
  · next h _ => exact absurd h hst
  · rfl

end

theorem chargerRetry_of_failed {d : Dev} (hfailed : s.batt.chgFailed = true) (hd : d = s.modBatt (fun b => { b with chgFailed := false })) :
    chargerRetry s = if d.chargerBusy then d else d.pmQueue (.charger d.chargeOk) := by
  subst hd
  exact if_pos hfailed

/-- The RECAL bit leaves the bit of CHG_EN as it is written. -/
theorem bitsOf_or_recal (val : Word) : bitsOf (val ||| 2).toNat 0 1 = bitsOf val.toNat 0 1 := by
  simp [bitsOf, Nat.or_mod_two_pow (n := 1)]

theorem battRecal_of_accepts {src : Src} {val : Word} {d : Dev} (hacc : s.accepts src Reg.BATT_CTL = true)
    (hd : d = (s.setRegF Reg.BATT_CTL 0 1 (bitsOf val.toNat 0 1)).writeStatus src .ok) :
    battRecal src (val ||| 2) s =
      ((d.modBatt (fun b => { b with recal := true, due := true })).setRegF Reg.BATT_CTL 1 1 1).chargeJudge := by
  subst hd
  rw [battRecal, Dev.battCtl, guarded_of_accepts _ hacc]
  dsimp only
  rw [bitsOf_or_recal, if_pos (by simp)]

end

/-! ### The obligations -/

/-- Settles O53: a sample by whether the pack is there and which record it has, and a pack that has been present for its time. -/
theorem theBatteryIsSampled : Obligations.the_battery_is_sampled := by
  refine ⟨?sample, ?held⟩
  case sample =>
    rintro cur volt temp idMv there i t s c d hup rfl rfl rfl hc hd
    have hsample : d = (s.dev.takeSample cur volt temp idMv).meter := hc ▸ hd
    refine ⟨hc, ?gone, ?unknown, ?active⟩
    case gone =>
      rintro ⟨hgone, hthere⟩
      rw [exec_battSample, battSample_of_gone hup hsample hgone hthere]
    case unknown =>
      intro hstays hrec hknown
      rw [exec_battSample, battSample_without_record hup hsample hstays hrec hknown]
    case active =>
      intro r hstays hrec hst hconv hlow hhigh hcut
      rw [exec_battSample, battSample_of_active hup hsample hstays hrec hst hconv hlow hhigh hcut]
  case held =>
    intro s hup hst hpresent
    rw [exec_packPresenceHeld, packHeld_of_present hup hst hpresent]

/-- Settles O54: each state's end and each calibration point, the bound by the gauge's state, and the charger's two requests. -/
theorem theGaugeCalibratesAndBoundsTheEnergy : Obligations.the_gauge_calibrates_and_bounds_the_energy := by
  refine ⟨?settling, ?fault, ?full, ?empty, ?rest, ?bound, ?retry, ?recal⟩
  case settling =>
    intro p s hrec hst
    rw [exec_settlingTimeout, settlingTimeout_of_settling hrec hst]
  case fault =>
    intro s hst
    rw [exec_faultRecovered, faultRecovered_of_fault hst]
  case full =>
    intro p s d hrec hst hmode hcharging hvolt hcur htaper hd
    rw [exec_chargeTaper, chargeTaper_of_window hrec hst hmode hcharging hvolt hcur htaper hd]
  case empty =>
    intro p s hrec hst hmode hcur htaper hvolt
    rw [exec_dischargeTaper, dischargeTaper_of_window hrec hst hmode hcur htaper hvolt]
  case rest =>
    intro p s hrec hst hmode hlow hhigh hstays
    rw [exec_restCalibration, restCalibration_of_active hrec hst hmode hlow hhigh rfl hstays]
  case bound =>
    intro s a hup ha
    refine ⟨fun p hst hrec => ?_, fun hst => ?_⟩
    · rw [exec_elbRecompute, elbRecompute_of_active hup ha hst hrec]
    · rw [exec_elbRecompute, elbRecompute_of_inactive hup ha hst]
  case retry =>
    intro s d hfailed hd
    rw [exec_chargerRetry, chargerRetry_of_failed hfailed hd]
  case recal =>
    intro src val s d hacc hd
    rw [exec_battRecal, battRecal_of_accepts hacc hd]

end Sys2Proof.Laws
end

section
/-!
PROOFS. The statements of chapter 16 on the two-wire ports: the sideband window and buffer, the PM controller, the ports' errors and
Host Notify.
-/
namespace Sys2Proof.Laws
open Sys2Proof Sys2Proof.Machine

/-! ### What the commands run -/

theorem exec_winAddr (sv : Bool) (count : Byte) (data : Bytes) (pec : Option Byte) (s : State) :
    exec (.winAddr sv count data pec) s = .next (s.put (winAddr sv count data pec s.dev)) := rfl
theorem exec_winDataWrite (sv : Bool) (count : Byte) (data : Bytes) (pec : Option Byte) (s : State) :
    exec (.winDataWrite sv count data pec) s = .next (s.put (winDataWrite sv count data pec s.dev).settle) := rfl
theorem exec_winDataRead (sv wantPec : Bool) (s : State) : exec (.winDataRead sv wantPec) s = .next (s.put (winDataRead sv wantPec s.dev)) := rfl
theorem exec_winNext (sv wantPec : Bool) (s : State) : exec (.winNext sv wantPec) s = .next (s.put (winNext sv wantPec s.dev)) := rfl
theorem exec_status (sv wantPec : Bool) (s : State) : exec (.status sv wantPec) s = .next (s.put (status sv wantPec s.dev)) := rfl
theorem exec_info (sv wantPec : Bool) (s : State) :
    exec (.info sv wantPec) s = .next (s.put (s.dev.sbInfo sv wantPec s.dev.coreMode)) := rfl
theorem exec_result (sv wantPec : Bool) (s : State) : exec (.result sv wantPec) s = .next (s.put (result sv wantPec s.dev)) := rfl
theorem exec_bufPtr (sv : Bool) (count : Byte) (data : Bytes) (pec : Option Byte) (s : State) :
    exec (.bufPtr sv count data pec) s = .next (s.put (bufPtr sv count data pec s.dev)) := rfl
theorem exec_bufDataWrite (sv : Bool) (count : Byte) (data : Bytes) (pec : Option Byte) (s : State) :
    exec (.bufDataWrite sv count data pec) s = .next (s.put (bufDataWrite sv count data pec s.dev)) := rfl
theorem exec_bufDataRead (sv wantPec : Bool) (s : State) : exec (.bufDataRead sv wantPec) s = .next (s.put (bufDataRead sv wantPec s.dev)) := rfl
theorem exec_sidebandUnknownCode (sv : Bool) (code : Byte) (s : State) :
    exec (.sidebandUnknownCode sv code) s = .next (s.put (sidebandUnknownCode sv code s.dev)) := rfl
theorem exec_exec (sv : Bool) (count : Byte) (data : Bytes) (pec : Option Byte) (s : State) :
    exec (.exec sv count data pec) s = .next (s.put (sbExec sv count data pec s.dev).settle) := rfl
theorem exec_twbXfer (src : Src) (val : Word) (s : State) : exec (.twbXfer src val) s = .next (s.put (xferGo src val s.dev).settle) := rfl
theorem exec_twbTransferDone (e : XferEnd) (data : Bytes) (s : State) :
    exec (.twbTransferDone e data) s = .next (s.put (s.dev.transferDone e data).settle) := rfl
theorem exec_stretchTimeout (sda : Option Bool) (s : State) : exec (.stretchTimeout sda) s = .next (s.put (s.dev.stretchTimeout sda).settle) := rfl
theorem exec_pmRetry (s : State) : exec .pmRetry s = .next (s.put (pmRetry s.dev).settle) := rfl
theorem exec_targetStretchLimit (sv : Bool) (s : State) : exec (.targetStretchLimit sv) s = .next (s.put (targetStretchLimit sv s.dev)) := rfl
theorem exec_repeatedStartAbort (p : Fin 3) (s : State) :
    exec (.repeatedStartAbort p) s = .next (s.put (repeatedStartAbort p s.dev).settle) := rfl
theorem exec_targetSclTimeout (p : Fin 3) (s : State) : exec (.targetSclTimeout p) s = .next (s.put (targetSclTimeout p s.dev).settle) := rfl
theorem exec_addressNotOwn (p : Fin 3) (s : State) : exec (.addressNotOwn p) s = .next (s.put (addressNotOwn p s.dev)) := rfl
theorem exec_busFailedRecover (p : Fin 3) (s : State) : exec (.busFailedRecover p) s = .next (s.put (busFailedRecover p s.dev).settle) := rfl
theorem exec_yardEnLow (s : State) : exec .yardEnLow s = .next (s.put (yardEnLow s.dev).settle) := rfl
theorem exec_hostNotify (e : XferEnd) (s : State) : exec (.hostNotify e) s = .next (s.put (hostNotify e s.dev).settle) := rfl
theorem exec_hostNotifyRetry (e : XferEnd) (s : State) : exec (.hostNotifyRetry e) s = .next (s.put (hostNotifyRetry e s.dev).settle) := rfl
theorem exec_powerPartHostNotify (addr : BitVec 7) (data : BitVec 16) (s : State) :
    exec (.powerPartHostNotify addr data) s = .next (s.put (powerPartHostNotify addr data s.dev).settle) := rfl

section
variable {s : Dev} {sv : Bool}

/-! ### A Block Write that is discarded (R383, R385) -/

section
variable {code : Nat} {count : Byte} {data : Bytes} {pec : Option Byte} {ok : Nat → Bool} (act : Dev → Dev)

theorem sbWrite_of_bad_count (hgood : s.sbGood sv code count data pec = true) (hcount : ok count.toNat = false) :
    s.sbWrite sv code count data pec ok act = s.sbDiscard sv code .badParam := by
  simp only [Dev.sbGood, Bool.and_eq_true, decide_eq_true_eq] at hgood
  obtain ⟨⟨hst, hlen⟩, hpec⟩ := hgood
  cases pec with
  | none =>
    have hfree : (s.port (sbPort sv)).pecReq = false := by simpa using hpec
    simp [Dev.sbWrite, hst, hlen, hfree, hcount]
  | some x =>
    have hright : ¬ decide (x ≠ BitVec.ofNat 8
        (crc8 ([BitVec.ofNat 8 (2 * (s.port (sbPort sv)).addr), BitVec.ofNat 8 code, count] ++ data))) = true := by
      simpa using hpec
    unfold Dev.sbWrite
    dsimp only
    rw [if_neg (not_not.mpr hst), if_neg (not_not.mpr hlen), if_neg hright, if_pos (by simp [hcount])]

theorem sbWrite_of_bad_pec {x : Byte} (hlive : s.sbLive sv = true) (hlen : data.length = count.toNat) (hpec : pec = some x)
    (hwrong : x ≠ BitVec.ofNat 8 (crc8 ([BitVec.ofNat 8 (2 * (s.port (sbPort sv)).addr), BitVec.ofNat 8 code, count] ++ data))) :
    s.sbWrite sv code count data pec ok act = (s.twbErr (sbPort sv) 1).sbDiscard sv code .twbPec := by
  have hst : (s.port (sbPort sv)).st = 1 := of_decide_eq_true hlive
  subst hpec
  unfold Dev.sbWrite
  dsimp only
  rw [if_neg (not_not.mpr hst), if_neg (not_not.mpr hlen)]
  exact if_pos (decide_eq_true hwrong)

end

/-! ### The register window (R386, Table 16-4) -/

section
variable {count : Byte} {data : Bytes} {pec : Option Byte}

section
variable (hgood : s.sbGood sv 0x01 count data pec = true) (hcount : count.toNat = 4)
include hgood hcount

theorem winAddr_of_offset (haligned : leAt data 0 4 % 4 = 0) (hinside : leAt data 0 4 < 0x100000) :
    winAddr sv count data pec s = (s.modTwb (sbPort sv) (fun t => { t with window := leAt data 0 4, status := 0 })).sbDone sv 0x01 := by
  rw [winAddr, sbWrite_of_good _ hgood (by simp [hcount])]
  exact if_neg (by simp [haligned, Nat.not_le.mpr hinside])

theorem winAddr_of_bad_offset (hbad : leAt data 0 4 % 4 ≠ 0 ∨ 0x100000 ≤ leAt data 0 4) :
    winAddr sv count data pec s = s.sbDiscard sv 0x01 .badParam := by
  rw [winAddr, sbWrite_of_good _ hgood (by simp [hcount])]
  exact if_pos (by simpa using hbad)

end

theorem winDataWrite_of_good {d : Dev} (hgood : s.sbGood sv 0x02 count data pec = true) (hcount : count.toNat = 4)
    (hd : d = s.modTwb (sbPort sv) (fun t => { t with status := 0 })) :
    winDataWrite sv count data pec s =
      (regWrite (.port (sbSrc sv)) (d.port (sbPort sv)).window (BitVec.ofNat 32 (leAt data 0 4)) d).sbDone sv 0x02 := by
  rw [winDataWrite, sbWrite_of_good _ hgood (by simp [hcount]), hd]

end

section
variable (wantPec : Bool) {d : Dev} {v : Word} (hlive : s.sbLive sv = true)
  (hread : s.readBy (.port (sbSrc sv)) (s.port (sbPort sv)).window = (d, v))
include hlive hread

theorem winDataRead_of_live : winDataRead sv wantPec s = d.sbBlockRead sv 0x02 wantPec (leBytes 4 v.toNat) := by
  rw [winDataRead, if_pos hlive, hread]

theorem winNext_of_live : winNext sv wantPec s =
    (d.sbBlockRead sv 0x03 wantPec (leBytes 4 v.toNat)).modTwb (sbPort sv) (fun t => { t with window := t.window + 4 }) := by
  rw [winNext, if_pos hlive, hread]

end

/-! ### The buffer and the status codes (R383, R385, R387, Table 16-4) -/

section
variable (wantPec : Bool) (hlive : s.sbLive sv = true)
include hlive

theorem status_of_live : status sv wantPec s =
    (s.sbRead sv 0x04 wantPec (leBytes 2 (s.port (sbPort sv)).status)).sbDone sv 0x04 := if_pos hlive

theorem sbInfo_of_live (mode : Nat) : s.sbInfo sv wantPec mode =
    s.sbBlockRead sv 0x05 wantPec ([0x01, BitVec.ofNat 8 (sbPort sv), 0, 0] ++ leBytes 4 mode) := if_pos hlive

theorem result_of_live : result sv wantPec s = s.sbBlockRead sv 0x13 wantPec
    ([BitVec.ofNat 8 (s.port (sbPort sv)).execSt, 0] ++ leBytes 2 (s.port (sbPort sv)).execRes ++ leBytes 4 (s.port (sbPort sv)).outLen) :=
  if_pos hlive

theorem bufDataRead_of_live {n : Nat} (hn : n = min 240 ((s.port (sbPort sv)).outLen - (s.port (sbPort sv)).bufPos)) :
    bufDataRead sv wantPec s = (s.modTwb (sbPort sv) (fun t => { t with bufPos := t.bufPos + n })).sbBlockRead sv 0x11 wantPec
      (Memory.readBytes 0 (s.port (sbPort sv)).buf (s.port (sbPort sv)).bufPos n) := by
  subst hn
  exact if_pos hlive

end

theorem sidebandUnknownCode_of_live (code : Byte) (hlive : s.sbLive sv = true) :
    sidebandUnknownCode sv code s = s.sbDiscard sv code.toNat .badParam := if_pos hlive

section
variable {count : Byte} {data : Bytes} {pec : Option Byte}

theorem bufPtr_of_position (hgood : s.sbGood sv 0x10 count data pec = true) (hcount : count.toNat = 4) (hinside : leAt data 0 4 ≤ 65535) :
    bufPtr sv count data pec s = (s.modTwb (sbPort sv) (fun t => { t with bufPos := leAt data 0 4, status := 0 })).sbDone sv 0x10 := by
  rw [bufPtr, sbWrite_of_good _ hgood (by simp [hcount])]
  exact if_neg (Nat.not_lt.mpr hinside)

theorem bufDataWrite_of_count (hgood : s.sbGood sv 0x11 count data pec = true) (hlow : 1 ≤ count.toNat) (hhigh : count.toNat ≤ 240) :
    bufDataWrite sv count data pec s = (s.modTwb (sbPort sv) (fun t => { t with
      buf := putBuf t.buf t.bufPos data, bufPos := t.bufPos + data.length, status := 0 })).sbDone sv 0x11 :=
  sbWrite_of_good _ hgood (by simp [hlow, hhigh])

theorem sbExec_of_free (hgood : s.sbGood sv 0x12 count data pec = true) (hcount : count.toNat = 8) (hlen : leAt data 4 4 ≤ 65536)
    (hfree : (s.port (sbPort sv)).execSt ≠ 1) :
    sbExec sv count data pec s = ((s.execStart (sbSrc sv) (leAt data 0 2)).kxChecked (sbSrc sv) (leAt data 0 2)
      (Memory.readBytes 0 (s.port (sbPort sv)).buf 0 (leAt data 4 4))).sbDone sv 0x12 := by
  rw [sbExec, sbWrite_of_good _ hgood (by simp [hcount])]
  dsimp only
  rw [if_neg (Nat.not_lt.mpr hlen), if_neg hfree]

end

/-! ### The PM controller (R375, R377 to R379) -/

/-- GO is the top bit of TWB_XFER_CTL. -/
theorem bitsOf_or_go (val : Word) : bitsOf (val ||| 0x80000000).toNat 31 1 = 1 := by
  have hbit : (val ||| 0x80000000).getLsbD 31 = true := by simp
  have hval := BitVec.testBit_toNat (i := 31) (val ||| 0x80000000)
  rw [hbit, Nat.testBit_eq_decide_div_mod_eq, decide_eq_true_eq] at hval
  simpa [bitsOf] using hval

section
variable {src : Src} {val w : Word} (hw : w = val ||| 0x80000000) (hacc : s.accepts src Reg.TWB_XFER_CTL = true)
  (hgo : s.twb.xferGo = false)
include hw hacc hgo

/-- A write of GO while no transfer of firmware runs: the bulkheads, the mode and the length are checked. -/
theorem xferGo_of_free {d : Dev} (hd : d = (s.storeReg Reg.TWB_XFER_CTL w).writeStatus src .ok) :
    xferGo src val s =
      if !decide (bitsOf w.toNat 7 1 = 1) && d.bh03 (bitsOf w.toNat 0 7) (bitsOf w.toNat 8 8) then
        d.xferRefused src 3 (bitsOf w.toNat 0 7) (bitsOf w.toNat 8 8)
      else if !d.bh07Ok (bitsOf w.toNat 0 7) (bitsOf w.toNat 8 8) then d.xferRefused src 7 (bitsOf w.toNat 0 7) (bitsOf w.toNat 8 8)
      else if !(decide (d.core.mode = .restore) || decide (d.core.mode = .service) || decide (d.core.mode = .maintenance)) then
        d.modTwbSt (fun t => { t with xferStatus := St.wrongMode.code })
      else if 32 < bitsOf w.toNat 16 6 then d.modTwbSt (fun t => { t with xferStatus := St.badParam.code })
      else d.modTwbSt (fun t => { t with xferGo := true, pm := t.pm ++ [.firmware] }) := by
  have hstarts : ¬ bitsOf (val ||| 0x80000000).toNat 31 1 = 0 := by rw [bitsOf_or_go]; decide
  subst hw hd
  rw [xferGo, guarded_of_accepts _ hacc, Dev.xferWrite, if_neg (by simp [hgo])]
  exact if_neg hstarts

theorem xferGo_of_allowed {d : Dev} (hd : d = (s.storeReg Reg.TWB_XFER_CTL w).writeStatus src .ok)
    (hfree : bitsOf w.toNat 7 1 = 1 ∨ d.bh03 (bitsOf w.toNat 0 7) (bitsOf w.toNat 8 8) = false)
    (hlisted : d.bh07Ok (bitsOf w.toNat 0 7) (bitsOf w.toNat 8 8) = true)
    (hmode : d.core.mode = .restore ∨ d.core.mode = .service ∨ d.core.mode = .maintenance) (hlen : bitsOf w.toNat 16 6 ≤ 32) :
    xferGo src val s = d.modTwbSt (fun t => { t with xferGo := true, pm := t.pm ++ [.firmware] }) := by
  have hbh03 : ¬ (!decide (bitsOf w.toNat 7 1 = 1) && d.bh03 (bitsOf w.toNat 0 7) (bitsOf w.toNat 8 8)) = true := by
    rcases hfree with h | h <;> simp [h]
  have hmodes : ¬ (!(decide (d.core.mode = .restore) || decide (d.core.mode = .service) || decide (d.core.mode = .maintenance))) = true := by
    rcases hmode with h | h | h <;> simp [h]
  rw [xferGo_of_free hw hacc hgo hd, if_neg hbh03, if_neg (by simp [hlisted]), if_neg hmodes, if_neg (Nat.not_lt.mpr hlen)]

end

/-- A firmware write of a register that BH03 guards is turned away at it. -/
theorem xferGo_of_guarded {pc val w : Word} {d : Dev} (hw : w = val ||| 0x80000000)
    (hacc : s.accepts (.firmware pc) Reg.TWB_XFER_CTL = true) (hgo : s.twb.xferGo = false) (hd : d = s.storeReg Reg.TWB_XFER_CTL w)
    (hwrite : bitsOf w.toNat 7 1 = 0) (hbh03 : d.bh03 (bitsOf w.toNat 0 7) (bitsOf w.toNat 8 8) = true) :
    xferGo (.firmware pc) val s =
      ((d.twbErr 1 7).modTwbSt (fun t => { t with xferStatus := St.bulkhead.code })).bulkhead 3 5 .bulkhead
        (256 * bitsOf w.toNat 0 7 + bitsOf w.toNat 8 8) pc := by
  rw [xferGo_of_free hw hacc hgo (d := d) hd, if_pos (by simp [hwrite, hbh03]), Dev.xferRefused]

section
variable (hst : (s.port 1).st = 2)
include hst

theorem transferDone_ok (data : Bytes) : s.transferDone .ok data = s.pmFinish .ok data := if_neg (not_not.mpr hst)
theorem transferDone_nack (data : Bytes) : s.transferDone .nack data = (s.twbErr 1 2).pmFinish .twbNack [] := if_neg (not_not.mpr hst)
theorem transferDone_pec (data : Bytes) : s.transferDone .pec data = (s.twbErr 1 1).pmFinish .twbPec [] := if_neg (not_not.mpr hst)
theorem transferDone_arbLost (data : Bytes) : s.transferDone .arbLost data = (s.twbErr 1 5).pmFinish .twbArbLost [] :=
  if_neg (not_not.mpr hst)

theorem stretchTimeout_of_running {x : PmXfer} {rest : List PmXfer} (sda : Option Bool) {d : Dev} (hpm : s.twb.pm = x :: rest)
    (hd : d = ((s.twbErr 1 3).twbLog LT.TWB_TIMEOUT 1 (s.pmTarget x).1 .twbTimeout).pmFinish .twbTimeout []) :
    s.stretchTimeout sda = if sda = some false then d.busStuck 1 (s.pmTarget x).1 else d := by
  subst hd
  unfold Dev.stretchTimeout
  rw [if_neg (not_not.mpr hst), hpm]

end

theorem pmRetry_of_waiting {x : PmXfer} {rest : List PmXfer} {d : Dev} (hretry : s.twb.pmRetry = x :: rest)
    (hd : d = s.modTwbSt (fun t => { t with pmRetry := rest, pm := t.pm ++ [x] })) :
    pmRetry s = if (d.port 1).st = 1 then d.modTwb 1 (fun t => { t with st := 2 }) else d := by
  subst hd
  simp only [pmRetry, hretry]

/-! ### The ports as targets (R376, R378, R380 to R382) -/

theorem targetStretchLimit_of_live (hlive : s.sbLive sv = true) :
    targetStretchLimit sv s =
      (s.modTwb (sbPort sv) (fun t => { t with status := St.busy.code, lastStatus := St.busy.code })).emit (.twoWire (sbPort sv) [0xFF]) :=
  if_pos (of_decide_eq_true hlive)

section
variable {p : Fin 3} (hst : (s.port p.val).st = 1)
include hst

theorem repeatedStartAbort_of_idle : repeatedStartAbort p s = s.twbErr p.val 0 := if_pos hst
theorem targetSclTimeout_of_idle : targetSclTimeout p s = s.twbErr p.val 4 := if_pos hst
theorem addressNotOwn_of_idle : addressNotOwn p s = s.modTwb p.val (fun t => { t with st := 1 }) := if_pos hst

end

theorem busFailedRecover_of_failed {p : Fin 3} (hst : (s.port p.val).st = 5) :
    busFailedRecover p s =
      (s.modTwb p.val (fun t => { t with st := 1, scl := true, sda := true })).twbLog LT.TWB_BUS_RECOVERED p.val 0 .ok := if_pos hst

theorem yardEnLow_of_live (hlive : s.twb.svLive = true) :
    yardEnLow s = (s.modTwb 2 (fun t => { t with st := 0, scl := true, sda := true })).modTwbSt (fun t => { t with svLive := false }) :=
  if_pos hlive

theorem powerPartHostNotify_of_idle (addr : BitVec 7) (data : BitVec 16) (hst : (s.port 1).st = 1) :
    powerPartHostNotify addr data s = (s.twbCount 1).twbLast 1 0 (2 * addr.toNat) addr.toNat := if_pos hst

/-! ### Host Notify (R388) -/

section
variable (e : XferEnd) (hpend : s.twb.notifyPend ≠ 0) (hst : (s.port 0).st = 1)
include hpend hst

theorem hostNotify_of_pending (hwait : s.twb.notifyWait = false) : hostNotify e s = s.notifySend e := by
  rw [hostNotify, if_neg (by rw [hwait]; simpa using hpend), if_neg (by simp [hst]), if_neg (not_not.mpr hst)]

theorem hostNotifyRetry_of_waiting (hwait : s.twb.notifyWait = true) : hostNotifyRetry e s = s.notifySend e := by
  rw [hostNotifyRetry, if_neg (by rw [hwait]; simpa using hpend), if_neg (by simp [hst]), if_neg (not_not.mpr hst)]

end

end

/-! ### The obligations -/

/-- Settles O55: WIN_ADDR by its offset, its count and its PEC, WIN_DATA both ways, and WIN_NEXT. -/
theorem theSidebandWindowWorks : Obligations.the_sideband_window_works := by
  intro sv count data pec wantPec s
  refine ⟨?addr, ?write, ?read, ?badCount, ?badPec⟩
  case addr =>
    intro hgood hcount
    refine ⟨fun haligned hinside => ?_, fun hbad => ?_⟩
    · rw [exec_winAddr, winAddr_of_offset hgood hcount haligned hinside]
    · rw [exec_winAddr, winAddr_of_bad_offset hgood hcount hbad]
  case write =>
    intro d hgood hcount hd
    rw [exec_winDataWrite, winDataWrite_of_good hgood hcount hd]
  case read =>
    intro d v hlive hread
    refine ⟨?_, ?_⟩
    · rw [exec_winDataRead, winDataRead_of_live wantPec hlive hread]
    · rw [exec_winNext, winNext_of_live wantPec hlive hread]
  case badCount =>
    intro hcount hgood
    rw [exec_winAddr, winAddr, sbWrite_of_bad_count _ hgood (by simp [hcount])]
  case badPec =>
    intro x hlive hlen hpec hwrong
    rw [exec_winAddr, winAddr, sbWrite_of_bad_pec _ hlive hlen hpec hwrong]

/-- Settles O56: each read of a port in service, and each Block Write that is acted on. -/
theorem theSidebandBufferWorks : Obligations.the_sideband_buffer_works := by
  intro sv count data pec wantPec s
  refine ⟨fun hlive => ⟨?status, ?info, ?result, ?read, ?unknown⟩, ?pointer, ?write, ?exec⟩
  case status => rw [exec_status, status_of_live wantPec hlive]
  case info => rw [exec_info, sbInfo_of_live wantPec hlive]
  case result => rw [exec_result, result_of_live wantPec hlive]
  case read =>
    intro n hn
    rw [exec_bufDataRead, bufDataRead_of_live wantPec hlive hn]
  case unknown =>
    intro code
    rw [exec_sidebandUnknownCode, sidebandUnknownCode_of_live code hlive]
  case pointer =>
    intro hgood hcount hinside
    rw [exec_bufPtr, bufPtr_of_position hgood hcount hinside]
  case write =>
    intro hgood hlow hhigh
    rw [exec_bufDataWrite, bufDataWrite_of_count hgood hlow hhigh]
  case exec =>
    intro hgood hcount hlen hfree
    rw [exec_exec, sbExec_of_free hgood hcount hlen hfree]

/-- Settles O57: a transfer by the bulkheads, the running transfer by its end, a stretch and a retry. -/
theorem pmTransfersRun : Obligations.pm_transfers_run := by
  refine ⟨?allowed, ?guarded, ?done, ?stretch, ?retry⟩
  case allowed =>
    intro src val w s d hw hacc hgo hd hfree hlisted hmode hlen
    rw [exec_twbXfer, xferGo_of_allowed hw hacc hgo hd hfree hlisted hmode hlen]
  case guarded =>
    intro pc val w s d hw hacc hgo hd hwrite hbh03
    rw [exec_twbXfer, xferGo_of_guarded hw hacc hgo hd hwrite hbh03]
  case done =>
    intro data s hst
    refine ⟨?_, ?_, ?_, ?_⟩
    · rw [exec_twbTransferDone, transferDone_ok hst]
    · rw [exec_twbTransferDone, transferDone_nack hst]
    · rw [exec_twbTransferDone, transferDone_pec hst]
    · rw [exec_twbTransferDone, transferDone_arbLost hst]
  case stretch =>
    intro x rest sda s d hst hpm hd
    rw [exec_stretchTimeout, stretchTimeout_of_running hst sda hpm hd]
  case retry =>
    intro x rest s d hretry hd
    rw [exec_pmRetry, pmRetry_of_waiting hretry hd]

/-- Settles O58: each event of a port in the state that it finds, and the pending set by whether it waits for its retry. -/
theorem portErrorsAndNotifies : Obligations.port_errors_and_notifies := by
  refine ⟨?stretch, ?errors, ?recover, ?yardEn, ?notify, ?powerPart⟩
  case stretch =>
    intro sv s hlive
    rw [exec_targetStretchLimit, targetStretchLimit_of_live hlive]
  case errors =>
    intro p s hst
    refine ⟨?_, ?_, ?_⟩
    · rw [exec_repeatedStartAbort, repeatedStartAbort_of_idle hst]
    · rw [exec_targetSclTimeout, targetSclTimeout_of_idle hst]
    · rw [exec_addressNotOwn, addressNotOwn_of_idle hst]
  case recover =>
    intro p s hst
    rw [exec_busFailedRecover, busFailedRecover_of_failed hst]
  case yardEn =>
    intro s hlive
    rw [exec_yardEnLow, yardEnLow_of_live hlive]
  case notify =>
    intro e s hpend hst
    refine ⟨fun hwait => ?_, fun hwait => ?_⟩
    · rw [exec_hostNotify, hostNotify_of_pending e hpend hst hwait]
    · rw [exec_hostNotifyRetry, hostNotifyRetry_of_waiting e hpend hst hwait]
  case powerPart =>
    intro addr data s hst
    rw [exec_powerPartHostNotify, powerPartHostNotify_of_idle addr data hst]

end Sys2Proof.Laws
end

section
/-!
PROOFS. The statement of chapter 17 on the checks that a KX_ command passes.
-/
namespace Sys2Proof.Laws
open Sys2Proof Sys2Proof.Machine

/-- Each command that settles the device runs KX_ of its opcode and payload. -/
theorem exec_of_kx_command {p : Port} {input rest x : Bytes} {c : Instr} {op : Nat} (s : State)
    (hc : (c, op, x) ∈ [(Instr.kxPowerOff p input, 0xC000, input), (.kxPowerOn p input, 0xC001, input),
      (.kxModeMaintEnter p rest, 0xC002, 3 :: rest), (.kxModeMaintExit p rest, 0xC002, 4 :: rest),
      (.kxModeRecovReq p rest, 0xC002, 5 :: rest), (.kxResetFw p rest, 0xC003, 1 :: rest), (.kxResetFull p rest, 0xC003, 2 :: rest),
      (.kxBattStatePut p input, 0xC031, input), (.kxUpdOpen p input, 0xC040, input), (.kxUpdPiece p input, 0xC041, input),
      (.kxUpdCommit p input, 0xC043, input), (.kxUpdAbandon p input, 0xC044, input), (.kxMargin p input, 0xC050, input),
      (.kxDramRetrain p input, 0xC051, input), (.kxSalvageOpen p input, 0xC060, input), (.kxSalvagePiece p input, 0xC061, input),
      (.kxSalvageCommit p input, 0xC062, input)]) :
    exec c s = .next (s.put (s.dev.kxCommand p op x).settle) := by
  simp only [List.mem_cons, Prod.mk.injEq, List.not_mem_nil, or_false] at hc
  rcases hc with
    ⟨rfl, rfl, rfl⟩ | ⟨rfl, rfl, rfl⟩ | ⟨rfl, rfl, rfl⟩ | ⟨rfl, rfl, rfl⟩ | ⟨rfl, rfl, rfl⟩ | ⟨rfl, rfl, rfl⟩ |
    ⟨rfl, rfl, rfl⟩ | ⟨rfl, rfl, rfl⟩ | ⟨rfl, rfl, rfl⟩ | ⟨rfl, rfl, rfl⟩ | ⟨rfl, rfl, rfl⟩ | ⟨rfl, rfl, rfl⟩ |
    ⟨rfl, rfl, rfl⟩ | ⟨rfl, rfl, rfl⟩ | ⟨rfl, rfl, rfl⟩ | ⟨rfl, rfl, rfl⟩ | ⟨rfl, rfl, rfl⟩ <;> rfl

section
variable {s : Dev} {p : Port} {op row : Nat} {x : Bytes}

/-- A command that arrives goes to the checks. -/
theorem kxCommand_of_arrives (harrives : s.kxArrives p = true) : s.kxCommand p op x = (s.kxBefore p op x).kxChecked p op x := by
  cases p with
  | host ld =>
    simp only [Dev.kxArrives, Bool.and_eq_true] at harrives
    obtain ⟨hmailbox, hld⟩ := harrives
    exact if_neg (by simp [hmailbox, hld])
  | chassis | yard =>
    simp only [Dev.kxArrives, Bool.and_eq_true, decide_eq_true_eq] at harrives
    obtain ⟨hst, hfree⟩ := harrives
    exact (if_neg (not_not.mpr hst)).trans (if_neg hfree)

theorem kxCommand_of_closed_mailbox {ld : Fin 16} (hp : p = .host ld) (hmailbox : s.rdy Rdy.MAILBOX = false) :
    s.kxCommand p op x = s := by
  subst hp
  exact if_pos (by simp [hmailbox])

/-! ### The checks of R397, in order -/

section
variable (hrow : kxRow op x = some row)
include hrow

theorem kxChecked_without_authority (hmay : s.portMay row p = false) :
    s.kxChecked p op x = (s.authReject p row .noAuthority op).refuse p op 3 .noAuthority := by
  unfold Dev.kxChecked
  rw [hrow]
  exact if_pos (by simp [hmay])

variable (hmay : s.portMay row p = true)
include hmay

theorem kxChecked_on_wrong_ld (hld : kxWrongLd p op = true) : s.kxChecked p op x = s.refuse p op 3 .notAdminLd := by
  unfold Dev.kxChecked
  rw [hrow]
  exact (if_neg (by simp [hmay])).trans (if_pos hld)

variable (hld : kxWrongLd p op = false)
include hld

theorem kxChecked_of_bad_length (hlen : kxLenOk op x = false) : s.kxChecked p op x = s.refuse p op 0x16 .badParam := by
  unfold Dev.kxChecked
  rw [hrow]
  exact (if_neg (by simp [hmay])).trans ((if_neg (by simp [hld])).trans (if_pos (by simp [hlen])))

theorem kxChecked_in_wrong_mode (hlen : kxLenOk op x = true) (hmode : s.kxModeOk op = false) :
    s.kxChecked p op x = s.refuse p op 5 .wrongMode := by
  unfold Dev.kxChecked
  rw [hrow]
  exact (if_neg (by simp [hmay])).trans ((if_neg (by simp [hld])).trans ((if_neg (by simp [hlen])).trans (if_pos (by simp [hmode]))))

end

end

/-! ### The obligation -/

/-- Settles O29: a command that arrives goes to the checks, and the first that fails answers. -/
theorem kxCommandsAreCheckedInOrder : Obligations.kx_commands_are_checked_in_order := by
  intro p input rest c op row x s hc hrow
  have hexec := exec_of_kx_command s hc
  refine ⟨?authority, ?ld, ?length, ?mode, ?closed⟩
  case authority =>
    intro harrives hmay
    rw [hexec, kxCommand_of_arrives harrives, kxChecked_without_authority hrow hmay]
  case ld =>
    intro harrives hmay hld
    rw [hexec, kxCommand_of_arrives harrives, kxChecked_on_wrong_ld hrow hmay hld]
  case length =>
    intro harrives hmay hld hlen
    rw [hexec, kxCommand_of_arrives harrives, kxChecked_of_bad_length hrow hmay hld hlen]
  case mode =>
    intro harrives hmay hld hlen hmode
    rw [hexec, kxCommand_of_arrives harrives, kxChecked_in_wrong_mode hrow hmay hld hlen hmode]
  case closed =>
    intro ld hp hmailbox
    rw [hexec, kxCommand_of_closed_mailbox hp hmailbox]

end Sys2Proof.Laws
end

section
/-!
PROOFS. The statement of chapter 18 on the logbook.
-/
namespace Sys2Proof.Laws
open Sys2Proof Sys2Proof.Machine

/-! ### What the commands run -/

theorem exec_logScanDone (s : State) : exec .logScanDone s = .next (s.put (logScanDone s.dev).settle) := rfl
theorem exec_logAppend (s : State) : exec .logAppend s = .next (s.put (s.dev.logWrite).settle) := rfl
theorem exec_logProgramDone (fail : Bool) (s : State) : exec (.logProgramDone fail) s = .next (s.put (s.dev.logDone fail).settle) := rfl
theorem exec_logTimedFlush (s : State) : exec .logTimedFlush s = .next (s.put (logTimedFlush s.dev).settle) := rfl
theorem exec_logTimeMark (s : State) : exec .logTimeMark s = .next (s.put (logTimeMark s.dev)) := rfl

section
variable {s : Dev}

/-! ### The scan (R413, R415, R420) -/

theorem logScanDone_of_scan (hst : s.log.st = 1) : logScanDone s = s.logHead.logAhead.logPowerOn := if_neg (not_not.mpr hst)

/-- Where the queue has room, LT_POWER_ON takes its front. -/
theorem logPowerOn_of_room (hroom : s.log.queue.length < 32) : s.logPowerOn = s.modLog (fun l => { l with queue :=
    { ty := LT.POWER_ON, payload := leBytes 4 s.coreBoot ++ leBytes 4 s.log.skipped, count := 1, opS := s.opSeconds
      early := false, issued := false } :: l.queue }) := if_pos hroom

/-! ### The writer (R411, R414, R416, R419) -/

section
variable {d : Dev} (hst : s.log.st = 2) (hbusy : s.log.busy = 0) (hd : d = s.logJudge) (hpending : d.log.pending = 0)
include hst hbusy hd hpending

/-- With a record to carry and no repeat pending, the record is carried first. -/
theorem logWrite_of_carry {c : Bytes} {rest : List Bytes} (hcarry : d.log.carry = c :: rest) :
    s.logWrite = (d.modLog (fun l => { l with carry := rest })).logAppendRec LT.CARRIED c 1 d.opSeconds 3 none := by
  unfold Dev.logWrite
  rw [if_neg (by simp [hst, hbusy])]
  dsimp only
  rw [← hd, hcarry]
  exact if_neg (Nat.not_lt.mpr hpending.le)

/-- With nothing to carry or erase and no repeat pending, the first waiting event is issued. -/
theorem logWrite_of_event {e : LogEv} (hcarry : d.log.carry = []) (herase : d.log.toErase = none)
    (hfind : d.log.queue.find? (fun e => !e.issued) = some e) :
    s.logWrite = (d.modLog (fun l => { l with queue := issueFirst l.queue })).logAppendRec e.ty e.payload (min maxCount e.count)
      (if e.early then e.opS + d.log.base else e.opS) 1 (if 1 < min maxCount e.count then some (min maxCount e.count) else none) := by
  unfold Dev.logWrite
  rw [if_neg (by simp [hst, hbusy])]
  dsimp only
  rw [← hd, hcarry]
  dsimp only
  rw [herase]
  dsimp only
  rw [hfind]
  exact if_neg (Nat.not_lt.mpr hpending.le)

end

/-- The end of a program that passed: what it wrote is held, and the writer's entry of its kind ends. -/
theorem logDone_of_passed {x : ChDesc} {d : Dev} (hcur : s.chtr.cur = some x) (hreq : x.req = .logbook)
    (hd : d = (s.modChtr (fun c => { c with cur := none, timeouts := 0 })).modLog (fun l => { l with busy := 0 })) :
    s.logDone false = (((d.norOp x false).1).logEnd s.log.busy).chNext := by
  subst hd
  unfold Dev.logDone
  rw [hcur]
  exact if_neg (not_not.mpr hreq)

theorem logTimedFlush_of_pending (hst : s.log.st = 2) (hbusy : s.log.busy = 0) (hpending : 0 < s.log.pending) :
    logTimedFlush s = s.logFlush := if_pos (by simp [hst, hbusy, hpending])

theorem logTimeMark_of_ready (hst : s.log.st = 2) : logTimeMark s = s.logEvent LT.TIME_MARK [] := if_pos hst

end

/-! ### The obligation -/

/-- Settles O59: the scan's end, an append by what waits first, a program's end, the timed flush and the time mark. -/
theorem theLogbookRecords : Obligations.the_logbook_records := by
  refine ⟨?scan, fun _ hroom => logPowerOn_of_room hroom, ?append, ?done, ?flush, ?mark⟩
  case scan =>
    intro s hst
    rw [exec_logScanDone, logScanDone_of_scan hst]
  case append =>
    intro e s d hst hbusy hd
    refine ⟨fun c rest hcarry hpending => ?_, fun hcarry herase hfind hpending => ?_⟩
    · rw [exec_logAppend, logWrite_of_carry hst hbusy hd hpending hcarry]
    · rw [exec_logAppend, logWrite_of_event hst hbusy hd hpending hcarry herase hfind]
  case done =>
    intro x s d hcur hreq hd
    rw [exec_logProgramDone, logDone_of_passed hcur hreq hd]
  case flush =>
    intro s hst hbusy hpending _ _
    rw [exec_logTimedFlush, logTimedFlush_of_pending hst hbusy hpending]
  case mark =>
    intro s hst
    rw [exec_logTimeMark, logTimeMark_of_ready hst]

end Sys2Proof.Laws
end

section
/-!
PROOFS. The statements of chapter 19 on the commands of an update session and on the update manager's own events.
-/
namespace Sys2Proof.Laws
open Sys2Proof Sys2Proof.Machine

/-! ### What the commands run -/

theorem exec_kxUpdBitmap (p : Port) (input : Bytes) (s : State) :
    exec (.kxUpdBitmap p input) s = .next (s.put (s.dev.kxCommand p 0xC042 input)) := rfl
theorem exec_kxUpdAbandon (p : Port) (input : Bytes) (s : State) :
    exec (.kxUpdAbandon p input) s = .next (s.put (s.dev.kxCommand p 0xC044 input).settle) := rfl
theorem exec_updPieceWritten (bad : Bool) (s : State) :
    exec (.updPieceWritten bad) s = .next (s.put (updPieceWritten bad s.dev).settle) := rfl
theorem exec_updIdleExpiry (s : State) : exec .updIdleExpiry s = .next (s.put (updIdleExpiry s.dev).settle) := rfl
theorem exec_trialExpiry (s : State) : exec .trialExpiry s = .next (s.put (trialExpiry s.dev).settle) := rfl
theorem exec_updCtlRollback (src : Src) (s : State) : exec (.updCtlRollback src) s = .next (s.put (updCtlWrite src 1 s.dev).settle) := rfl
theorem exec_updCtlConfirm (src : Src) (s : State) : exec (.updCtlConfirm src) s = .next (s.put (updCtlWrite src 2 s.dev).settle) := rfl

section
variable {p : Port} {input : Bytes} {c : Instr} {op : Nat} {sal : Bool}

/-- The two opens, of an update session and of the salvage session. -/
theorem exec_of_open_command (hc : (c, op, sal) ∈ [(Instr.kxUpdOpen p input, 0xC040, false), (.kxSalvageOpen p input, 0xC060, true)]) :
    (∀ s : State, exec c s = .next (s.put (s.dev.kxCommand p op input).settle)) ∧
    ∀ b : Dev, b.kxServe p op input = kxPost p op (b.updOpen p input sal) := by
  simp only [List.mem_cons, Prod.mk.injEq, List.not_mem_nil, or_false] at hc
  rcases hc with ⟨rfl, rfl, rfl⟩ | ⟨rfl, rfl, rfl⟩ <;> exact ⟨fun _ => rfl, fun _ => rfl⟩

theorem exec_of_piece_command (hc : (c, op, sal) ∈ [(Instr.kxUpdPiece p input, 0xC041, false), (.kxSalvagePiece p input, 0xC061, true)]) :
    (∀ s : State, exec c s = .next (s.put (s.dev.kxCommand p op input).settle)) ∧
    ∀ b : Dev, b.kxServe p op input = kxPost p op (b.updPiece p (leAt input 0 4) (leAt input 4 4) (input.drop 16) sal) := by
  simp only [List.mem_cons, Prod.mk.injEq, List.not_mem_nil, or_false] at hc
  rcases hc with ⟨rfl, rfl, rfl⟩ | ⟨rfl, rfl, rfl⟩ <;> exact ⟨fun _ => rfl, fun _ => rfl⟩

theorem exec_of_commit_command
    (hc : (c, op, sal) ∈ [(Instr.kxUpdCommit p input, 0xC043, false), (.kxSalvageCommit p input, 0xC062, true)]) :
    (∀ s : State, exec c s = .next (s.put (s.dev.kxCommand p op input).settle)) ∧
    ∀ b : Dev, b.kxServe p op input = b.kxCommit p op input sal := by
  simp only [List.mem_cons, Prod.mk.injEq, List.not_mem_nil, or_false] at hc
  rcases hc with ⟨rfl, rfl, rfl⟩ | ⟨rfl, rfl, rfl⟩ <;> exact ⟨fun _ => rfl, fun _ => rfl⟩

end

section
variable {b : Dev} {p : Port}

/-! ### The commands of a session (R426, R431, R432, R434, R439) -/

/-- A good header on a free slot starts the session, whose number and pieces the output names. -/
theorem updOpen_of_free {h : Bytes} {sal : Bool} {d : Dev} (hheader : updHeaderOk h sal = true) (hst : b.upd.st = 0)
    (hd : d = b.updStart h (if sal then 3 else ownerOf p) sal) :
    b.updOpen p h sal = (d, .ok, leBytes 4 d.upd.session ++ leBytes 4 (uhPieces d.upd.header) ++ leBytes 4 0) := by
  subst hd
  unfold Dev.updOpen
  dsimp only
  rw [if_neg (by simp [hheader]), if_pos hst]
  rfl

/-- A piece that agrees with the header, the manifest and the piece table. -/
def PieceAgrees (d : Dev) (n : Nat) (data : Bytes) (sal : Bool) : Prop :=
  (n = 0 → crc32c data = leAt d.upd.header 28 4 ∧ manifestOk d.upd.header data sal = true) ∧
    (n ≠ 0 → d.upd.held.contains 0 = true → crc32c data = d.tableWord n)

theorem piece_is_not_wrong {d : Dev} {n : Nat} {data : Bytes} {sal : Bool} (h : PieceAgrees d n data sal) :
    ¬ (if n = 0 then decide (crc32c data ≠ leAt d.upd.header 28 4) || !manifestOk d.upd.header data sal
      else d.upd.held.contains 0 && decide (crc32c data ≠ d.tableWord n)) = true := by
  obtain ⟨hfirst, hlater⟩ := h
  by_cases hn : n = 0
  · obtain ⟨hcrc, hmanifest⟩ := hfirst hn
    simp [hn, hcrc, hmanifest]
  · rw [if_neg hn]
    cases hheld : d.upd.held.contains 0 with
    | false => simp
    | true => simp [hlater hn hheld]

/-- A good piece that is neither held nor buffered goes to a free buffer, as its slot will hold it. -/
theorem updPiece_of_good {session n : Nat} {data : Bytes} {sal : Bool} {d e : Dev} (hd : d = b.updTouch)
    (hmine : b.updMine p session sal = true) (hst : b.upd.st = 1) (hn : n < uhPieces b.upd.header)
    (hlen : data.length = pieceLen b.upd.header n) (hgood : PieceAgrees d n data sal) (hheld : b.upd.held.contains n = false)
    (hbufs : ∀ x ∈ b.upd.bufs, x.1 ≠ n) (hroom : b.upd.bufs.length < 2)
    (he : e = d.modUpd (fun u => { u with bufs := u.bufs ++ [(n, data ++ List.replicate (uhPiece b.upd.header - data.length) 0xFF ++
      leBytes 4 session ++ leBytes 4 n ++ leBytes 4 (crc32c data) ++ leBytes 4 d.opSeconds)] })) :
    b.updPiece p session n data sal = (e, .ok, leBytes 4 (e.upd.held.length + e.upd.bufs.length)) := by
  have hsession : ¬ (!b.updMine p session sal) = true := by simp [hmine]
  have hshape : ¬ (decide (uhPieces b.upd.header ≤ n) || decide (data.length ≠ pieceLen b.upd.header n)) = true := by
    simp [Nat.not_le.mpr hn, hlen]
  have hnew : ¬ (b.upd.held.contains n || b.upd.bufs.any (fun x => decide (x.1 = n))) = true := by
    rw [hheld]
    simpa using fun x hx => hbufs (n, x) hx rfl
  subst hd he
  unfold Dev.updPiece
  dsimp only
  rw [if_neg hsession]
  refine (if_neg (not_not.mpr hst)).trans ?_
  rw [if_neg hshape]
  refine (if_neg (piece_is_not_wrong hgood)).trans ?_
  exact (if_neg hnew).trans (if_neg (Nat.not_le.mpr hroom))

theorem updPiece_of_other_session (session n : Nat) (data : Bytes) {sal : Bool} (hother : b.updMine p session sal = false) :
    b.updPiece p session n data sal = (b, .noSession, []) := if_pos (by simp [hother])

theorem updBitmap_of_count {session count : Nat} (first : Nat) (hmine : b.updMine p session false = true) (hlow : 1 ≤ count)
    (hhigh : count ≤ 524160) :
    b.updBitmap p session first count = (b.updTouch, .ok, (List.range (ceilDiv count 8)).map (fun k =>
      BitVec.ofNat 8 ((List.range 8).foldl (fun v i =>
        if 8 * k + i < count && b.upd.held.contains (first + 8 * k + i) then v + 2 ^ i else v) 0))) := by
  have hasked : ¬ (decide (count < 1) || decide (524160 < count)) = true := by
    simp [Nat.ne_of_gt hlow, Nat.not_lt.mpr hhigh]
  unfold Dev.updBitmap
  rw [if_neg (by simp [hmine]), if_neg hasked]

theorem updAbandon_of_owner {session : Nat} (hmine : b.updMine p session false = true) (hst : b.upd.st = 1) :
    b.updAbandon p session = ((b.updLog LT.UPD_ABANDON b.updImage 1).updFree, .ok) := by
  unfold Dev.updAbandon
  dsimp only
  rw [if_neg (by simp [hmine]), if_neg (not_not.mpr hst), if_pos hmine]

theorem updCommit_of_other_session {session : Nat} {sal busy : Bool} (hother : b.updMine p session sal = false) :
    b.updCommit p session sal busy = (b, some .noSession) := if_pos (by simp [hother])

theorem kxCommit_of_accepted {op : Nat} {input : Bytes} {sal : Bool} {d : Dev}
    (hcommit : b.updCommit p (leAt input 0 4) sal b.bgRunning = (d, none)) : b.kxCommit p op input sal = d := by
  simp only [Dev.kxCommit, hcommit]

theorem kxCommit_of_other_session {op : Nat} {input : Bytes} {sal : Bool} (hother : b.updMine p (leAt input 0 4) sal = false) :
    b.kxCommit p op input sal = b.kxEnd p op .noSession [] := by
  simp only [Dev.kxCommit, updCommit_of_other_session hother]

end

section
variable {s : Dev}

/-! ### The manager's own events (R431, R432, R437, R438, Table 19-6) -/

section
variable {n : Nat} {slot : Bytes} {rest : List (Nat × Bytes)} {d : Dev} (hbufs : s.upd.bufs = (n, slot) :: rest)
  (hmode : s.core.mode ≠ .save) (hst : s.upd.st = 1)
  (hd : d = (s.modUpd (fun u => { u with bufs := rest })).stagErase (slotOff s.upd.header n) (4096 * uhK s.upd.header))
  (hstore : d.chtr.st = 2)
include hbufs hmode hst hd

theorem updPieceWritten_of_failed : updPieceWritten true s = d.latch Reg.UPD_ERR 5 := by
  subst hd
  unfold updPieceWritten
  rw [hbufs]
  dsimp only
  rw [if_neg (by simp [hmode, hst])]
  exact if_pos rfl

include hstore

/-- A piece other than piece 0 whose program passed is held where its slot reads back as the piece, and is erased where it does not. -/
theorem updPieceWritten_of_passed {e : Dev} (hn : n ≠ 0) (he : e = d.stagWrite (slotOff d.upd.header n) slot) :
    updPieceWritten false s =
      if e.slotHolds e.upd.session (e.upd.held.contains 0) n then e.modUpd (fun u => { u with held := insertN n u.held })
      else e.stagErase (slotOff e.upd.header n) (4096 * uhK e.upd.header) := by
  have hpassed : ¬ (false || decide (d.chtr.st ≠ 2)) = true := by simp [hstore]
  subst he hd
  unfold updPieceWritten
  rw [hbufs]
  dsimp only
  rw [if_neg (by simp [hmode, hst]), if_neg hpassed, if_neg hn]

end

theorem updIdleExpiry_of_receiving (hst : s.upd.st = 1) :
    updIdleExpiry s = ((s.latch Reg.UPD_ERR 4).updLog LT.UPD_ABANDON s.updImage 3).updFree := if_pos hst

theorem trialExpiry_of_trial (hst : s.upd.st = 4) (hfw : s.rdy Rdy.FW = true) : trialExpiry s = s.updConfirm :=
  if_pos (by simp [hst, hfw])

section
variable {src : Src} (hacc : s.accepts src Reg.UPD_CTL = true)
include hacc

/-- A write of UPD_CTL with ROLLBACK. -/
theorem updCtlWrite_rollback : updCtlWrite src 1 s = s.ctlRollback src := by
  rw [updCtlWrite, guarded_of_accepts _ hacc, if_pos (by decide)]

/-- A write of UPD_CTL with CONFIRM. -/
theorem updCtlWrite_confirm : updCtlWrite src 2 s = s.ctlConfirm src := by
  rw [updCtlWrite, guarded_of_accepts _ hacc, if_neg (by decide), if_pos (by decide)]

end

theorem ctlRollback_in_maintenance (src : Src) (hmode : s.core.mode = .maintenance) (hst : s.upd.st = 0 ∨ s.upd.st = 4) :
    s.ctlRollback src = if s.prevValid then (s.rollback 1).writeStatus src .ok else s.writeStatus src .notReady := by
  have hfree : ¬ (decide (s.upd.st ≠ 0) && decide (s.upd.st ≠ 4)) = true := by rcases hst with h | h <;> simp [h]
  unfold Dev.ctlRollback
  rw [if_neg (not_not.mpr hmode), if_neg hfree]
  cases s.prevValid <;> rfl

theorem ctlRollback_outside_maintenance (src : Src) (hmode : s.core.mode ≠ .maintenance) :
    s.ctlRollback src = s.writeStatus src .wrongMode := if_pos hmode

theorem ctlConfirm_of_trial (src : Src) (hst : s.upd.st = 4) : s.ctlConfirm src = s.updConfirm.writeStatus src .ok :=
  if_neg (not_not.mpr hst)

theorem ctlConfirm_without_trial (src : Src) (hst : s.upd.st ≠ 4) : s.ctlConfirm src = s.writeStatus src .notReady := if_pos hst

end

/-! ### The obligations -/

/-- Settles O28: an accepted command is served with what the session does. -/
theorem updateCommandsTakeEffect : Obligations.update_commands_take_effect := by
  intro p input s b
  refine ⟨?opens, ?piece, ?bitmap, ?abandon, ?commit, ?other⟩
  case opens =>
    rintro c op sal d hc hacc rfl hheader hst hd
    obtain ⟨hexec, hserve⟩ := exec_of_open_command hc
    rw [hexec, kxCommand_of_accepts hacc, hserve, updOpen_of_free hheader hst hd]
    rfl
  case piece =>
    rintro c op sal session n crc data d e hc hacc rfl rfl rfl rfl rfl hd hmine hst hn hlen hfirst hlater hheld hbufs hroom he
    obtain ⟨hexec, hserve⟩ := exec_of_piece_command hc
    have hgood : PieceAgrees d (leAt input 4 4) (input.drop 16) sal := by
      subst hd
      exact ⟨hfirst, hlater⟩
    rw [hexec, kxCommand_of_accepts hacc, hserve, updPiece_of_good hd hmine hst hn hlen hgood hheld hbufs hroom he]
    rfl
  case bitmap =>
    rintro hacc rfl hmine hlow hhigh
    rw [exec_kxUpdBitmap, kxCommand_of_accepts hacc, Dev.kxServe, updBitmap_of_count _ hmine hlow hhigh, kxPost]
    rfl
  case abandon =>
    rintro hacc rfl hmine hst
    rw [exec_kxUpdAbandon, kxCommand_of_accepts hacc, Dev.kxServe, updAbandon_of_owner hmine hst, kxPost, ite_self]
  case commit =>
    rintro c op sal d hc hacc rfl hcommit
    obtain ⟨hexec, hserve⟩ := exec_of_commit_command hc
    rw [hexec, kxCommand_of_accepts hacc, hserve, kxCommit_of_accepted hcommit]
  case other =>
    rintro c op sal hc hacc rfl hother
    rcases (List.mem_append (s := [_, _]) (t := [_, _])).mp hc with hcommit | hpiece
    · obtain ⟨hexec, hserve⟩ := exec_of_commit_command hcommit
      rw [hexec, kxCommand_of_accepts hacc, hserve, kxCommit_of_other_session hother]
    · obtain ⟨hexec, hserve⟩ := exec_of_piece_command hpiece
      rw [hexec, kxCommand_of_accepts hacc, hserve, updPiece_of_other_session _ _ _ hother, kxPost, ite_self]

/-- Settles O60: a piece by its read-back, the two expiries, and the two commands of UPD_CTL. -/
theorem updatesProgress : Obligations.updates_progress := by
  refine ⟨?written, ?idle, ?trial, ?control⟩
  case written =>
    intro n slot rest s d hbufs hmode hst hd hstore
    refine ⟨?failed, fun e hn he => ⟨fun hholds => ?held, fun hholds => ?erased⟩⟩
    case failed => rw [exec_updPieceWritten, updPieceWritten_of_failed hbufs hmode hst hd]
    case held => rw [exec_updPieceWritten, updPieceWritten_of_passed hbufs hmode hst hd hstore hn he, if_pos hholds]
    case erased =>
      rw [exec_updPieceWritten, updPieceWritten_of_passed hbufs hmode hst hd hstore hn he, if_neg (by rw [hholds]; decide)]
  case idle =>
    intro s hst
    rw [exec_updIdleExpiry, updIdleExpiry_of_receiving hst]
  case trial =>
    intro s hst hfw
    rw [exec_trialExpiry, trialExpiry_of_trial hst hfw]
  case control =>
    intro src s hacc
    refine ⟨fun hmode hst => ?_, fun hmode => ?_, fun hst => ?_, fun hst => ?_⟩
    · rw [exec_updCtlRollback, updCtlWrite_rollback hacc, ctlRollback_in_maintenance src hmode hst]
    · rw [exec_updCtlRollback, updCtlWrite_rollback hacc, ctlRollback_outside_maintenance src hmode]
    · rw [exec_updCtlConfirm, updCtlWrite_confirm hacc, ctlConfirm_of_trial src hst]
    · rw [exec_updCtlConfirm, updCtlWrite_confirm hacc, ctlConfirm_without_trial src hst]

end Sys2Proof.Laws
end
